-- ==== Sys2Proof/Word.lean ====
section
/-! DEFINITION. The word of the KN6020: 20 bits, word-addressed (00_scope R5, 05 R85), and sparse maps from Nat keys. -/
namespace Sys2Proof

/-- A 20-bit word of a register or of memory (R85). -/
abbrev Word := BitVec 20

/-- Sparse data by key: a list of key and value pairs, keys rising, no entry equal to what an unlisted key reads as. -/
abbrev SMap (α : Type) := List (Nat × α)

end Sys2Proof
end

