-- ==== Sys2Proof/Syntax.lean ====
section
/-! DEFINITION. The commands of the KN6020: one constructor per row of spec/opcode_table.json, with the row's operands,
and the operand types. An instruction row names the processor that executes it and carries the raw fields of its form
(R112); a row of firmware or of the outside world carries what that agent reports. -/
namespace Sys2Proof

/-- A Bearing processor: 0 and 1 are Helm0 and Helm1, 2 + n is the sequencer of cell Cn (R101). -/
abbrev ProcId := Fin 34
/-- A Helm core. -/
abbrev HelmId := Fin 2
/-- A control cell C0 to C31 (R11). -/
abbrev CellId := Fin 32
/-- A PWM channel W0 to W31. -/
abbrev ChanId := Fin 32
/-- A turret T0 to T3. -/
abbrev Turret := Fin 4
/-- A votable domain: 0 SXT, 1 FABRIC, 2 ANALOG, 3 MEM, 4 IFACE (domain index of R83 less one). -/
abbrev DomId := Fin 5
/-- A Turtelink slot. -/
abbrev Slot := Fin 8
/-- A Nguir stream (R373). -/
abbrev Stream := Fin 4
/-- A requester code of R100. -/
abbrev Req := BitVec 6

/-- The fields of a short-form instruction (R112); op is the row's own. -/
structure ShortF where
  cond : BitVec 3
  rd : BitVec 4
  rs : BitVec 4
  sub : BitVec 3
deriving DecidableEq, Repr

/-- The fields of a long-form instruction (R112): the first word's cond, rd and rs, and the second word. -/
structure LongF where
  cond : BitVec 3
  rd : BitVec 4
  rs : BitVec 4
  w2 : Word
deriving DecidableEq, Repr

/-- A reader of master time with a holding register of its own (R55, R167). -/
inductive MtReader where
  | helm (h : HelmId)
  | host
  | cell (c : CellId)
deriving DecidableEq, Repr

/-- What begins a state entry: a write to PWR_ENTRY or a firing standing order (R67). -/
inductive EntryCause where
  | write (q : Req) (v : Word)
  | order (n : Fin 8)
deriving DecidableEq, Repr

/-- A completed read group of the host port (R364, R365): the transaction's command byte, and whether the group is its first one
or follows another in a repeat read. -/
structure HostGroup where
  cmd : BitVec 8
  first : Bool
deriving DecidableEq, Repr

/-- What Helm0 reads at a policy tick (R269): the voltages of the DC input, the system bus and the pack in mV, the pack's
current in mA, and the state of charge in % that its voltage stands for. Powers and charge it takes from the counters (R281,
R287), a raw pack's temperature from its thermistor slot (R283). -/
structure PolicyReadings where
  dcMv : Nat
  busMv : Nat
  packMv : Nat
  packMa : Int
  soc : Nat
deriving DecidableEq, Repr

/-- The registers Helm0 reads from a smart pack (R285). -/
structure PackReading where
  cells : Nat
  voltage : Nat
  current : Int
  temperature : Int
  soc : Nat
  status : BitVec 16
  chargingCurrent : Nat
  chargingVoltage : Nat
deriving DecidableEq, Repr

/-- A Type-C attach: whether the partner supplies power, whether it uses PD, and the current its Rp advertises in mA (R276
to R278). -/
structure Attach where
  partnerSource : Bool
  pd : Bool
  rpMa : Nat
deriving DecidableEq, Repr

/-- A power data object (R278): a fixed offer, or a PPS range, in mV and mA. -/
inductive Pdo where
  | fixed (mv ma : Nat)
  | pps (minMv maxMv ma : Nat)
deriving DecidableEq, Repr

/-- A fetch of a microword: the word that the micro-store ROM gave, which is the ROM's where the parity held, and whether it did
(R327, R335). A fetch from the patch RAM takes the patch microword of State instead (R338). -/
structure MicroFetch where
  rom : Word
  ok : Bool
deriving DecidableEq, Repr


/-- The commands of the block: one constructor per row of spec/opcode_table.json. -/
inductive Instr where
  /-- MOV (R130). Short-form MOV copies rs to rd. -/
  | mov (p : ProcId) (f : ShortF)
  /-- ADD (R130). Short-form ADD adds rs to rd and updates cell flags. -/
  | add (p : ProcId) (f : ShortF)
  /-- SUB (R130). Short-form SUB subtracts rs from rd and updates cell flags. -/
  | sub (p : ProcId) (f : ShortF)
  /-- AND (R130). Short-form AND of rd and rs into rd. -/
  | and (p : ProcId) (f : ShortF)
  /-- OR (R130). Short-form OR of rd and rs into rd. -/
  | or (p : ProcId) (f : ShortF)
  /-- XOR (R130). Short-form XOR of rd and rs into rd. -/
  | xor (p : ProcId) (f : ShortF)
  /-- NOT (R130). Short-form NOT writes the complement of rs to rd. -/
  | not (p : ProcId) (f : ShortF)
  /-- NEG (R135). NEG negates rs into rd; Helm wraps 0x80000, the cell dialect saturates and sets V. -/
  | neg (p : ProcId) (f : ShortF)
  /-- ADDI (R130). Short-form ADDI adds an unsigned imm3 to rd. -/
  | addi (p : ProcId) (f : ShortF)
  /-- SUBI (R130). Short-form SUBI subtracts an unsigned imm3 from rd. -/
  | subi (p : ProcId) (f : ShortF)
  /-- SHL (R134). Short-form left shift of rd by rs[4:0]. -/
  | shl (p : ProcId) (f : ShortF)
  /-- SHR (R134). Short-form logical right shift of rd by rs[4:0]. -/
  | shr (p : ProcId) (f : ShortF)
  /-- SAR (R134). Short-form arithmetic right shift of rd by rs[4:0]. -/
  | sar (p : ProcId) (f : ShortF)
  /-- CMP (R133). Cell-dialect CMP sets flags from rd minus rs. -/
  | cmp (p : ProcId) (f : ShortF)
  /-- TST (R133). Cell-dialect TST sets flags from rd AND rs. -/
  | tst (p : ProcId) (f : ShortF)
  /-- LD (R138). Short-form load from rs plus imm3, stalling until the word returns. -/
  | ld (p : ProcId) (f : ShortF)
  /-- ST (R138). Short-form posted store to rs plus imm3. -/
  | st (p : ProcId) (f : ShortF)
  /-- LD_UPDATE (R117). Load single or pair with post-increment or pre-decrement of the base. -/
  | ldUpdate (p : ProcId) (f : ShortF)
  /-- ST_UPDATE (R117). Store single or pair with post-increment or pre-decrement of the base. -/
  | stUpdate (p : ProcId) (f : ShortF)
  /-- MUL (R136). Signed multiply of rd and rs, product due in MH:ML 3 cycles later. -/
  | mul (p : ProcId) (f : ShortF)
  /-- MULU (R136). Unsigned multiply of rd and rs, product due in MH:ML 3 cycles later. -/
  | mulu (p : ProcId) (f : ShortF)
  /-- MAC (R136). Signed multiply-accumulate onto MH:ML, written 3 cycles later. -/
  | mac (p : ProcId) (f : ShortF)
  /-- DIV (R137). Helm signed divide, result due 12 cycles later, or TRAP 15 on division by zero with dzt set. -/
  | div (p : ProcId) (f : ShortF)
  /-- DIVU (R137). Helm unsigned divide, result due 12 cycles later. -/
  | divu (p : ProcId) (f : ShortF)
  /-- MFS (R103). Reads a special register into a general register. -/
  | mfs (p : ProcId) (f : ShortF)
  /-- MTS (R103). Writes a general register to a writable special register. -/
  | mts (p : ProcId) (f : ShortF)
  /-- JR (R139). Jumps to the address in rs. -/
  | jr (p : ProcId) (f : ShortF)
  /-- CALLR (R139). Pushes PC + 1 and jumps to rs. -/
  | callr (p : ProcId) (f : ShortF)
  /-- RET (R139). Pops the return address into PC. -/
  | ret (p : ProcId) (f : ShortF)
  /-- RETI (R122). Pops STATUS and then PC on a Helm core. -/
  | reti (p : ProcId) (f : ShortF)
  /-- NOP (R130). Does nothing for one cycle. -/
  | nop (p : ProcId) (f : ShortF)
  /-- WFE (R140). Clears the event bit and completes, or waits for an event. -/
  | wfe (p : ProcId) (f : ShortF)
  /-- SEV (R141). Sends an event to every cell and Helm core in the pair mask, one fabric cycle later. -/
  | sev (p : ProcId) (f : ShortF)
  /-- WAITT (R142). Waits until the low 40 bits of master time reach the target in the pair. -/
  | waitt (p : ProcId) (f : ShortF)
  /-- TRAP (R139). Enters exception 8 + n on a Helm core. -/
  | trap (p : ProcId) (f : ShortF)
  /-- ADD3 (R131). Long-form three-register ADD. -/
  | add3 (p : ProcId) (f : LongF)
  /-- SUB3 (R131). Long-form three-register SUB. -/
  | sub3 (p : ProcId) (f : LongF)
  /-- AND3 (R131). Long-form three-register AND. -/
  | and3 (p : ProcId) (f : LongF)
  /-- OR3 (R131). Long-form three-register OR. -/
  | or3 (p : ProcId) (f : LongF)
  /-- XOR3 (R131). Long-form three-register XOR. -/
  | xor3 (p : ProcId) (f : LongF)
  /-- SHL3 (R134). Long-form left shift of rs by rt[4:0]. -/
  | shl3 (p : ProcId) (f : LongF)
  /-- SHR3 (R134). Long-form logical right shift of rs by rt[4:0]. -/
  | shr3 (p : ProcId) (f : LongF)
  /-- SAR3 (R134). Long-form arithmetic right shift of rs by rt[4:0]. -/
  | sar3 (p : ProcId) (f : LongF)
  /-- ADDI16 (R131). Long-form ADDI with a sign-extended 16-bit immediate. -/
  | addi16 (p : ProcId) (f : LongF)
  /-- ANDI (R131). AND with a zero-extended 16-bit immediate. -/
  | andi (p : ProcId) (f : LongF)
  /-- ORI (R131). OR with a zero-extended 16-bit immediate. -/
  | ori (p : ProcId) (f : LongF)
  /-- XORI (R131). XOR with a zero-extended 16-bit immediate. -/
  | xori (p : ProcId) (f : LongF)
  /-- SHLI (R134). Left shift by an immediate count 0-19. -/
  | shli (p : ProcId) (f : LongF)
  /-- SHRI (R134). Logical right shift by an immediate count 0-19. -/
  | shri (p : ProcId) (f : LongF)
  /-- SARI (R134). Arithmetic right shift by an immediate count 0-19. -/
  | sari (p : ProcId) (f : LongF)
  /-- CMPI (R131). Cell-dialect compare of rd with a sign-extended immediate. -/
  | cmpi (p : ProcId) (f : LongF)
  /-- LDI (R131). Loads a 20-bit immediate into rd. -/
  | ldi (p : ProcId) (f : LongF)
  /-- SEQ (R131). Sets rd to 1 if rs equals rt. -/
  | seq (p : ProcId) (f : LongF)
  /-- SNE (R131). Sets rd to 1 if rs differs from rt. -/
  | sne (p : ProcId) (f : LongF)
  /-- SLT (R131). Sets rd to 1 if rs is signed less than rt. -/
  | slt (p : ProcId) (f : LongF)
  /-- SLTU (R131). Sets rd to 1 if rs is unsigned less than rt. -/
  | sltu (p : ProcId) (f : LongF)
  /-- CARRY (R131). Sets rd to the carry of rs plus rt. -/
  | carry (p : ProcId) (f : LongF)
  /-- SNEGOV (R131). Sets rd to 1 if rs is 0x80000. -/
  | snegov (p : ProcId) (f : LongF)
  /-- LD20 (R131). Long-form load with a 20-bit displacement. -/
  | ld20 (p : ProcId) (f : LongF)
  /-- ST20 (R131). Long-form posted store with a 20-bit displacement. -/
  | st20 (p : ProcId) (f : LongF)
  /-- LDP (R131). Long-form pair load with a 20-bit displacement. -/
  | ldp (p : ProcId) (f : LongF)
  /-- STP (R131). Long-form pair store with a 20-bit displacement. -/
  | stp (p : ProcId) (f : LongF)
  /-- LDX (R131). Indexed single-word load. -/
  | ldx (p : ProcId) (f : LongF)
  /-- STX (R131). Indexed single-word store. -/
  | stx (p : ProcId) (f : LongF)
  /-- LDPX (R131). Indexed pair load. -/
  | ldpx (p : ProcId) (f : LongF)
  /-- STPX (R131). Indexed pair store. -/
  | stpx (p : ProcId) (f : LongF)
  /-- JMP (R139). Jumps to a 20-bit address. -/
  | jmp (p : ProcId) (f : LongF)
  /-- CALL (R139). Pushes PC + 2 and jumps to a 20-bit address. -/
  | call (p : ProcId) (f : LongF)
  /-- BZ (R131). Branches PC-relative if rs is zero. -/
  | bz (p : ProcId) (f : LongF)
  /-- BNZ (R131). Branches PC-relative if rs is non-zero. -/
  | bnz (p : ProcId) (f : LongF)
  /-- MULTIPLY_RESULT_WRITE (R105). A multiply result is written to MH:ML exactly 3 cycles after issue. -/
  | multiplyResultWrite (p : ProcId)
  /-- DIVIDE_RESULT_WRITE (R137). A divide result and its dz or ovf flag are written 12 cycles after issue. -/
  | divideResultWrite (p : ProcId)
  /-- POSTED_STORE_COMPLETE (R138). A posted store completes and releases the processor's next memory access. -/
  | postedStoreComplete (p : ProcId)
  /-- WFE_COMPLETE (R140). A waiting WFE ends when its event bit is set, clearing the bit. -/
  | wfeComplete (p : ProcId)
  /-- WAITT_COMPLETE (R142). A waiting WAITT ends when master time reaches its target. -/
  | waittComplete (p : ProcId)
  /-- IRQ_ENTRY (R125). A pending enabled IRQ of sufficient level is taken at an instruction boundary. -/
  | irqEntry (h : HelmId)
  /-- NMI_ENTRY (R120). A raised NMI is taken at an instruction boundary, or held pending while nmi is set. -/
  | nmiEntry (h : HelmId)
  /-- BUS_GRANT (R93). The device arbiter grants one pending access per fabric cycle in fixed rotation. -/
  | busGrant
  /-- REGISTER_WRITE (R6). A write to a register field with no behaviour of its own, per its type. -/
  | registerWrite (q : Req) (a v : Word)
  /-- MT_LOW_READ (R55). A read of the low master-time word copies the middle and high words into the reader's holding register. -/
  | mtLowRead (r : MtReader)
  /-- COUNTER_LOW_READ (R291). A read of a live counter's low word holds its high word for the reader. -/
  | counterLowRead (q : Req) (i : Fin 320)
  /-- REFCLK_QUALIFIED (R42). Eight in-window REFCLK edges set ref_ok and start locking. -/
  | refclkQualified
  /-- QUALIFICATION_FAIL (R42). An edge outside the window or a missing edge before lock clears ref_ok and restarts qualification. -/
  | qualificationFail
  /-- LOCK (R50). The main oscillator locks, setting lock and clearing coast, and the fabric returns to MERIDIAN. -/
  | lock
  /-- LOCK_FAIL (R42). Lock not set within 128 REFCLK periods sets lock_fail and retries qualification. -/
  | lockFail
  /-- REFERENCE_LOSS (R48). A missing or early REFCLK edge while locked in RUN or DOZE moves domains to COAST and applies cell actions and NMIs. -/
  | referenceLoss
  /-- REFERENCE_LOSS_SLATE_HOLD (R51). Reference loss in SLATE or HOLD is declared without cell actions or NMIs. -/
  | referenceLossSlateHold
  /-- CLK_SWITCH_WRITE (R44). A write to CLK_SWITCH requests sources for the Helm, Sextant and bus domains, accepting or refusing each. -/
  | clkSwitchWrite (q : Req) (v : Word)
  /-- CLOCK_SWITCH_COMPLETE (R46). An accepted domain switch completes at the target source's next aligned edge. -/
  | clockSwitchComplete
  /-- DIVISOR_CHANGE (R41). An ordered divisor change takes effect at the next alignment point. -/
  | divisorChange
  /-- MT_HANDOVER (R53). Keep's count takes the fabric counter's value at a REFCLK edge before the fabric powers down. -/
  | mtHandover
  /-- FABRIC_COUNTER_LOAD (R53). The fabric counter is loaded from Keep's count at the first REFCLK edge after lock, making FABRIC ready. -/
  | fabricCounterLoad
  /-- BROWN_OUT (R61). VBUCK below threshold writes the wake record, resets all but KEEP and wakes into RUN. -/
  | brownOut
  /-- STATE_ENTRY (R76). A write to PWR_ENTRY or a firing order begins an entry to DOZE, SLATE or HOLD. -/
  | stateEntry (c : EntryCause)
  /-- ENTRY_CELLS_STOPPED (R76). Once every cell and software channel has stopped, the entry proceeds to stop the Helm cores and retain domains. -/
  | entryCellsStopped
  /-- HANDSHAKE_ASK (R77). Under the KN4000 handshake the controller asks the next block, which agrees, refuses or delays. -/
  | handshakeAsk (delays : Bool)
  /-- HANDSHAKE_TIMEOUT (R77). A delay outlasting PWR_HS_TIMEOUT counts as a refusal. -/
  | handshakeTimeout
  /-- STANDING_ORDER_EVALUATION (R71). Once per second Keep evaluates the standing-order rules and fires the lowest complete one. -/
  | standingOrderEvaluation
  /-- VOTE_SET (R72). PWR_VOTE_CMD with set = 1 sets a firmware client's vote on a domain. -/
  | voteSet (q : Req) (v : Word)
  /-- VOTE_WITHDRAW (R72). PWR_VOTE_CMD with set = 0 withdraws a firmware client's vote. -/
  | voteWithdraw (q : Req) (v : Word)
  /-- DOMAIN_RETENTION_ENTRY (R73). A domain with no votes enters retention once its in-flight accesses complete. -/
  | domainRetentionEntry (d : DomId)
  /-- DOMAIN_READY (R73). A domain leaving retention becomes ready and stalled submits proceed. -/
  | domainReady (d : DomId)
  /-- PL_CHANGE (R66). A write to PWR_PL orders a performance-level change of CORE or SXT. -/
  | plChange (q : Req) (v : Word)
  /-- PL_CHANGE_COMPLETE (R66). The voltage ramp, settling and divisor change finish and busy clears. -/
  | plChangeComplete
  /-- WAKE_EVENT (R79). An enabled wake source event in DOZE, SLATE or HOLD starts a wake, or is latched during an entry. -/
  | wakeEvent (src : BitVec 5)
  /-- WAKE_STEP (R81). A wake-sequence step ends at its ready signal and the next begins. -/
  | wakeStep
  /-- WAKE_COMPLETE (R82). At the first Helm instruction after wake the wake record is written and latched events are replayed. -/
  | wakeComplete
  /-- PAD_HOLD_RELEASE (R34). A write of 1 to a PWR_PADHOLD bit releases a held pad group. -/
  | padHoldRelease (q : Req) (v : Word)
  /-- PAD_WRITE (R29). A write to BUS_PADp is taken whole, in part or discarded as a conflict by ownership. -/
  | padWrite (q : Req) (p : Fin 285) (v : Word)
  /-- BUS_CLAIM (R98). A claim command records an owner for a free resource or is refused. -/
  | busClaim (q : Req) (v : Word)
  /-- BUS_RELEASE (R98). A release command frees a resource held by the named owner. -/
  | busRelease (q : Req) (v : Word)
  /-- BUS_QUERY (R98). A query command reports a resource's current owner. -/
  | busQuery (q : Req) (v : Word)
  /-- CONVERSION_END (R237). The last conversion of a burst ends and the slot value is formed and delivered 2 cycles later. -/
  | conversionEnd (k : Fin 16) (code : Int)
  /-- RIPPLE_LOCK_TIMEOUT (R198). No crossing for 2 x PMAX x 64 cycles clears lock and sets lost. -/
  | rippleLockTimeout (m : Fin 8)
  /-- FAST_PATH_COMPLETE (R150). L cycles after start the output is written and sent to channels, cascades or the vector unit. -/
  | fastPathComplete (c : CellId)
  /-- FORWARD_JOB_START (R153). A vector-unit forward job starts when the forward stage is free. -/
  | forwardJobStart (t : Turret)
  /-- FORWARD_JOB_END (R153). A forward job delivers i_d and i_q and triggers both fast paths. -/
  | forwardJobEnd (t : Turret)
  /-- INVERSE_JOB_START (R154). An inverse job starts once both commands are delivered and the stage is free. -/
  | inverseJobStart (t : Turret)
  /-- INVERSE_JOB_END (R154). An inverse job sends three phase duties to the drive's channels. -/
  | inverseJobEnd (t : Turret)
  /-- CELL_ENABLE (R157). A write of en = 1 arms the cell to start at its next control-period boundary. -/
  | cellEnable (q : Req) (c : CellId)
  /-- CELL_DISABLE (R157). A write of en = 0 stops the cell and drives its channels safe. -/
  | cellDisable (q : Req) (c : CellId)
  /-- CELL_STANDBY (R160). A write of CELL_STANDBY stands the cell down or resumes it at its next boundary. -/
  | cellStandby (q : Req) (c : CellId) (v : Word)
  /-- PERIOD_BOUNDARY (R207). A channel period boundary arrives, setting edges and serving as control-period boundary for its cells. -/
  | periodBoundary (w : ChanId)
  /-- COMMIT (R182). A write of CELL_COMMIT.commit sets pending and begins the staging-bank check. -/
  | commit (q : Req) (c : CellId)
  /-- COMMIT_ACK (R185). A write of CELL_COMMIT.ack clears held and starts any waiting commit. -/
  | commitAck (q : Req) (c : CellId)
  /-- COMMIT_CHECK_COMPLETE (R182). The 64-cycle parity check ends; a disabled cell commits or rejects in the next cycle. -/
  | commitCheckComplete (c : CellId)
  /-- BANK_COPY_COMPLETE (R184). The refill of the new staging bank ends and stalled staging accesses proceed. -/
  | bankCopyComplete (c : CellId)
  /-- STAGING_WRITE (R185). A staging-window write is performed or discarded with cfg_err while a commit is pending. -/
  | stagingWrite (q : Req) (c : CellId) (w : Fin 128) (v : Word)
  /-- SEQUENCER_START (R164). A write of start runs a stopped sequencer from its entry offset. -/
  | sequencerStart (q : Req) (c : CellId)
  /-- SEQUENCER_STOP (R164). A write of stop requests the sequencer to halt. -/
  | sequencerStop (q : Req) (c : CellId)
  /-- SEQUENCER_HALT (R164). The sequencer halts at its next instruction boundary once posted stores complete. -/
  | sequencerHalt (c : CellId)
  /-- EDGE_FIRE (R212). A scheduled edge of s fires in its fabric cycle with its fine delay. -/
  | edgeFire (w : ChanId)
  /-- DEAD_TIME_END (R217). An output rises when its dead time after an edge of s ends. -/
  | deadTimeEnd (w : ChanId) (high : Bool)
  /-- MIN_PULSE_END (R218). A WnH pulse held open by the minimum-pulse floor falls at that point. -/
  | minPulseEnd (w : ChanId)
  /-- SWDUTY_WRITE (R209). A write of PWM_SWDUTY takes effect from the second cycle after it completes. -/
  | swdutyWrite (q : Req) (w : ChanId) (v : Word)
  /-- CHANNEL_ENABLE (R225). A write of PWM_CTRL.en = 1 lets the channel leave safe state at its next boundary. -/
  | channelEnable (q : Req) (w : ChanId)
  /-- CHANNEL_DISABLE (R224). A write of PWM_CTRL.en = 0 requests the safe state at once. -/
  | channelDisable (q : Req) (w : ChanId)
  /-- CALIBRATION_SETTLED (R213). A channel's delay-line calibration settles and fine delay begins. -/
  | calibrationSettled (w : ChanId)
  /-- ADC_TRIGGER (R234). A sequencer entry's trigger cycle arrives and a burst request is queued or dropped. -/
  | adcTrigger (t : Turret) (e : Fin 16)
  /-- ADC_SOFTWARE_TRIGGER (R234). A write to ADC_SWTRIGt triggers software-kind entries. -/
  | adcSoftwareTrigger (q : Req) (t : Turret) (v : Word)
  /-- SAMPLING_INSTANT (R235). A waiting request takes its sampling instant when the converter permits. -/
  | samplingInstant (k : Fin 16)
  /-- REFERENCE_SETTLED (R230). The 1.800 V reference settles and ref_ok sets. -/
  | referenceSettled
  /-- COMPARATOR_CHANGE (R240). A comparator becomes active or inactive as its input crosses the threshold. -/
  | comparatorChange (k : Fin 64) (level : Nat)
  /-- BLANKING_END (R242). A comparator still active at the end of blanking fires. -/
  | blankingEnd (k : Fin 64)
  /-- PROT_TRIP_CLEAR (R246). Helm0 clears a PROT_TRIP bit, letting named channels leave safe state. -/
  | protTripClear (q : Req) (v : Word)
  /-- PROT_ENTRY_ENABLE (R247). A write of en = 1 claims the entry's comparator or slot for the protection set. -/
  | protEntryEnable (q : Req) (i : Fin 16) (v : Word)
  /-- PROT_LOCK (R247). A write of 1 to PROT_LOCK.lock locks the protection set. -/
  | protLock (q : Req) (v : Word)
  /-- POSITION_EDGE (R252). An accepted sensor edge updates angle, turns, speed and direction. -/
  | positionEdge (n : Fin 3) (lv : BitVec 6)
  /-- SPEED_TIMEOUT (R258). No edge for tmo x 16 384 cycles sets speed to 0 and invalid. -/
  | speedTimeout (n : Fin 3)
  /-- SSI_FRAME_START (R255). An SSI frame starts at its interval, or is skipped with ssi_err. -/
  | ssiFrameStart (n : Fin 3) (qnb : Bool)
  /-- SSI_FRAME_END (R255). The SSI frame's position is decoded and values update. -/
  | ssiFrameEnd (n : Fin 3) (data : Word)
  /-- TURNS_CLEAR (R257). A write of 0 to POS_n_TURNS0 clears the turn count. -/
  | turnsClear (q : Req) (n : Fin 3) (v : Word)
  /-- POS_CTRL_WRITE (R260). A write to POS_n_CTRL enables or disables the interface, refused for other fields while enabled. -/
  | posCtrlWrite (q : Req) (n : Fin 3) (v : Word)
  /-- EMU_STEP (R262). An emulation output steps its count towards the target at most once per minedge. -/
  | emuStep (m : Fin 2)
  /-- POLICY_TICK (R269). Each 1 ms Helm0 applies bounds, handles sources, allocates power and writes results. -/
  | policyTick (x : PolicyReadings)
  /-- DC_CLASSIFY (R273). Within 200 ms of DC input rising Helm0 classifies it. -/
  | dcClassify (mean sag1 sag2 : Nat)
  /-- DC_INPUT_REMOVED (R273). DC input below 3.8 V for 2 ticks counts as removed. -/
  | dcInputRemoved
  /-- MPPT_STEP (R274). Every 50 ms the SOFT-input reference moves by perturb and observe. -/
  | mpptStep (mv : Nat)
  /-- OPEN_CIRCUIT_MEASURE (R274). Every 30 s the SOFT input is released for 5 ms and remeasured. -/
  | openCircuitMeasure (mv : Option Nat)
  /-- GENERATOR_CLIMB (R275). Every 50 ms the dynamo q-current reference climbs towards maximum power. -/
  | generatorClimb (power : Nat)
  /-- GENERATOR_SPEED_LOST (R275). Speed invalid for 50 ms sets the generator reference to 0. -/
  | generatorSpeedLost
  /-- BATTERY_POLL (R285). Once per second Helm0 reads the smart pack's registers. -/
  | batteryPoll (r : Option PackReading)
  /-- CHARGE_DONE_TIMEOUT (R284). CV current below ITERM for 60 s enters DONE. -/
  | chargeDoneTimeout
  /-- PRE_CHARGE_TIMEOUT (R284). A PRE phase longer than 30 min stops charging as a pack fault. -/
  | preChargeTimeout
  /-- SOC_RESET (R287). After 30 min under 50 mA the raw-pack charge count resets from open-circuit voltage. -/
  | socReset (soc : Nat)
  /-- PD_ATTACH (R277). A Type-C attach on a port sets terminations and starts contract negotiation. -/
  | pdAttach (port : Fin 3) (x : Attach)
  /-- PD_DETACH (R282). A detach on a port removes the source or sink. -/
  | pdDetach (port : Fin 3)
  /-- SOURCE_CAPABILITIES (R278). On received Source_Capabilities, Helm1 requests the best offer. -/
  | sourceCapabilities (port : Fin 3) (offers : List Pdo)
  /-- DISCOVER_SVIDS (R277). Discover SVIDs is answered with NAK. -/
  | discoverSvids (port : Fin 3)
  /-- DISCOVER_MODES (R277). Discover Modes is answered with NAK. -/
  | discoverModes (port : Fin 3)
  /-- UNSUPPORTED_PD_MESSAGE (R277). Any other unsupported PD message is answered with Not_Supported. -/
  | unsupportedPdMessage (port : Fin 3)
  /-- PR_SWAP (R276). A power-role swap is accepted on dual-role ports. -/
  | prSwap (port : Fin 3)
  /-- DR_SWAP (R276). A data-role swap is accepted. -/
  | drSwap (port : Fin 3)
  /-- VCONN_SWAP (R276). A VCONN swap is accepted. -/
  | vconnSwap (port : Fin 3)
  /-- HARD_RESET (R279). A PD Hard Reset ends a contract, counted as a source loss. -/
  | hardReset (port : Fin 3)
  /-- FIX_TRIG (R292). A Helm write of FIX_CTRL.trig triggers a Fix. -/
  | fixTrig (q : Req)
  /-- FIX_HOST (R292). A write of FIX_CTRL.host triggers a Fix for the host. -/
  | fixHost (q : Req)
  /-- FIX_PERIODIC (R295). The periodic compare reaching CMP triggers a Fix and advances CMP. -/
  | fixPeriodic
  /-- FIX_COMPLETE (R293). The transfer ends and unpinned, the target bank becomes current with its sequence number. -/
  | fixComplete
  /-- FIX_OPEN (R296). A read of FIX_OPEN pins the current bank for the reader. -/
  | fixOpen (q : Req)
  /-- FIX_CLOSE (R296). A write of 1 to FIX_CLOSE.close releases the reader's pin. -/
  | fixClose (q : Req) (v : Word)
  /-- LOG_RECORD_WRITE (R302). Every 8 cycles the writer stores one queued record in the event region. -/
  | logRecordWrite
  /-- LOG_SWREC (R301). A write to LOG_SWREC queues a firmware record. -/
  | logSwrec (q : Req) (v : Word)
  /-- TRACE_ARM (R304). Setting arm clears the count and enters the pre-trigger state. -/
  | traceArm (q : Req) (v : Word)
  /-- TRACE_DISARM (R304). Writing arm = 0 disarms and ends the capture. -/
  | traceDisarm (q : Req) (v : Word)
  /-- TRACE_SOFTWARE_TRIGGER (R304). A write of swtrig triggers the armed trace. -/
  | traceSoftwareTrigger (q : Req)
  /-- TRACE_SAMPLE (R303). A trace sample set is taken at its scheduled cycle, and the capture ends after its post-trigger sets. -/
  | traceSample
  /-- SXT_SUBMIT_INTERACTIVE (R316). A write to SXT_SUBMIT0 enqueues a request on the interactive queue. -/
  | sxtSubmitInteractive (q : Req) (a : Word)
  /-- SXT_SUBMIT_BULK (R316). A write to SXT_SUBMIT1 enqueues a request on the bulk queue. -/
  | sxtSubmitBulk (q : Req) (a : Word)
  /-- SXT_DONE_READ (R320). A read of SXT_DONEq removes the completion word and frees the queue place. -/
  | sxtDoneRead (q : Req) (bulk : Bool)
  /-- SXT_ADD (R312). Decimal ADD operation. -/
  | sxtAdd
  /-- SXT_SUB (R312). Decimal SUB operation. -/
  | sxtSub
  /-- SXT_MUL (R312). Decimal MUL operation. -/
  | sxtMul
  /-- SXT_DIV (R312). Decimal DIV operation. -/
  | sxtDiv
  /-- SXT_REM (R312). Decimal REM operation. -/
  | sxtRem
  /-- SXT_SQRT (R312). Decimal SQRT operation. -/
  | sxtSqrt
  /-- SXT_SQR (R312). Decimal SQR operation. -/
  | sxtSqr
  /-- SXT_POW (R312). Decimal POW operation. -/
  | sxtPow
  /-- SXT_EXP (R312). Decimal EXP operation. -/
  | sxtExp
  /-- SXT_LN (R312). Decimal LN operation. -/
  | sxtLn
  /-- SXT_EXP10 (R312). Decimal EXP10 operation. -/
  | sxtExp10
  /-- SXT_LOG10 (R312). Decimal LOG10 operation. -/
  | sxtLog10
  /-- SXT_SIN (R312). Decimal SIN operation in the request's unit. -/
  | sxtSin
  /-- SXT_COS (R312). Decimal COS operation in the request's unit. -/
  | sxtCos
  /-- SXT_TAN (R312). Decimal TAN operation in the request's unit. -/
  | sxtTan
  /-- SXT_ASIN (R312). Decimal ASIN operation. -/
  | sxtAsin
  /-- SXT_ACOS (R312). Decimal ACOS operation. -/
  | sxtAcos
  /-- SXT_ATAN (R312). Decimal ATAN operation. -/
  | sxtAtan
  /-- SXT_ATAN2 (R312). Decimal ATAN2 operation. -/
  | sxtAtan2
  /-- SXT_SINH (R312). Decimal SINH operation. -/
  | sxtSinh
  /-- SXT_COSH (R312). Decimal COSH operation. -/
  | sxtCosh
  /-- SXT_TANH (R312). Decimal TANH operation. -/
  | sxtTanh
  /-- SXT_ASINH (R312). Decimal ASINH operation. -/
  | sxtAsinh
  /-- SXT_ACOSH (R312). Decimal ACOSH operation. -/
  | sxtAcosh
  /-- SXT_ATANH (R312). Decimal ATANH operation. -/
  | sxtAtanh
  /-- SXT_FACT (R312). Decimal FACT operation. -/
  | sxtFact
  /-- SXT_NCR (R312). Decimal NCR operation. -/
  | sxtNcr
  /-- SXT_NPR (R312). Decimal NPR operation. -/
  | sxtNpr
  /-- FROM_INT40 (R312). Converts a 40-bit integer pair to decimal. -/
  | fromInt40
  /-- TO_INT40 (R312). Rounds a decimal to a 40-bit integer pair. -/
  | toInt40
  /-- INTEGRAL (R312). Rounds a decimal to an integer in decimal. -/
  | integral
  /-- TO_RAD (R312). Converts an angle to radians. -/
  | toRad
  /-- FROM_RAD (R312). Converts an angle from radians. -/
  | fromRad
  /-- STAT_CLR (R313). Clears a statistics set. -/
  | statClr
  /-- STAT_ADD (R313). Enters a point into a statistics set. -/
  | statAdd
  /-- STAT_DEL (R313). Removes a point from a statistics set. -/
  | statDel
  /-- STAT_MEAN (R312). Computes the means of a statistics set. -/
  | statMean
  /-- STAT_SDEV (R312). Computes sample standard deviations. -/
  | statSdev
  /-- STAT_PSDEV (R312). Computes population standard deviations. -/
  | statPsdev
  /-- STAT_LINREG (R312). Computes slope, intercept and correlation. -/
  | statLinreg
  /-- STAT_EST_Y (R312). Estimates y from x by the regression. -/
  | statEstY
  /-- STAT_EST_X (R312). Estimates x from y by the regression. -/
  | statEstX
  /-- BADOP (R330). An undefined decimal opcode completes with BADOP and quiet-NaN results. -/
  | badop
  /-- MICRO_NANO (R328). A NANO microword executes a nanoword on bound working registers. -/
  | microNano (x : MicroFetch) (nano : BitVec 128) (nanoOk : Bool)
  /-- MICRO_JUMP (R328). A SEQ jump microword. -/
  | microJump (x : MicroFetch)
  /-- MICRO_CALL (R328). A SEQ call microword pushes the micro-stack. -/
  | microCall (x : MicroFetch)
  /-- MICRO_RETURN (R328). A SEQ return microword pops the micro-stack. -/
  | microReturn (x : MicroFetch)
  /-- MICRO_DISPATCH (R330). A dispatch jumps through the opcode's dispatch entry. -/
  | microDispatch (x : MicroFetch) (entry : BitVec 13) (entryOk : Bool)
  /-- MICRO_BRANCH (R328). A BRANCH microword jumps if its condition holds. -/
  | microBranch (x : MicroFetch)
  /-- MICRO_LIT (R328). A LIT microword loads a literal into a working register. -/
  | microLit (x : MicroFetch)
  /-- MICRO_SAFE (R331). A safe point commits visible state, writes the token and admits preemption or stop. -/
  | microSafe (x : MicroFetch)
  /-- MICRO_END (R319). An END microword completes the operation and places its completion word. -/
  | microEnd (x : MicroFetch)
  /-- HORIZONTAL_WORD (R329). A horizontal word drives all resources directly in self-test, checking or recovery. -/
  | horizontalWord (a : BitVec 8) (w : BitVec 128) (ok : Bool)
  /-- BULK_RESUME (R334). A preempted bulk operation reloads its context and resumes from its token. -/
  | bulkResume (bad : Option (BitVec 8))
  /-- MCHK_REREAD (R335). 64 cycles after detection the word is re-read; recovery resumes or the error becomes persistent. -/
  | mchkReread (ok : Bool)
  /-- SXT_SELFTEST (R337). The horizontal start-up self-test finishes and records pass or the failing stage. -/
  | sxtSelftest (pass : Bool) (stage : BitVec 2)
  /-- PATCH_HOLD (R340). A write of hold = 1 stops Sextant starting operations for patch loading. -/
  | patchHold (q : Req)
  /-- PATCH_RELEASE (R340). A write of hold = 0 resumes operations, discarding a partial record. -/
  | patchRelease (q : Req)
  /-- PATCH_DATA (R340). A write to SXT_PATCH_DATA takes the next record word, checking and arming at the last. -/
  | patchData (q : Req) (v : Word)
  /-- CALC_CLEAR (R322). A write of SXT_CALC_CTRL.clr clears memories, history, S0 and entry. -/
  | calcClear (q : Req)
  /-- CALC_DIGIT (R325). A digit key enters a digit. -/
  | calcDigit (n : Fin 10)
  /-- CALC_DECIMAL_POINT (R324). Enters the decimal point. -/
  | calcDecimalPoint
  /-- CALC_EXP (R324). Begins exponent entry. -/
  | calcExp
  /-- CALC_SIGN (R324). The sign key changes the sign of the mantissa or exponent. -/
  | calcSign
  /-- CALC_DEL (R324). DEL removes the last entered character. -/
  | calcDel
  /-- CALC_C (R324). C clears the entry. -/
  | calcC
  /-- CALC_AC (R324). AC clears the entry and all pending operations. -/
  | calcAc
  /-- CALC_PLUS (R325). Binary + operator. -/
  | calcPlus
  /-- CALC_MINUS (R325). Binary - operator. -/
  | calcMinus
  /-- CALC_TIMES (R325). Binary x operator. -/
  | calcTimes
  /-- CALC_DIVIDE (R325). Binary / operator. -/
  | calcDivide
  /-- CALC_Y_POW_X (R325). Right-grouping y^x operator. -/
  | calcYPowX
  /-- CALC_NCR (R325). nCr operator. -/
  | calcNcr
  /-- CALC_NPR (R325). nPr operator. -/
  | calcNpr
  /-- CALC_OPEN_PAREN (R325). Opens a parenthesis. -/
  | calcOpenParen
  /-- CALC_CLOSE_PAREN (R325). Evaluates back to the matching parenthesis. -/
  | calcCloseParen
  /-- CALC_EQUALS (R325). = evaluates everything and enters the result in history. -/
  | calcEquals
  /-- CALC_ANS (R324). Recalls the newest history value. -/
  | calcAns
  /-- CALC_STO (R325). Stores x in a memory. -/
  | calcSto
  /-- CALC_RCL (R325). Recalls a memory. -/
  | calcRcl
  /-- CALC_M_PLUS (R325). Adds x to a memory. -/
  | calcMPlus
  /-- CALC_2ND (R324). Selects the 2nd function of the next key. -/
  | calc2nd
  /-- CALC_UNARY (R325). Applies a unary decimal operation to x at once. -/
  | calcUnary (op : BitVec 8)
  /-- CALC_SIGMA_PLUS (R325). Enters x or the x,y pair into S0. -/
  | calcSigmaPlus
  /-- CALC_SIGMA_MINUS (R324). Removes a point from S0. -/
  | calcSigmaMinus
  /-- CALC_XY_SEPARATOR (R325). Ends x in x,y entry. -/
  | calcXySeparator
  /-- CALC_MEAN (R324). Shows the mean of x, or of y on a second press. -/
  | calcMean
  /-- CALC_SDEV (R324). Shows the sample standard deviation. -/
  | calcSdev
  /-- CALC_PSDEV (R324). Shows the population standard deviation. -/
  | calcPsdev
  /-- CALC_REGRESSION (R324). Shows regression a, b and r on repeated presses. -/
  | calcRegression
  /-- CALC_Y_HAT (R324). Estimates y of x. -/
  | calcYHat
  /-- CALC_X_HAT (R324). Estimates x of y. -/
  | calcXHat
  /-- CALC_CLEAR_STATS (R324). Clears S0. -/
  | calcClearStats
  /-- CALC_ANGLE_UNIT (R324). Cycles the angle unit. -/
  | calcAngleUnit
  /-- CALC_HISTORY_BACK (R324). Steps back through history. -/
  | calcHistoryBack
  /-- CALC_HISTORY_FORWARD (R324). Steps forward through history. -/
  | calcHistoryForward
  /-- CALC_SCROLL (R326). Toggles the view of hidden digits. -/
  | calcScroll
  /-- CALC_BASE (R326). Cycles the display base. -/
  | calcBase
  /-- CALC_RECIPROCAL (R324). Computes 1/x. -/
  | calcReciprocal
  /-- SCAN_START (R342). A keyboard scan starts at its period. -/
  | scanStart
  /-- SCAN_END (R343). A scan ends; debounce, rectangles, masking, unlock and reporting are applied. -/
  | scanEnd (raw : BitVec 144)
  /-- UNLOCK_TIMEOUT (R354). More than tmo x 0.125 s between sequence presses returns the position to 0. -/
  | unlockTimeout
  /-- KEY_FIFO_READ (R347). A read of KEY_FIFO or HW_KEY_EVENT removes the oldest change entry. -/
  | keyFifoRead (host : Bool) (q : Req)
  /-- LOCK_SET (R353). A write of KEY_LOCK.set or HW_LOCK bit 0 sets the exam lock if armable. -/
  | lockSet (host : Bool) (q : Req) (v : Word)
  /-- CUPOLA_FRAME (R357). A display frame ends, inverting polarity and copying the image every second frame. -/
  | cupolaFrame
  /-- PUMP_OK_CHANGE (R358). VLCD enters or leaves its 5% window, starting or stopping frames. -/
  | pumpOkChange (ok : Bool)
  /-- HOST_WRITE (R366). A completed SPI write group of 24 bits, under its command byte, writes a host-window register. -/
  | hostWrite (c : BitVec 8) (v : BitVec 24)
  /-- HOST_READ (R365). A SPI read returns a host-window register word. -/
  | hostRead (g : HostGroup)
  /-- FRAME_ABORT (R366). HCS_N rising inside a command byte or group discards it and sets frame_err. -/
  | frameAbort
  /-- TX_DATA_WRITE (R371). A write to HW_TX_DATA pushes a packet word or sets tx_ovf. -/
  | txDataWrite (v : Word)
  /-- RX_DATA_READ (R371). A read of HW_RX_DATA removes a reply word or sets rx_unf. -/
  | rxDataRead
  /-- TX_FLUSH (R372). tx_flush discards the transmit FIFO and any partly taken packet. -/
  | txFlush
  /-- RX_FLUSH (R372). rx_flush discards the receive FIFO and the rest of a reply being placed. -/
  | rxFlush
  /-- RING (R368). ring delivers hmsg to Helm1. -/
  | ring (v : Word)
  /-- HOSTIF_TX_READ (R385). Helm1 reads and removes the oldest transmit word. -/
  | hostifTxRead (q : Req)
  /-- HOSTIF_RX_WRITE (R385). Helm1 pushes a reply word. -/
  | hostifRxWrite (q : Req)
  /-- DMSG_WRITE (R385). Helm1 writes dmsg, setting HW_IRQ.doorbell. -/
  | dmsgWrite (q : Req) (v : Word)
  /-- DMA_START (R385). A write of start begins a host DMA transfer. -/
  | dmaStart (q : Req) (v : Word)
  /-- HELLO (R381). Negotiates the protocol version and clears every stop. -/
  | hello (st : Stream)
  /-- READ (R389). Reads n words from an address. -/
  | read (st : Stream)
  /-- WRITE (R389). Writes words from an address. -/
  | write (st : Stream)
  /-- CLAIM (R390). Carries out claim commands for the host or cells. -/
  | claim (st : Stream)
  /-- RELEASE (R390). Carries out release commands. -/
  | release (st : Stream)
  /-- STATE (R398). Orders a state entry and replies with its outcome. -/
  | state (st : Stream)
  /-- PROT_QUERY (R393). Replies with the protection set's state. -/
  | protQuery (st : Stream)
  /-- BATTERY_QUERY (R404). Replies with pack data. -/
  | batteryQuery (st : Stream)
  /-- IMAGE_INFO (R412). Replies with version and image information. -/
  | imageInfo (st : Stream)
  /-- RESUME (R380). Restarts a stopped stream. -/
  | resume (st : Stream)
  /-- KEY_CONFIG (R407). Writes scanner and unlock-sequence configuration. -/
  | keyConfig (st : Stream)
  /-- CELL_LOAD (R391). Writes words to a cell's staging window. -/
  | cellLoad (st : Stream)
  /-- CELL_COMMIT (R392). Writes commit and ack to a cell, optionally waiting for the outcome. -/
  | cellCommit (st : Stream)
  /-- FIX (R394). Triggers a Fix and replies at its completion. -/
  | fix (st : Stream)
  /-- FIX_READ (R395). Reads captured counters from one Fix bank. -/
  | fixRead (st : Stream)
  /-- LOG_ARM (R396). Writes Logbook and trace configuration and arms them. -/
  | logArm (st : Stream)
  /-- LOG_READ (R397). Reads Logbook words with write-pointer readings. -/
  | logRead (st : Stream)
  /-- STANDING_ORDER (R399). Writes and arms standing-order rules. -/
  | standingOrder (st : Stream)
  /-- VOTE_QUERY (R400). Replies with power status and votes. -/
  | voteQuery (st : Stream)
  /-- POLICY_SET (R401). Sets policy bounds for the next tick. -/
  | policySet (st : Stream)
  /-- POLICY_QUERY (R401). Replies with bounds and policy state. -/
  | policyQuery (st : Stream)
  /-- SXT_EVAL (R405). Submits a decimal request for the host under a ticket. -/
  | sxtEval (st : Stream)
  /-- SXT_RESULT (R406). Reports or waits for a ticket's result. -/
  | sxtResult (st : Stream)
  /-- MODULE_LIST (R409). Replies with one word per Turtelink slot. -/
  | moduleList (st : Stream)
  /-- MODULE_QUERY (R409). Replies with a slot's module identity and descriptor. -/
  | moduleQuery (st : Stream)
  /-- ALMANAC_SAVE (R410). Builds and returns a saved Almanac image. -/
  | almanacSave (st : Stream)
  /-- ALMANAC_LOAD (R411). Receives, checks and loads an Almanac image. -/
  | almanacLoad (st : Stream)
  /-- PD_STATUS (R402). Replies with a port's contract state. -/
  | pdStatus (st : Stream)
  /-- PD_REQUEST (R403). Starts a PD action on a port and replies when it ends. -/
  | pdRequest (st : Stream) (accepted : Bool)
  /-- PRESENCE_ACCEPTED (R413). A slot's presence filter accepts an insertion. -/
  | presenceAccepted (n : Slot)
  /-- ABSENCE_ACCEPTED (R420). A slot's removal filter accepts absence; power, channels and cells are forced off. -/
  | absenceAccepted (n : Slot)
  /-- TL_PEN_WRITE (R414). A write to TL_PEN powers slots, refused for absent slots. -/
  | tlPenWrite (q : Req) (v : Word)
  /-- READ_DESC (R416). Turtelink request to read descriptor words. -/
  | readDesc (addr : BitVec 6) (off cnt : Word)
  /-- SET_VERSION (R416). Turtelink request to set the module's protocol version. -/
  | setVersion (addr : BitVec 6) (v : Word)
  /-- SET_ADDRESS (R416). Turtelink request to assign a module address. -/
  | setAddress (addr : BitVec 6) (n : Word)
  /-- TL_READ (R416). Turtelink request to read class registers. -/
  | tlRead (addr : BitVec 6) (off cnt : Word)
  /-- TL_WRITE (R416). Turtelink request to write class registers. -/
  | tlWrite (addr : BitVec 6) (off : Word) (ws : List Word)
  /-- MODULE_STATUS (R416). Turtelink STATUS request for the class status word. -/
  | moduleStatus (addr : BitVec 6)
  /-- TL_ANSWER (R416). An answer frame is received and checked, ending the transfer: its header, its words after that, the CRC the
  last of them, and whether each bit has its mid-bit transition. -/
  | tlAnswer (hdr : Word) (ws : List Word) (good : Bool)
  /-- TL_TIMEOUT (R416). No answer within 100 us counts as a failed attempt. -/
  | tlTimeout
  /-- TL_RETRY (R416). A failed request is retried 50 us later, up to twice. -/
  | tlRetry
  /-- SLOT_DISCOVERY (R418). Helm1 discovers and binds the module in an accepted slot. -/
  | slotDiscovery (n : Slot)
  /-- DESCRIPTOR_POLL (R418). Every 5 ms Helm1 retries READ_DESC at the default address, up to 8 times. -/
  | descriptorPoll
  /-- SLOT_RELEASE (R421). On the rm bit Helm1 releases a removed slot's claims and writes a removal record. -/
  | slotRelease (n : Slot)
  /-- COLD_RESET (R423). VDD33 power-on or Keep supply loss resets every domain. -/
  | coldReset
  /-- PIN_RESET (R423). RST_N held low resets every domain except KEEP. -/
  | pinReset
  /-- LOCKUP_RESET (R423). Both Helm cores in lockup reset every domain except KEEP. -/
  | lockupReset
  /-- SYSRESET (R423). The JTAG SYSRESET instruction resets every domain except KEEP. -/
  | sysreset
  /-- SOFT_RESET (R423). Helm0 writing SYS_RESET with key and go resets every domain except KEEP. -/
  | softReset (q : Req) (v : Word)
  /-- RESET_RELEASE (R57). Reset is released at lock or lock-fail timeout and the Helm cores take RESET. -/
  | resetRelease
  /-- BOOT_SEQUENCE (R424). Helm0 ROM checks the ROM, applies the boot block, locks protection and starts service. -/
  | bootSequence
  /-- FLASH_CONTAINER_READ (R448). The boot ROM reads a flash container in one continuous quad read. -/
  | flashContainerRead (kind : Bool) (ws : List Word)
  /-- IMAGE_HANDOVER (R429). Helm1 and Helm0 jump to their image entry points after SEV. -/
  | imageHandover
  /-- OTP_ADDR_WRITE (R430). A write to SYS_OTP_ADDR makes the OTP word readable next cycle. -/
  | otpAddrWrite (q : Req) (v : Word)
  /-- OTP_PROG (R430). The JTAG instruction OTP_PROG sets 1 bits of an OTP word. -/
  | otpProg (a : Fin 256) (v : BitVec 16)
  /-- POWER_OFF (R436). VDD33 falling through its power-off threshold for the filter time puts the device in OFF. -/
  | powerOff
  /-- VDDA33_CROSSING (R435). VDDA33 rising above or falling below 2.9 V makes the ANALOG domain ready or not ready, with ref_ok held 0 below it. -/
  | vdda33Crossing (above : Bool)
  /-- UNSUPPORTED_PACKET (R377). A packet with an undefined opcode, or one not carried by its version, is checked and replied UNSUPPORTED, stopping its stream. -/
  | unsupportedPacket (st : Stream)
  /-- LOCK_PACKET (R408). The LOCK packet reports HW_LOCK and KEY_LOCK_COUNT and, with p0[0] = 1, sets the exam lock or replies NOT_ARMABLE. -/
  | lockPacket (st : Stream)
  /-- DISCOVER_IDENTITY (R276). A Discover Identity message from a port partner is answered on SOP or SOP'. -/
  | discoverIdentity (port : Fin 3) (sopPrime : Bool) (epr : Bool)
  /-- PARTNER_REQUEST (R279). A sink partner's Request for one of the offered source capabilities is evaluated and a contract is made on the port. -/
  | partnerRequest (port : Fin 3) (i : Nat) (ma : Nat) (mv : Nat)
deriving DecidableEq, Repr

end Sys2Proof
end

