-- ==== Sys2Proof/Decode.lean ====
section
/-! DEFINITION. Commands that a word of the opcode table spells. No row of the table gives a command any bits. -/
namespace Sys2Proof

/-- The command that a table word spells: no row gives bits, so no word spells one. -/
def decodeTableWord (_nbits _w : Nat) : Option Instr := none

end Sys2Proof
end

