-- ==== Sys2Proof/Config.lean ====
section
/-! DEFINITION. What one part fixes and the manual does not state, and the free values: opaque constants without a
body, so that nothing can be proved of the value they take. -/
namespace Sys2Proof.Config

/-- A word of the boot ROM. R446: the contents are not published and differ between steppings. UNVERIFIED, log 3. -/
opaque romWord : Nat → BitVec 20

/-- The address of the RESET handler, held in ROM word 0x30000 (R446: it lies in 0x30000 to 0x37FFD; the number is
not stated). DESIGN CHOICE, log 3. -/
def resetEntry : BitVec 20 := 0x30001#20

/-- SYS_ROM_VERSION, fixed by the part (R431, R446). -/
opaque romVersion : BitVec 20

/-- HW_VERSION.step, the silicon stepping (R368). -/
opaque stepping : BitVec 8

/-- A free 20-bit value, applied to State.freeCtr (log 2). -/
opaque freeWord : Nat → BitVec 20

/-- A free number, applied to State.freeCtr (log 2). -/
opaque freeNat : Nat → Nat

/-- A free choice, applied to State.freeCtr (log 2): which representable neighbour a faithfully rounded result takes
(R311), whether the 72-digit pass ran (R311, R320). -/
opaque freeBool : Nat → Bool

/-- The 5 by 7 dot pattern of a character of the calculator's display (R359 gives its place, no rule its dots). -/
opaque glyph : Nat → BitVec 35

/-- The default codes of a key of the key map, plain and after 2nd (R323: the boot ROM loads them, no rule gives them). -/
opaque defaultKey : Nat → BitVec 16

/-- What the display shows as the four exponent digits of a value that rounds to 10^10000 (R326 gives four digits for E). -/
opaque expOver : Nat

/-- The words of Sextant's control stores (R327), which no rule gives: the micro-store ROM by micro-address, the nano-store ROM
by nano-address, the horizontal store, and the dispatch entries of the opcodes and calculator functions (log 104). -/
opaque microRom : Nat → BitVec 20
opaque nanoRom : Nat → BitVec 128
opaque horizontalStore : Nat → BitVec 128
opaque dispatchTable : Nat → BitVec 13

/-- The one routine that every undefined opcode's entry names (R330). -/
opaque badopRoutine : BitVec 13

/-- The number of the dispatch entry of a calculator function, by its code (R330 puts it above 0x80). -/
opaque keyEntry : Nat → Nat

/-- The micro-address of the microword after an operation's safe point, by dispatch number and phase (R331). -/
opaque afterSafe (op phase : Nat) : BitVec 13

/-- What the datapath makes of a nanoword or horizontal word and the numbers at its ports X and Y (R329 names the fields and
gives no encoding; log 105): the result, the conditions it latches from the old ones, the destination (below 16 a working
register), the memory operation (1 a read, 2 a write, else none) and the address generator's number. -/
opaque microAlu (w : BitVec 128) (x y : Nat) : Nat
opaque microFlags (w : BitVec 128) (x y old : Nat) : Nat
opaque microDest (w : BitVec 128) : Nat
opaque microMem (w : BitVec 128) : Nat
opaque microAddr (w : BitVec 128) (x y : Nat) : Nat

/-- The working register that a horizontal word's source field names (R329). -/
opaque microSource (field : Nat) : Nat

/-- A working register's number is negative (R328 tests it; no rule gives the registers' format). -/
opaque regNegative : Nat → Bool

/-- What a horizontal word's store read port reads (R329): the store's number as SXT_MCHK numbers it (6 and above: none), the
address, and whether parity is checked. -/
opaque storePort (w : BitVec 128) : Nat × Nat × Bool

/-- The CRC-32 and checksum unit after a horizontal word, from its value before and the word read (R329). -/
opaque crcUnit (w : BitVec 128) (old word : Nat) : Nat

/-- The energy of one count of an energy counter, by the counter's index, in nJ: the board's (R290). -/
opaque countNj : Nat → Nat

/-- The converter efficiency in % that Helm0 takes for adapter i before it has measured one (R281; log 101). -/
opaque firstEff : Nat → Nat

/-- The largest q-current reference at which a crank unit turning at rpm gives no more than mw (R275 bounds the power; no rule
ties power to the reference). -/
opaque crankCap (rpm mw : Nat) : Nat

/-- The temperature in 0.1 °C that a thermistor slot's result stands for: the board's and the pack's (R283). -/
opaque thermTemp : BitVec 20 → Int

/-- The reference word of cell c that stands for a current in mA on the board (R180 gives its format, no rule its scale). -/
opaque refMa (c ma : Nat) : BitVec 20

/-- The reference word of cell c that stands for a voltage in mV on the board. -/
opaque refMv (c mv : Nat) : BitVec 20

/-- The system-bus target in mV, the board's (R278 names it and no rule gives it). -/
opaque busTarget : Nat

end Sys2Proof.Config
end

