-- ==== Sys2Proof/Machine/State.lean ====
section
/-! DEFINITION. The state of the KN6020 as plain data: every register (keyed by address), every memory word, and, as
typed records, the state that no register shows. INVENTORY.md lists each piece with its rule and reset value. -/
namespace Sys2Proof.Machine

/-- Words by address. -/
abbrev Mem := SMap Word

/-- A multiply or divide result that has issued and is not yet due (R105, R136, R137). -/
inductive DueResult where
  | product (p : BitVec 40)
  | accumulate (p : BitVec 40)
  | quotient (q r : Word) (dz ovf : Bool)
deriving DecidableEq, Repr

/-- What a processor is doing (R124, R140, R142, R164). romHalt: a ROM handler halts in a WFE loop (R424, R447). -/
inductive RunCond where
  | stopped
  | running
  | waitEvent
  | waitTime (target : Nat)
  | lockup
  | romHalt
deriving DecidableEq, Repr

/-- A posted store (R138): performed once its access has been granted, removed when it completes. -/
structure Posted where
  addr : Word
  data : Word
  performed : Bool
deriving DecidableEq, Repr

/-- A Bearing processor (R101). -/
structure Proc where
  g : Vector Word 16
  pc : Word
  mh : Word
  ml : Word
  status : Word
  splim : Word
  vbase : Word
  /-- Results to come, each with its place in program order. -/
  due : List (Nat × DueResult)
  /-- How many instructions that write MH or ML have issued: the place of the latest in program order (R106). -/
  issued : Nat
  event : Bool
  run : RunCond
  posted : List Posted
  nmiPend : Bool
  /-- The first instruction of an NMI handler that has not yet been executed (R124). -/
  nmiFirst : Option Word
  stopReq : Bool
  savedParity : Word
  savedLoss : Word
  savedMchk : Word
deriving DecidableEq, Repr

/-- The clock state that no register shows (R43 to R53). Sources: 0 REF, 1 MERIDIAN, 2 COAST. -/
structure Clk where
  fabMt : Nat
  fabOn : Bool
  /-- The fabric runs on MERIDIAN, and on COAST otherwise (R43, R50). -/
  fabMer : Bool
  /-- Where the rising edges of REFCLK lie: MT modulo 18 750 at an edge, while the fabric counts on MERIDIAN (R52, R53). -/
  edge : Nat
  keepMt : Nat
  frozen : Bool
  src : Vector Nat 3
  switchTo : Vector (Option Nat) 3
  coreLevel : Nat
  sxtLevel : Nat
  levelBusy : Option (Nat × Nat)
  levelNext : Option (Nat × Nat)
  relockRom : Bool
  hold : SMap Nat
deriving DecidableEq, Repr

/-- A state entry in progress (R76, R77). step 3: cells stopping; 6: the domains to be retained are clock-stopped, and the
entry waits for the MT hand-over. stopped: the blocks that have agreed. delaying: the block asked last delays. -/
structure Entry where
  target : Nat
  step : Nat
  native : Bool
  block : Nat
  stopped : List Nat
  viaPacket : Bool
  delaying : Bool
deriving DecidableEq, Repr

/-- A wake in progress (R81, R82). -/
structure Wake where
  fromState : Nat
  source : Nat
  count : Nat
  mt : Nat
  step : Nat
  prompt : Bool
  record : Bool
deriving DecidableEq, Repr

/-- The sleep controller and Keep (R60 to R82). -/
structure Pwr where
  inReset : Bool
  off : Bool
  analogSupply : Bool
  fabPower : Bool
  entry : Option Entry
  /-- Requested entries: their targets, and whether a STATE packet asked for them. -/
  waiting : List (Nat × Bool)
  frozenVotes : Bool
  /-- The hardware clients' votes of domains 1 to 5 as they were frozen (R75). -/
  frozenHw : Vector Nat 6
  heldVotes : List Word
  /-- Wake events latched during an entry (R80): source, MT, and the data that the replay queues. -/
  latched : List (Nat × Nat × Nat)
  wake : Option Wake
  /-- Events that the wake replays: source and data (R80). -/
  replay : List (Nat × Nat)
  /-- The loop of a wake out of SLATE or HOLD has neither locked nor failed to (R51, R81). -/
  lockDue : Bool
  /-- FABRIC and ANALOG of a prompt wake are still to be released (R81). -/
  analogDue : Bool
  /-- How many consecutive evaluations have seen each bit of PWR_COND at 1 (R71). -/
  dwell : Vector Nat 10
  fired : Vector Bool 8
  keyChanged : Bool
  /-- The latest load sum of R75. -/
  loadSum : Nat
  /-- Levels that pad hold has latched (R33): 1 low, 2 high, 3 not driven. -/
  padHeld : SMap Nat
deriving DecidableEq, Repr

/-- The bus: arbiter rotation (R93), per-core claim results (R98), live-counter holding registers (R291). -/
structure Bus where
  pos : Nat
  grants : Nat
  served : Vector Nat 4
  result : Vector Word 2
  hold : SMap Nat
deriving DecidableEq, Repr

/-- A fast path in flight: what it took at its start and what it will write (R145 to R150, R171 to R178, R200). -/
structure FastPath where
  bank : Nat
  start : Nat
  y : Int
  ref : Int
  e : Int
  u : Int
  inc : Option Int
  d : Int
  s : Int
  x : Int
  theta : Nat
  inLimit : Bool
  /-- The bank was invalid for the Almanac (R193). -/
  almBad : Bool
  /-- The drive whose forward job triggered the path: its q cell and its d cell (R154). -/
  job : Option (Nat × Nat)
deriving DecidableEq, Repr

/-- The state of a control cell that no register shows (R145 to R191, R200 to R202, R264, R290). -/
structure Cell where
  starting : Bool
  active : Bool
  entryHeld : Bool
  standby : Bool
  fp : Option FastPath
  newA : Bool
  newB : Bool
  newU : Bool
  newV : Bool
  newW : Bool
  vecY : Int
  sent : Int
  sends : List (Nat × Int)
  is : Int
  d : Int
  x1 : Int
  fresh : Bool
  e1 : Int
  e2 : Int
  s1 : Int
  s2 : Int
  feTimer : Nat
  withinSeen : Bool
  feFired : Bool
  fallback : Bool
  ran : Bool
  commitWait : Bool
  checking : Bool
  checked : Option (Option Nat)
  refill : Bool
  loss : Bool
  scaled : Bool
  frzFe : Bool
  frzTrip : Bool
  almInvalid : Bool
  /-- The active bank has been invalid for the Almanac since it became active: learning waits for a valid commit (R202). -/
  frzAlm : Bool
  /-- Of a q cell: its command and its d cell's command that wait for one another (R154). -/
  cmd : Option Int
  dcmd : Option Int
  /-- The cycle in which the latest check of the staging bank ended (R182). -/
  readyAt : Nat
  acc : Nat
  vecAct : Vector Word 4
  /-- CELL_OUT as the comparators of the turret see it, and its writes that have still to reach them (R241). -/
  outSeen : Int
  outs : List (Nat × Int)
  /-- An interrupt action of a following-error firing has set CELL_EVENT bit 2, which stands since (R188). -/
  feIrq : Bool
  qIn : Int
  eIn : Int
  qOut : Int
  eOut : Int
deriving DecidableEq, Repr

/-- The state of a PWM channel that no register shows (R207 to R226). Instants of edges and outputs are vernier steps,
32 to a fabric cycle. -/
structure Chan where
  /-- The registers in force, by offset (R214). -/
  act : Vector Word 16
  /-- Duties that reach the channel and the cycle each is in effect from (R17, R209), oldest first. -/
  loads : List (Nat × Word)
  /-- The duty in effect and its mapped value (R210). -/
  u : Word
  m : Nat
  /-- The latest boundary, and the period in ticks that began there. -/
  base : Nat
  pv : Nat
  /-- Edges of s still to fire in the period, and whether each has fired or may no longer fire. -/
  riseT : Option Nat
  fallT : Option Nat
  rose : Bool
  fell : Bool
  /-- A comparator's fall (R219), and a fall moved by the minimum pulse (R218). -/
  cmpT : Option Nat
  carry : Option Nat
  s : Bool
  sUp : Nat
  hi : Bool
  lo : Bool
  hiDue : Option Nat
  loDue : Option Nat
  hiAt : Nat
  loAt : Nat
  hiOff : Nat
  loOff : Nat
  /-- The cycle in which WnL goes low to stay low until the next rise of s (R220, R222). -/
  loCut : Option Nat
  wait : Bool
  burst : Nat
  /-- The delay line is trimmed for the period (R213). -/
  fine : Bool
deriving DecidableEq, Repr

/-- A conversion request (R235): entry, and the conv, ain, os and diff of its trigger cycle (R229, R239). -/
structure ConvReq where
  entry : Nat
  ain : Nat
  diff : Bool
  os : Nat
  prot : Bool
  at_ : Nat
deriving DecidableEq, Repr

/-- A converter (R231, R235, R236): requests waiting, the burst under way and its codes, whether a conversion runs, and
the sampling instants of the latest 768 cycles. -/
structure Conv where
  waiting : List ConvReq
  cur : Option ConvReq
  codes : List Int
  busy : Bool
  instants : List Nat
deriving DecidableEq, Repr

/-- A sample-sequencer entry's fixed triggers, each with its kind, channel and trigger cycle (R234), and its slot's
previous delivery (R290). -/
structure EntryS where
  fixed : List (Nat × Nat × Nat)
  last : Option Nat
deriving DecidableEq, Repr

/-- A comparator (R240 to R242). -/
structure Comp where
  blanking : Bool
deriving DecidableEq, Repr

/-- A ripple detector (R197, R198). -/
structure Ripple where
  h : Int
  armed : Bool
  last : Option Nat
  samples : List Nat
  good : Nat
  bad : Nat
  phi : Nat
deriving DecidableEq, Repr

/-- A position interface (R252 to R259). -/
structure Pos where
  lv : BitVec 6
  count : Nat
  zSeen : Bool
  raw : Nat
  lastEdge : Option Nat
  period : Nat
  run : Nat
  lastDir : Bool
  ssiOld : Option Nat
  ssiBusy : Option Nat
  /-- The edge cycle of the latest accepted change of each input (R252). -/
  changed : Vector (Option Nat) 6
  /-- The latest cycle in which the interface worked (R251). -/
  worked : Nat
deriving DecidableEq, Repr

/-- A vector-unit job (R153, R154): the drive's q cell, its d cell, the cycle it arrived, and its inputs or, once
it runs, its results: phase currents, then i_d and i_q, of a forward job; d and q, then the three duties, of an inverse
job. A dead job has been replaced (R156) and delivers nothing. -/
structure Job where
  q : Nat
  d : Nat
  arrived : Nat
  x0 : Int
  x1 : Int
  x2 : Int
  dead : Bool
deriving DecidableEq, Repr

/-- An encoder-emulation output (R262): the inversion its levels follow, whether it has been enabled since reset, and the
cycle of its latest step. -/
structure Emu where
  inv : Bool
  used : Bool
  last : Option Nat
deriving DecidableEq, Repr

/-- A turret's vector unit: the running and the waiting jobs of each stage (R153). -/
structure Vec where
  fwd : Option Job
  fwdQ : List Job
  inv : Option Job
  invQ : List Job
deriving DecidableEq, Repr

/-- A bank of captured counters (R293). -/
structure FixBank where
  ctr : SMap Nat
  turns : Vector Nat 3
  seq : Nat
  cause : Nat
  cell : Nat
  mt : Nat
deriving DecidableEq, Repr

/-- The Fix (R292 to R296): the captured set on its way to its bank, the held trigger (causes, lowest cell or 32, MT),
and the pins: requester code to bank index plus 1. -/
structure Fix where
  capture : Option FixBank
  held : Option (Nat × Nat × Nat)
  pins : SMap Nat
  bank0 : FixBank
  bank1 : FixBank
  /-- Who waits for which Fix: stream 0 to 3 for a FIX reply (R394), 4 for Helm0's tracker (R274). -/
  awaits : List (Nat × Nat)
  /-- The sets that have come for them. -/
  kept : List (Nat × FixBank)
deriving DecidableEq, Repr

/-- A Logbook record (R299). -/
structure LogRec where
  kind : Nat
  src : Nat
  det : Nat
  mt : Nat
  data : List Word
deriving DecidableEq, Repr

/-- The Logbook writer and the trace (R300 to R304). -/
structure Log where
  queue : List LogRec
  dropped : Option (Nat × Nat)
  trAt : Nat
  trSets : Nat
  trPost : Nat
  trPend : Bool
  /-- The count in the gap record of the last slot (R302). -/
  gaps : Nat
deriving DecidableEq, Repr

/-- A Sextant number as read: sign, class (R306) and digits with the exponent of the last digit. -/
inductive Dec where
  | fin (neg : Bool) (c : Nat) (q : Int)
  | inf (neg : Bool)
  | qnan (payload : Nat)
  | snan (payload : Nat)
deriving DecidableEq, Repr

/-- A value an operation will write: at an address, five words of a number or a list of plain words (R319). -/
structure SxtOut where
  addr : Nat
  words : List Word
deriving DecidableEq, Repr

/-- A Sextant operation that has started (R319, R331): its queue (1 interactive, 2 bulk), descriptor address, its
word 0 and the rest, operands, the writes of each phase not yet committed, flags, status, its latest token (phase and micro-address; 0x2000
while its dispatch entry has still to be read), and whether its latest safe point was closed (R334). -/
structure SxtOp where
  queue : Nat
  desc : Word
  word0 : Word
  rest : List Word
  ops : List Word
  phases : List (List SxtOut)
  flags : Nat
  status : Nat
  retry : Bool
  phase : Nat
  upc : Nat
  closed : Bool
  /-- Loop counter, conditions, micro-stack and port X as its latest safe point saved them (R334). -/
  loop : Nat
  cond : Nat
  stack : List Nat
  portX : Nat
deriving DecidableEq, Repr

/-- Sextant (R316 to R340). -/
structure Sxt where
  q0 : List Word
  q1 : List Word
  /-- Completion words not yet read, each with its request's descriptor address. -/
  done0 : List (Word × Word)
  done1 : List (Word × Word)
  /-- Submits held for power (R317): requester, bulk queue, descriptor address. -/
  stalled : List (Nat × Bool × Word)
  run : Option SxtOp
  part : Option SxtOp
  stopReq : Bool
  mchk : Option (Nat × Nat)
  upc : Nat
  stack : List Nat
  wreg : Vector Nat 16
  loop : Nat
  cond : Nat
  /-- The working register that the latest NANO microword bound to port X (R328). -/
  portX : Nat
  /-- The CRC-32 and checksum unit (R329). -/
  crc : Nat
  /-- Patch words written, plus 1; 0 stands for a location without one. -/
  patchMicro : SMap Nat
  patchNano : SMap Nat
  /-- The next horizontal address, once a horizontal routine has begun (R329). -/
  hpc : Option Nat
  record : Option (List Word)
  recordDone : Bool
deriving DecidableEq, Repr

/-- A pending item of the calculator's evaluation: an operator with its left value, or an open parenthesis (R325). -/
inductive CalcItem where
  | op (code : Nat) (left : Dec)
  | paren
deriving DecidableEq, Repr

/-- What the calculator reports on an error (R326). -/
inductive CalcErr where
  | nan
  | stack
  | range
  | fault
deriving DecidableEq, Repr

/-- An entry under way (R325): digits in order, the place of the point, exponent digits, signs. -/
structure CalcEntry where
  digits : List Nat
  point : Option Nat
  neg : Bool
  expOn : Bool
  expDigits : List Nat
  expNeg : Bool
deriving DecidableEq, Repr

/-- The calculator personality (R323 to R326). memKey: 0x30 STO, 0x31 RCL, 0x32 M+ waiting for a digit. -/
structure Calc where
  entry : Option CalcEntry
  x : Dec
  items : List CalcItem
  opLast : Bool
  second : Bool
  memKey : Option Nat
  unit : Nat
  base : Nat
  hist : Option Nat
  scroll : Nat
  err : Option CalcErr
  xy : Option Dec
  press : Nat
  lastKey : Nat
  /-- The display memory holds the calculator's picture (R361). -/
  drawn : Bool
deriving DecidableEq, Repr

/-- The keyboard scanner (R342 to R354). Key sets are 144-bit vectors. -/
structure Key where
  scanning : Bool
  accepted : BitVec 144
  withheld : BitVec 144
  masked : BitVec 144
  ambig : BitVec 144
  shown : BitVec 144
  deb : SMap Nat
  since : SMap Nat
  scan : Nat
  /-- The cycle in which the scan under way started. -/
  scanAt : Nat
  fifo : List Word
  gap : Bool
  calcQ : List Nat
  pos : Nat
  /-- The cycle of the latest press that was compared with the unlock sequence (R354). -/
  pressAt : Nat
  /-- Each complete rectangle, as 144 times its lowest corner plus its highest, with the corner it withholds (R348). -/
  corners : List (Nat × Nat)
  /-- Reported changes that wait for a replay, oldest first (R80, R344). -/
  held : List Nat
  /-- The KROW balls that were high at the entry to HOLD and that Keep still watches (R351). -/
  rows : BitVec 8
  /-- The wake key, while it is held, where its press has woken the device with the host paths closed (R352). -/
  waking : BitVec 144
deriving DecidableEq, Repr

/-- Cupola (R357 to R360). -/
structure Cup where
  latch : Mem
  polarity : Bool
  second : Bool
  lines : List Nat
  /-- The cycle in which the frame under way began (R357). -/
  frameAt : Nat
deriving DecidableEq, Repr

/-- A Nguir packet (R373) with the result of its CRC check (R374). -/
structure Packet where
  ver : Nat
  stream : Nat
  seq : Nat
  op : Nat
  tag : Nat
  params : List Word
  crcOk : Bool
deriving DecidableEq, Repr

/-- A packet that waits for its outcome (R387). staged: a STATE packet whose entry is done and whose reply HOSTIF has yet to
place (R382). out: the first commit or reject event since: 0 a commit, 1 and 2 the cause of a rejection (R388, R392). eval: the
submit that stalls Helm1, and whether it was refused (R317, R405). -/
inductive WaitFor where
  | state
  | staged
  | fix (seq : Nat)
  | commit (c : Nat) (out : Option Nat)
  | result (ticket : Nat)
  | almSave (c : Nat) (learn : Bool) (out : Option Nat)
  | almLoad (c : Nat) (learn : Bool) (out : Option Nat)
  | eval (ticket : Nat) (refused : Option Bool)
deriving DecidableEq, Repr

/-- Helm1's packet service and the HOSTIF FIFOs (R371 to R382). -/
structure Hostif where
  tx : List Word
  rx : List Word
  part : List Word
  taken : List Packet
  waits : List (Packet × WaitFor)
  /-- Replies to be placed, oldest first, each with its stream. -/
  replies : List (Nat × List Word)
  /-- The oldest reply has been placed in part. -/
  placing : Bool
  expect : Vector Nat 4
  stopSeq : Vector Nat 4
  staged : Option (List Word)
  tickets : SMap Nat
  ticketDone : SMap Nat
  saveImg : Option (Nat × List Word)
  loadImg : Option (Nat × List Word)
  /-- Helm1 has begun packet service (R424 step 6). -/
  serving : Bool
  /-- A repeat read under way: its command byte, the value captured for its next group, and that the value was a FIFO's word
  (R365). -/
  frame : Option (BitVec 8 × Word × Bool)
  /-- The word of the latest read group (R365). -/
  shown : Word
deriving DecidableEq, Repr

/-- A bound Turtelink module (R417, R418). -/
structure Module where
  cls : Nat
  addr : Nat
  ver : Nat
  desc : List Word
deriving DecidableEq, Repr

/-- A discovery in progress (R418): slot, step 2 to 6, attempts, descriptor words so far. -/
structure Disc where
  slot : Nat
  step : Nat
  tries : Nat
  desc : List Word
  ver : Nat
deriving DecidableEq, Repr

/-- A Turtelink transfer (R416): request header, payload and the CRC that ends its frame (R415), attempts made, waiting to retry,
made by discovery. -/
structure Xfer where
  hdr : Word
  ws : List Word
  crc : Word
  tries : Nat
  waiting : Bool
  disc : Bool
deriving DecidableEq, Repr

/-- The Turtelink block and Helm1's discovery (R413 to R421). cut: slots whose discovery a removal has ended. -/
structure Tl where
  xfer : Option Xfer
  disc : Option Disc
  queue : List Nat
  bound : Vector (Option Module) 8
  claims : Vector (List Word) 8
  cut : BitVec 8
  /-- The descriptor words read from each slot since it was accepted as present (R409, R417). -/
  read : Vector (List Word) 8
deriving DecidableEq, Repr

/-- The boot record of the board and the containers read from flash (R424 to R428). -/
structure Boot where
  block : Option (List Word)
  image : Option (List Word)
  board : Option (List Word)
  policyMap : Option (Word × Word)
  policyOn : Bool
  entryPoints : Option (Word × Word)
  otp : SMap Nat
  rwsFloor : Bool
  rwsLock : Bool
  handover : Bool
deriving DecidableEq, Repr

/-- Helm0's policy (R269 to R288). Bounds are numbered by their ID (R271). DC class: as d17 of R401. Charge phase: as
d19 of R401. -/
structure Policy where
  bounds : Vector Nat 17
  pendB : List (Nat × Nat)
  dcClass : Nat
  dcPresent : Bool
  dcLow : Nat
  sources : Nat
  phase : Nat
  chargeMa : Nat
  voc : Nat
  vref : Nat
  vdir : Bool
  vpow : Int
  gref : Nat
  gdir : Bool
  gpow : Nat
  adapters : Vector Nat 3
  pack : Option PackReading
  packLast : PolicyReadings
  missed : Nat
  smart : Bool
  socNow : Nat
  socCount : Int
  capacity : Nat
  /-- The state of charge at the latest tick. -/
  soc : Nat
  /-- The voltage to which the charge is held, in mV (R284). -/
  chargeMv : Nat
  /-- The free sources are backed off their tracking point (R281). -/
  backed : Bool
  /-- Load steps of the classification applied so far (R273). -/
  dcStep : Nat
  /-- The Almanac of the input cells has been set to learn the ripple (R273). -/
  rippleOn : Bool
  /-- The input is released for the open-circuit measurement (R274). -/
  released : Bool
  /-- The energy counters of the cells at the latest tick, by counter index (R281). -/
  energy : SMap Nat
  /-- The input energy counters of the input cells in the Fix that the tracker read last, by cell (R274). -/
  mpptE : SMap Nat
  /-- The time of that Fix; none before the first of a tracking run. -/
  mpptMt : Option Nat
  /-- The input voltage of the step whose Fix is awaited, in mV (R274). -/
  mpptMv : Nat
  /-- How far a crank unit's reference is backed off (R281). -/
  genBack : Nat
  /-- The power onto the bus and the power in, in mW, of each adapter's cells when last measured (R281); in 0 before. -/
  eff : Vector (Nat × Nat) 3
  /-- The sources whose cells the policy has stood down, in the layout of SRC_EN (R282). -/
  stood : Nat
  /-- The charge count at the latest DONE, until the cut-off (R287). -/
  fullCount : Option Int
deriving DecidableEq, Repr

/-- A Type-C port (R276 to R282, R402). contract: 0 none, 1 fixed, 2 PPS, 3 Type-C current only. offers: the latest
Source_Capabilities received. answer: the latest message sent: 0 none, 1 Request, 2 Accept, 3 Reject, 4 NAK,
5 Not_Supported, 6 identity ACK, 7 Source_Capabilities, 8 Hard Reset. -/
structure PdPort where
  attached : Bool
  source : Bool
  dfp : Bool
  vconn : Bool
  epr : Bool
  cableEpr : Bool
  contract : Nat
  mv : Nat
  ma : Nat
  pdPartner : Bool
  rpMa : Nat
  answer : Nat
  limited : Bool
  offers : List Pdo
  /-- A source at the port has been lost since the latest tick (R282): 1 lost, 2 lost and another attached. -/
  lost : Nat
deriving DecidableEq, Repr

/-- A channel as it was before the first edge of this cycle, which a safe-state request takes back (R226): the channel, its
on-time, fraction and period counters, PWM_STATUS.drop and late and their counts, and its comparators that were not being
blanked. -/
structure Edges where
  w : Nat
  chan : Chan
  on : Nat
  frac : Nat
  rises : Nat
  dropped : Bool
  drops : Word
  late : Bool
  lates : Word
  clear : List Nat
deriving DecidableEq, Repr

/-- The writes to MH and ML of processor p in this cycle (R106, R136): MH:ML before them, and the places in program order of
the instructions whose values MH and ML hold. -/
structure AccCyc where
  p : Nat
  prev : BitVec 40
  hi : Nat
  lo : Nat
deriving DecidableEq, Repr

/-- What belongs to the present cycle alone: every tick clears it. -/
structure Cyc where
  /-- Register bits that hardware has set in this cycle: address and bit (R7). -/
  sets : List (Nat × Nat)
  /-- Registers whose RW fields a bus write has written in this cycle (R95). -/
  wrote : List Nat
  /-- Values from before this cycle, where a rule gives the old value to a use in the same cycle (R150, R168, R214). -/
  was : List (Nat × Word)
  edges : List Edges
  /-- Cells that have stopped in this cycle (R190). -/
  stops : List Nat
  /-- Cells whose banks have swapped in this cycle, each with the channel that paced it before (R161, R187). -/
  paced : List (Nat × Nat)
  accs : List AccCyc
  /-- STATUS bits that hardware has set in this cycle, by processor (R110). -/
  status : List (Nat × Word)
  /-- Processors at which an event has arrived in this cycle, and whether their event bit was 1 before (R140). -/
  events : List (Nat × Bool)
  /-- The cause that a reset of this period has recorded (R423). -/
  cause : Option Nat
deriving DecidableEq, Repr

/-- An effect whose cycle a rule fixes and that no command of its own reports. -/
inductive Ev where
  /-- Commits of cells that are not enabled take effect (R182). -/
  | commits
  /-- Accepted levels of a position interface act, one cycle after their edge cycle t (R252). -/
  | edge (n : Nat) (lv : BitVec 6) (t : Nat)
  /-- The speed timeout of a position interface acts, one cycle after its cycle t (R258). -/
  | slow (n t : Nat)
  /-- A slot value is delivered (R237). -/
  | slot (i : Nat) (v : Int)
  /-- The event bits that SEV names are set: two mask words (R141). -/
  | sev (m0 m1 : Word)
  /-- A protection entry's trip reaches its channels, as the start of a trip or not (R244, R245). -/
  | trip (i : Nat) (start : Bool)
  /-- The low side of a channel goes low and stays low until the next rise of s (R220, R222). -/
  | lowOff (w : Nat)
  /-- A comparator's blanking interval ends with the run of its channel (R242). -/
  | unblank (n : Nat)
  /-- The software trigger of an entry comes (R234). -/
  | software (i : Nat)
  /-- A learning update writes its bin at address a; bins: the addresses of its three bins (R201). -/
  | bin (a : Nat) (v : Word) (bins : List Nat)
  /-- A bus write that a learning update held is applied (R201). -/
  | put (a : Nat) (v : Word)
deriving DecidableEq, Repr

/-- The state of the device. -/
structure State where
  /-- Commands that wait, first in first out. -/
  pending : List Instr
  /-- The free-value counter, the model's own (log 2). -/
  freeCtr : Nat
  /-- Registers by address; unlisted addresses read their reset value (Regs.lean). Host window at 0x100000. -/
  reg : Mem
  /-- Memory words by address; unlisted RAM reads 0 (R90). -/
  mem : Mem
  /-- Parameter banks: cell * 256 + bank * 128 + word; unlisted words read 0. -/
  bank : Mem
  /-- The parameters as the fast path of each cell last loaded them from each bank (R182, R183), keyed as bank. -/
  loaded : Mem
  /-- Words whose stored parity is wrong: a memory address, or 0x200000 plus a bank key (R90). -/
  badParity : List Nat
  procs : Vector Proc 34
  clk : Clk
  pwr : Pwr
  bus : Bus
  claims : SMap Nat
  cells : Vector Cell 32
  chans : Vector Chan 32
  convs : Vector Conv 16
  entries : Vector EntryS 64
  comps : Vector Comp 64
  protWas : Vector Bool 16
  ripples : Vector Ripple 8
  pos : Vector Pos 3
  emus : Vector Emu 2
  vecs : Vector Vec 4
  /-- Counters 0 to 319 (R289); 1000 + n holds the hidden fraction of channel n's on-time. -/
  ctr : SMap Nat
  fix : Fix
  log : Log
  sxt : Sxt
  calculator : Calc
  key : Key
  cup : Cup
  host : Hostif
  tl : Tl
  boot : Boot
  policy : Policy
  ports : Vector PdPort 3
  /-- The present cycle. -/
  cyc : Cyc
  /-- Effects to come, each with its cycle of MT, in the order in which they were set up. -/
  sched : List (Nat × Ev)
deriving DecidableEq, Repr

/-- Why the machine could stop with a fault. No meaning raises it: the manual gives every command of the table an
effect, and its own faults are exceptions, halts and flags, which are next states. Safe if it were raised. -/
inductive Fault where
  /-- Raised by no meaning of this model. -/
  | unreachable
deriving DecidableEq, Repr

/-- Why a command could be refused. -/
inductive Refusal where
  /-- A command without a meaning yet; raised by an arm of exec only. Safe. -/
  | notModelled (mnemonic : String)
deriving DecidableEq, Repr

/-- A processor after reset (R101, R164). -/
def Proc.reset (helm : Bool) : Proc :=
  { g := Vector.replicate 16 0, pc := if helm then Config.resetEntry else 0, mh := 0, ml := 0, status := 0,
    splim := 0, vbase := if helm then 0x30000#20 else 0, due := [], issued := 0, event := false,
    run := if helm then .running else .stopped, posted := [], nmiPend := false, nmiFirst := none,
    stopReq := false, savedParity := 0, savedLoss := 0, savedMchk := 0 }

/-- A cell after reset. -/
def Cell.reset : Cell :=
  { starting := false, active := false, entryHeld := false, standby := false, fp := none,
    newA := false, newB := false, newU := false, newV := false, newW := false, vecY := 0, sent := 0,
    sends := [], is := 0, d := 0, x1 := 0, fresh := true, e1 := 0, e2 := 0,
    s1 := 0, s2 := 0, feTimer := 0, withinSeen := false, feFired := false, fallback := false, ran := false,
    commitWait := false, checking := false, checked := none, refill := false, loss := false, scaled := false, frzFe := false,
    frzTrip := false, almInvalid := false, frzAlm := false, cmd := none, dcmd := none, readyAt := 0, acc := 0,
    vecAct := #v[0x00001#20, 0, 0, 0], outSeen := 0, outs := [], feIrq := false, qIn := 0, eIn := 0, qOut := 0, eOut := 0 }

/-- A channel after reset: safe state, both outputs low; the registers in force are the register resets (R227). -/
def Chan.reset : Chan :=
  { act := #v[0, 0, 0x07FFF#20, 0, 0, 0, 0, 0x01000#20, 0, 0, 0, 0, 0, 0, 0, 0], loads := [], u := 0, m := 0, base := 0,
    pv := 32768, riseT := none, fallT := none, rose := true, fell := true, cmpT := none, carry := none, s := false,
    sUp := 0, hi := false, lo := false, hiDue := none, loDue := none, hiAt := 0, loAt := 0, hiOff := 0, loOff := 0, loCut := none,
    wait := false, burst := 0, fine := false }

/-- An empty Fix bank. -/
def FixBank.reset : FixBank :=
  { ctr := [], turns := Vector.replicate 3 0, seq := 0, cause := 0, cell := 0, mt := 0 }

/-- Sextant after reset. -/
def Sxt.reset : Sxt :=
  { q0 := [], q1 := [], done0 := [], done1 := [], stalled := [], run := none, part := none, stopReq := false,
    mchk := none, upc := 0, stack := [], wreg := Vector.replicate 16 0, loop := 0, cond := 0, portX := 0, crc := 0, patchMicro := [],
    patchNano := [], hpc := none, record := none, recordDone := false }

/-- The calculator with nothing entered. -/
def Calc.reset : Calc :=
  { entry := none, x := .fin false 0 0, items := [], opLast := false, second := false, memKey := none, unit := 1,
    base := 0, hist := none, scroll := 0, err := none, xy := none, press := 0, lastKey := 0, drawn := false }

/-- The scanner after reset: every key released (R343). -/
def Key.reset : Key :=
  { scanning := false, accepted := 0, withheld := 0, masked := 0, ambig := 0, shown := 0, deb := [], since := [],
    scan := 0, scanAt := 0, fifo := [], gap := false, calcQ := [], pos := 0, pressAt := 0,
    corners := [], held := [], rows := 0, waking := 0 }

/-- HOSTIF and Helm1's packet service after reset (R370). -/
def Hostif.reset : Hostif :=
  { tx := [], rx := [], part := [], taken := [], waits := [], replies := [], placing := false, expect := Vector.replicate 4 0,
    stopSeq := Vector.replicate 4 0, staged := none, tickets := [], ticketDone := [], saveImg := none,
    loadImg := none, serving := false, frame := none, shown := 0 }

/-- The default bounds of R271. -/
def Policy.defaults : Vector Nat 17 :=
  #v[500, 4100, 0, 100, 0, 45, 2000, 3000, 3000, 30000, 6000, 15000, 15000, 15000, 7000, 10, 0x1F]

/-- Readings of a device that has measured nothing. -/
def noReadings : PolicyReadings :=
  { dcMv := 0, busMv := 0, packMv := 0, packMa := 0, soc := 0 }

/-- The policy after reset, with given bounds. -/
def Policy.reset (b : Vector Nat 17) : Policy :=
  { bounds := b, pendB := [], dcClass := 0, dcPresent := false, dcLow := 0, sources := 0, phase := 0, chargeMa := 0,
    voc := 0, vref := 0, vdir := false, vpow := 0, gref := 0, gdir := true, gpow := 0,
    adapters := Vector.replicate 3 0, pack := none, packLast := noReadings, missed := 0, smart := false, socNow := 0,
    socCount := 0, capacity := 0, soc := 0, chargeMv := 0, backed := false, dcStep := 0, rippleOn := false, released := false,
    energy := [], mpptE := [], mpptMt := none, mpptMv := 0, genBack := 0, eff := Vector.replicate 3 (0, 0), stood := 0,
    fullCount := none }

/-- A port with nothing attached. -/
def PdPort.reset : PdPort :=
  { attached := false, source := false, dfp := false, vconn := false, epr := false, cableEpr := false, contract := 0,
    mv := 0, ma := 0, pdPartner := false, rpMa := 0, answer := 0, limited := false, offers := [], lost := 0 }

/-- A cycle in which nothing has happened. -/
def Cyc.reset : Cyc :=
  { sets := [], wrote := [], was := [], edges := [], stops := [], paced := [], accs := [], status := [], events := [], cause := none }

/-- The machine right after a cold reset is released on MERIDIAN (R57, R423): REFCLK qualified and locked, every
domain powered (R72), both Helm cores at the RESET entry (R126), the wake record of a cold start (R82). -/
def State.reset : State :=
  { pending := []
    freeCtr := 0
    reg := [(0x70400, 0x00060#20), (0x70807, 0xC0000#20)]
    mem := []
    bank := []
    loaded := []
    badParity := []
    procs := Vector.ofFn fun i => Proc.reset (decide (i.1 < 2))
    clk := { fabMt := 0, fabOn := true, fabMer := true, edge := 0, keepMt := 0, frozen := false, src := #v[1, 1, 1],
             switchTo := #v[none, none, none], coreLevel := 0, sxtLevel := 0, levelBusy := none, levelNext := none,
             relockRom := false, hold := [] }
    pwr := { inReset := false, off := false, analogSupply := true, fabPower := true, entry := none, waiting := [],
             frozenVotes := false, frozenHw := Vector.replicate 6 0, heldVotes := [], latched := [], wake := none, replay := [],
             lockDue := false, analogDue := false, dwell := Vector.replicate 10 0, fired := Vector.replicate 8 false,
             keyChanged := false, loadSum := 0, padHeld := [] }
    bus := { pos := 0, grants := 0, served := Vector.replicate 4 7, result := #v[0, 0], hold := [] }
    claims := []
    cells := Vector.replicate 32 Cell.reset
    chans := Vector.replicate 32 Chan.reset
    convs := Vector.replicate 16 { waiting := [], cur := none, codes := [], busy := false, instants := [] }
    entries := Vector.replicate 64 { fixed := [], last := none }
    comps := Vector.replicate 64 { blanking := false }
    protWas := Vector.replicate 16 false
    ripples := Vector.replicate 8 { h := 0, armed := false, last := none, samples := [], good := 0, bad := 0, phi := 0 }
    pos := Vector.replicate 3 { lv := 0, count := 0, zSeen := false, raw := 0, lastEdge := none, period := 0, run := 0,
                                lastDir := true, ssiOld := none, ssiBusy := none,
                                changed := Vector.replicate 6 none, worked := 0 }
    emus := Vector.replicate 2 { inv := false, used := false, last := none }
    vecs := Vector.replicate 4 { fwd := none, fwdQ := [], inv := none, invQ := [] }
    ctr := []
    fix := { capture := none, held := none, pins := [], bank0 := FixBank.reset, bank1 := FixBank.reset,
             awaits := [], kept := [] }
    log := { queue := [], dropped := none, trAt := 0, trSets := 0, trPost := 0, trPend := false, gaps := 0 }
    sxt := Sxt.reset
    calculator := Calc.reset
    key := Key.reset
    cup := { latch := [], polarity := false, second := false, lines := [], frameAt := 0 }
    host := Hostif.reset
    tl := { xfer := none, disc := none, queue := [], bound := Vector.replicate 8 none, claims := Vector.replicate 8 [],
            cut := 0, read := Vector.replicate 8 [] }
    boot := { block := none, image := none, board := none, policyMap := none,
              policyOn := false, entryPoints := none, otp := [], rwsFloor := false, rwsLock := false, handover := false }
    policy := Policy.reset Policy.defaults
    ports := Vector.replicate 3 PdPort.reset
    cyc := Cyc.reset
    sched := [] }

end Sys2Proof.Machine
end

