-- ==== Sys2Proof/Machine/Mem.lean ====
section
/-! DEFINITION. Sparse maps in canonical form (keys strictly rising, no entry equal to what an unlisted key reads as):
the read, the write and the form itself. -/
namespace Sys2Proof.Machine

/-- The value at a key; d gives what an unlisted key reads as. -/
def lookup {α : Type} (d : Nat → α) : SMap α → Nat → α
  | [], k => d k
  | (j, v) :: m, k => if j = k then v else lookup d m k

/-- Put a value at a key, keeping keys in order. -/
def insertAt {α : Type} (k : Nat) (v : α) : SMap α → SMap α
  | [] => [(k, v)]
  | (j, w) :: m => if k < j then (k, v) :: (j, w) :: m else if j = k then (k, v) :: m else (j, w) :: insertAt k v m

/-- Take every entry of a key out. -/
def dropAt {α : Type} (k : Nat) : SMap α → SMap α
  | [] => []
  | (j, w) :: m => if j = k then dropAt k m else (j, w) :: dropAt k m

/-- Write a value at a key; writing what an unlisted key reads as removes the entry. -/
def update {α : Type} [DecidableEq α] (d : Nat → α) (m : SMap α) (k : Nat) (v : α) : SMap α :=
  if v = d k then dropAt k m else insertAt k v m

/-- Every key of the map lies above k. -/
def above {α : Type} (k : Nat) : SMap α → Bool
  | [] => true
  | (j, _) :: m => decide (k < j) && above k m

/-- The canonical form. -/
def canonical {α : Type} [DecidableEq α] (d : Nat → α) : SMap α → Bool
  | [] => true
  | (j, v) :: m => decide (v ≠ d j) && above j m && canonical d m

/-- The element of a vector at a number, or d past its end. -/
def vget {α : Type} {n : Nat} (d : α) (v : Vector α n) (i : Nat) : α := v[i]?.getD d

/-- Put an element into a vector; past its end nothing changes. -/
def vset {α : Type} {n : Nat} (v : Vector α n) (i : Nat) (x : α) : Vector α n := v.setIfInBounds i x

/-- What an unlisted counter, claim or count reads as. -/
def zeroAt (_ : Nat) : Nat := 0

/-- What an unlisted word of plain storage reads as. -/
def zeroWord (_ : Nat) : Word := 0

end Sys2Proof.Machine
end

