-- ==== Sys2Proof/Machine/Regs.lean ====
section
/-! DEFINITION. The register tables of the chapters: for every register its place, which bits a plain bus write sets
(RW), clears by 1 (W1C) or sets once (RWS), which bits Keep retains through a reset, and the reset value. Bits with an
effect of their own (WO and command fields) are left to the meanings of their commands. -/
namespace Sys2Proof.Machine

/-- A row of a register table: count1 groups at stride1, in each count2 registers at stride2. -/
structure RegRow where
  name : String
  base : Nat
  stride1 : Nat
  count1 : Nat
  stride2 : Nat
  count2 : Nat
  rw : Word
  w1c : Word
  rws : Word
  keep : Word
  reset : Word

/-- Register rows of the block at 0x70000, from its register table. -/
def sysRows : List RegRow :=
  [⟨"SYS_ID", 0x70000, 1, 1, 1, 1, 0x00000, 0x00000, 0x00000, 0x00000, 0x06020⟩,
   ⟨"SYS_RESET_CAUSE", 0x70001, 1, 1, 1, 1, 0x00000, 0x00000, 0x00000, 0xE0FFF, 0x00000⟩,
   ⟨"SYS_RESET", 0x70002, 1, 1, 1, 1, 0x00000, 0x00000, 0x00000, 0x00000, 0x00000⟩,
   ⟨"SYS_BOOT", 0x70003, 1, 1, 1, 1, 0x6F000, 0x00000, 0x00000, 0x00000, 0x00000⟩,
   ⟨"SYS_OTP_ADDR", 0x70004, 1, 1, 1, 1, 0x000FF, 0x00000, 0x00000, 0x00000, 0x00000⟩,
   ⟨"SYS_OTP_DATA", 0x70005, 1, 1, 1, 1, 0x00000, 0x00000, 0x00000, 0x00000, 0x00000⟩,
   ⟨"SYS_ROM_VERSION", 0x70006, 1, 1, 1, 1, 0x00000, 0x00000, 0x00000, 0x00000, 0x00000⟩,
   ⟨"SYS_IMAGE_VER0, SYS_IMAGE_VER1", 0x70007, 1, 2, 1, 1, 0xFFFFF, 0x00000, 0x00000, 0x00000, 0x00000⟩,
   ⟨"SYS_IRQCFGc_n", 0x70100, 128, 2, 1, 64, 0x0000F, 0x00000, 0x00000, 0x00000, 0x00000⟩]

/-- Register rows of the block at 0x70400, from its register table. -/
def clkRows : List RegRow :=
  [⟨"CLK_STATUS", 0x70400, 1, 1, 1, 1, 0x00000, 0x0000C, 0x00000, 0x00008, 0x00000⟩,
   ⟨"CLK_SWITCH", 0x70401, 1, 1, 1, 1, 0x00007, 0x00040, 0x00000, 0x00000, 0x00007⟩,
   ⟨"CLK_REFUSED_COUNT", 0x70402, 1, 1, 1, 1, 0x00000, 0x00000, 0x00000, 0x00000, 0x00000⟩,
   ⟨"CLK_LOSS_COUNT", 0x70403, 1, 1, 1, 1, 0x00000, 0x00000, 0x00000, 0xFFFFF, 0x00000⟩,
   ⟨"CLK_COAST_MT0–CLK_COAST_MT2", 0x70404, 1, 3, 1, 1, 0x00000, 0x00000, 0x00000, 0xFFFFF, 0x00000⟩]

/-- Register rows of the block at 0x70800, from its register table. -/
def pwrRows : List RegRow :=
  [⟨"PWR_STATUS", 0x70800, 1, 1, 1, 1, 0x00000, 0x00020, 0x00000, 0x00040, 0x00F80⟩,
   ⟨"PWR_CFG", 0x70801, 1, 1, 1, 1, 0x00007, 0x00000, 0x00000, 0x00003, 0x00004⟩,
   ⟨"PWR_ENTRY", 0x70802, 1, 1, 1, 1, 0x00000, 0x00000, 0x00000, 0x00000, 0x00000⟩,
   ⟨"PWR_RESULT", 0x70803, 1, 1, 1, 1, 0x00000, 0x00000, 0x00000, 0x00000, 0x00000⟩,
   ⟨"PWR_PL", 0x70804, 1, 1, 1, 1, 0x0000F, 0x00000, 0x00000, 0x00000, 0x00000⟩,
   ⟨"PWR_VOTE_CMD", 0x70805, 1, 1, 1, 1, 0x00000, 0x00000, 0x00000, 0x00000, 0x00000⟩,
   ⟨"PWR_WAKE_EN", 0x70806, 1, 1, 1, 1, 0x001FF, 0x00000, 0x00000, 0x001FF, 0x00000⟩,
   ⟨"PWR_WAKE", 0x70807, 1, 1, 1, 1, 0x00000, 0x00000, 0x00000, 0xFFFFF, 0x00000⟩,
   ⟨"PWR_WAKE_MT0–PWR_WAKE_MT2", 0x70808, 1, 3, 1, 1, 0x00000, 0x00000, 0x00000, 0xFFFFF, 0x00000⟩,
   ⟨"PWR_HS_VETO", 0x7080B, 1, 1, 1, 1, 0x01FFE, 0x00000, 0x00000, 0x00000, 0x00000⟩,
   ⟨"PWR_HS_TIMEOUT", 0x7080C, 1, 1, 1, 1, 0x0FFFF, 0x00000, 0x00000, 0x00000, 0x003E8⟩,
   ⟨"PWR_BROWNOUT_COUNT", 0x7080D, 1, 1, 1, 1, 0x00000, 0x00000, 0x00000, 0xFFFFF, 0x00000⟩,
   ⟨"PWR_COND", 0x7080E, 1, 1, 1, 1, 0x0001D, 0x00000, 0x00000, 0x0001D, 0x00202⟩,
   ⟨"PWR_VOTE1_LO", 0x70810, 1, 1, 1, 1, 0x00000, 0x00000, 0x00000, 0x00000, 0x00100⟩,
   ⟨"PWR_VOTE2_LO", 0x70812, 1, 1, 1, 1, 0x00000, 0x00000, 0x00000, 0x00000, 0x00100⟩,
   ⟨"PWR_VOTE3_LO", 0x70814, 1, 1, 1, 1, 0x00000, 0x00000, 0x00000, 0x00000, 0x00100⟩,
   ⟨"PWR_VOTE4_LO", 0x70816, 1, 1, 1, 1, 0x00000, 0x00000, 0x00000, 0x00000, 0x00101⟩,
   ⟨"PWR_VOTE5_LO", 0x70818, 1, 1, 1, 1, 0x00000, 0x00000, 0x00000, 0x00000, 0x00102⟩,
   ⟨"PWR_VOTEd_HI", 0x70811, 2, 5, 1, 1, 0x00000, 0x00000, 0x00000, 0x00000, 0x00000⟩,
   ⟨"PWR_PADHOLD", 0x70820, 1, 1, 1, 1, 0x00000, 0x00000, 0x00000, 0x00000, 0x00000⟩,
   ⟨"PWR_ORDERn_COND", 0x70830, 2, 8, 1, 1, 0x003FF, 0x00000, 0x00000, 0x003FF, 0x00000⟩,
   ⟨"PWR_ORDERn_ACT", 0x70831, 2, 8, 1, 1, 0xFFFFF, 0x00000, 0x00000, 0xFFFFF, 0x00000⟩,
   ⟨"PWR_LOAD0, PWR_LOAD1", 0x70840, 1, 2, 1, 1, 0x00000, 0x00000, 0x00000, 0x00000, 0x00000⟩,
   ⟨"PWR_LOAD2", 0x70842, 1, 1, 1, 1, 0x00000, 0x00000, 0x00000, 0x00000, 0x00190⟩,
   ⟨"PWR_LOAD3, PWR_LOAD4", 0x70843, 1, 2, 1, 1, 0x00000, 0x00000, 0x00000, 0x00000, 0x00000⟩,
   ⟨"PWR_LOAD5", 0x70845, 1, 1, 1, 1, 0x00000, 0x00000, 0x00000, 0x00000, 0x00384⟩,
   ⟨"PWR_LOAD6, PWR_LOAD7", 0x70846, 1, 2, 1, 1, 0x00000, 0x00000, 0x00000, 0x00000, 0x00000⟩,
   ⟨"PWR_LOADc", 0x70848, 1, 24, 1, 1, 0x00FFF, 0x00000, 0x00000, 0x00000, 0x00000⟩]

/-- Register rows of the block at 0x70C00, from its register table. -/
def busRows : List RegRow :=
  [⟨"BUS_CLAIM_CMD", 0x70C00, 1, 1, 1, 1, 0x00000, 0x00000, 0x00000, 0x00000, 0x00000⟩,
   ⟨"BUS_CLAIM_RESULT", 0x70C01, 1, 1, 1, 1, 0x00000, 0x00000, 0x00000, 0x00000, 0x00000⟩,
   ⟨"BUS_CONFLICT", 0x70C10, 1, 1, 1, 1, 0x00000, 0xC0000, 0x00000, 0x00000, 0x00000⟩,
   ⟨"BUS_CONFLICT_COUNT", 0x70C11, 1, 1, 1, 1, 0x00000, 0x00000, 0x00000, 0x00000, 0x00000⟩,
   ⟨"BUS_FAULT_ADDR", 0x70C12, 1, 1, 1, 1, 0x00000, 0x00000, 0x00000, 0x00000, 0x00000⟩,
   ⟨"BUS_FAULT_SRC", 0x70C13, 1, 1, 1, 1, 0x00000, 0x80000, 0x00000, 0x00000, 0x00000⟩,
   ⟨"BUS_FAULT_COUNT", 0x70C14, 1, 1, 1, 1, 0x00000, 0x00000, 0x00000, 0x00000, 0x00000⟩,
   ⟨"BUS_PARITY_ADDR", 0x70C15, 1, 1, 1, 1, 0x00000, 0x00000, 0x00000, 0x00000, 0x00000⟩,
   ⟨"BUS_PARITY_SRC", 0x70C16, 1, 1, 1, 1, 0x00000, 0x80000, 0x00000, 0x00000, 0x00000⟩,
   ⟨"BUS_PARITY_COUNT", 0x70C17, 1, 1, 1, 1, 0x00000, 0x00000, 0x00000, 0x00000, 0x00000⟩,
   ⟨"BUS_PAD of W0H-W31L", 0x70D00, 1, 64, 1, 1, 0x07F83, 0x00000, 0x00000, 0x00000, 0x00500⟩,
   ⟨"BUS_PAD of Q, EMU, KCOL", 0x70D40, 1, 42, 1, 1, 0x07F83, 0x00000, 0x00000, 0x00000, 0x00100⟩,
   ⟨"BUS_PAD of KROW", 0x70D6A, 1, 8, 1, 1, 0x07F83, 0x00000, 0x00000, 0x00000, 0x00900⟩,
   ⟨"BUS_PAD of COM, SEG, host SPI, TL_DATA", 0x70D72, 1, 120, 1, 1, 0x07F83, 0x00000, 0x00000, 0x00000, 0x00100⟩,
   ⟨"BUS_PAD of TL_PRES", 0x70DEA, 1, 8, 1, 1, 0x07F83, 0x00000, 0x00000, 0x00000, 0x00900⟩,
   ⟨"BUS_PAD of TL_PEN to GPIO", 0x70DF2, 1, 43, 1, 1, 0x07F83, 0x00000, 0x00000, 0x00000, 0x00100⟩]

/-- Register rows of the block at 0x71000, from its register table. -/
def hostifRows : List RegRow :=
  [⟨"HOSTIF_TX", 0x71000, 1, 1, 1, 1, 0x00000, 0x00000, 0x00000, 0x00000, 0x00000⟩,
   ⟨"HOSTIF_RX", 0x71001, 1, 1, 1, 1, 0x00000, 0x00000, 0x00000, 0x00000, 0x00000⟩,
   ⟨"HOSTIF_LEVEL", 0x71002, 1, 1, 1, 1, 0x00000, 0x00000, 0x00000, 0x00000, 0x04000⟩,
   ⟨"HOSTIF_CTRL", 0x71003, 1, 1, 1, 1, 0xFFFD0, 0x00020, 0x00000, 0x00000, 0x04000⟩,
   ⟨"HOSTIF_DOORBELL", 0x71004, 1, 1, 1, 1, 0x0FF00, 0x80000, 0x00000, 0x00000, 0x00000⟩,
   ⟨"HOSTIF_DMA_ADDR", 0x71005, 1, 1, 1, 1, 0xFFFFF, 0x00000, 0x00000, 0x00000, 0x00000⟩,
   ⟨"HOSTIF_DMA_CTRL", 0x71006, 1, 1, 1, 1, 0x2FFFF, 0x10000, 0x00000, 0x00000, 0x00000⟩,
   ⟨"HOSTIF_DMA_CRC", 0x71007, 1, 1, 1, 1, 0x0FFFF, 0x00000, 0x00000, 0x00000, 0x0FFFF⟩,
   ⟨"HOSTIF_COUNT0–HOSTIF_COUNT13", 0x71010, 1, 14, 1, 1, 0x00000, 0x00000, 0x00000, 0x00000, 0x00000⟩]

/-- Register rows of the block at 0x71400, from its register table. -/
def tlRows : List RegRow :=
  [⟨"TL_STATUS", 0x71400, 1, 1, 1, 1, 0x00000, 0x00C00, 0x00000, 0x00000, 0x00000⟩,
   ⟨"TL_PRES_EVENT", 0x71401, 1, 1, 1, 1, 0x00000, 0x0FFFF, 0x00000, 0x00000, 0x00000⟩,
   ⟨"TL_PEN", 0x71402, 1, 1, 1, 1, 0x000FF, 0x00000, 0x00000, 0x00000, 0x00000⟩,
   ⟨"TL_FILT", 0x71403, 1, 1, 1, 1, 0xFFFFF, 0x00000, 0x00000, 0x00000, 0x80002⟩,
   ⟨"TL_XFER", 0x71404, 1, 1, 1, 1, 0x3FFFF, 0x00000, 0x00000, 0x00000, 0x03F00⟩,
   ⟨"TL_ERR_COUNT", 0x71405, 1, 1, 1, 1, 0x00000, 0x00000, 0x00000, 0x00000, 0x00000⟩,
   ⟨"TL_SLOTn_CH0", 0x71410, 2, 8, 1, 1, 0xFFFFF, 0x00000, 0x00000, 0x00000, 0x00000⟩,
   ⟨"TL_SLOTn_CH1", 0x71411, 2, 8, 1, 1, 0x00FFF, 0x00000, 0x00000, 0x00000, 0x00000⟩,
   ⟨"TL_BUF0–TL_BUF61", 0x71440, 1, 62, 1, 1, 0xFFFFF, 0x00000, 0x00000, 0x00000, 0x00000⟩]

/-- Register rows of the block at 0x71800, from its register table. -/
def keyRows : List RegRow :=
  [⟨"KEY_CTRL", 0x71800, 1, 1, 1, 1, 0x0003F, 0x00000, 0x00000, 0x00000, 0x00000⟩,
   ⟨"KEY_SCAN", 0x71801, 1, 1, 1, 1, 0xFFFFF, 0x00000, 0x00000, 0x00000, 0x914A4⟩,
   ⟨"KEY_STATUS", 0x71802, 1, 1, 1, 1, 0x00000, 0xCE000, 0x00000, 0x01000, 0x00000⟩,
   ⟨"KEY_FIFO", 0x71803, 1, 1, 1, 1, 0x00000, 0x00000, 0x00000, 0x00000, 0x00000⟩,
   ⟨"KEY_MAP0–KEY_MAP7", 0x71808, 1, 8, 1, 1, 0x00000, 0x00000, 0x00000, 0x00000, 0x00000⟩,
   ⟨"KEY_AMBIG0–KEY_AMBIG7", 0x71810, 1, 8, 1, 1, 0x00000, 0x00000, 0x00000, 0x00000, 0x00000⟩,
   ⟨"KEY_STUCK0–KEY_STUCK7", 0x71818, 1, 8, 1, 1, 0x00000, 0x00000, 0x00000, 0x00000, 0x00000⟩,
   ⟨"KEY_STUCK_TIME", 0x71820, 1, 1, 1, 1, 0x00FFF, 0x00000, 0x00000, 0x00000, 0x000F0⟩,
   ⟨"KEY_WAKE", 0x71821, 1, 1, 1, 1, 0x000FF, 0x00000, 0x00000, 0x00000, 0x000FF⟩,
   ⟨"KEY_LOCK", 0x71822, 1, 1, 1, 1, 0x00000, 0x00000, 0x00000, 0x00005, 0x00000⟩,
   ⟨"KEY_UNLOCK_CFG", 0x71823, 1, 1, 1, 1, 0x00FFF, 0x00000, 0x00000, 0x00FFF, 0x00000⟩,
   ⟨"KEY_DROP_COUNT, KEY_CALC_DROP_COUNT, KEY_WAKE_COUNT", 0x71824, 1, 3, 1, 1, 0x00000, 0x00000, 0x00000, 0x00000, 0x00000⟩,
   ⟨"KEY_LOCK_COUNT", 0x71827, 1, 1, 1, 1, 0x00000, 0x00000, 0x00000, 0xFFFFF, 0x00000⟩,
   ⟨"KEY_UNLOCK0–KEY_UNLOCK7", 0x71828, 1, 8, 1, 1, 0x000FF, 0x00000, 0x00000, 0x000FF, 0x00000⟩]

/-- Register rows of the block at 0x71C00, from its register table. -/
def cupRows : List RegRow :=
  [⟨"CUP_CTRL", 0x71C00, 1, 1, 1, 1, 0x00FFF, 0x00000, 0x00000, 0x00000, 0x00140⟩,
   ⟨"CUP_PUMP", 0x71C01, 1, 1, 1, 1, 0x0003F, 0x00000, 0x00000, 0x00000, 0x0001E⟩,
   ⟨"CUP_STATUS", 0x71C02, 1, 1, 1, 1, 0x00000, 0x60000, 0x00000, 0x00000, 0x00000⟩,
   ⟨"CUP_FRAME_COUNT", 0x71C03, 1, 1, 1, 1, 0x00000, 0x00000, 0x00000, 0x00000, 0x00000⟩,
   ⟨"CUP_DM0–CUP_DM95", 0x71C40, 1, 96, 1, 1, 0x0FFFF, 0x00000, 0x00000, 0x00000, 0x00000⟩]

/-- Register rows of the block at 0x72000, from its register table. -/
def sxtRows : List RegRow :=
  [⟨"SXT_STATUS", 0x72000, 1, 1, 1, 1, 0x00000, 0x30000, 0x00000, 0x00000, 0x00000⟩,
   ⟨"SXT_SUBMIT0, SXT_SUBMIT1", 0x72001, 1, 2, 1, 1, 0x00000, 0x00000, 0x00000, 0x00000, 0x00000⟩,
   ⟨"SXT_DONE0, SXT_DONE1", 0x72003, 1, 2, 1, 1, 0x00000, 0x00000, 0x00000, 0x00000, 0x00000⟩,
   ⟨"SXT_HEAD0, SXT_HEAD1", 0x72005, 1, 2, 1, 1, 0x00000, 0x00000, 0x00000, 0x00000, 0x00000⟩,
   ⟨"SXT_REFUSED_COUNT", 0x72007, 1, 1, 1, 1, 0x00000, 0x00000, 0x00000, 0x00000, 0x00000⟩,
   ⟨"SXT_CALC_CTRL", 0x72008, 1, 1, 1, 1, 0x00001, 0x00000, 0x00000, 0x00000, 0x00000⟩,
   ⟨"SXT_PATCH_VERSION", 0x72010, 1, 1, 1, 1, 0x00000, 0x00000, 0x00000, 0x00000, 0x00000⟩,
   ⟨"SXT_PATCH_CTRL", 0x72011, 1, 1, 1, 1, 0x00001, 0x00000, 0x00000, 0x00000, 0x00000⟩,
   ⟨"SXT_PATCH_STATUS", 0x72012, 1, 1, 1, 1, 0x00000, 0x30000, 0x00000, 0x00000, 0x00000⟩,
   ⟨"SXT_PATCH_DATA", 0x72013, 1, 1, 1, 1, 0x00000, 0x00000, 0x00000, 0x00000, 0x00000⟩,
   ⟨"SXT_MCHK", 0x72014, 1, 1, 1, 1, 0x00000, 0x80000, 0x00000, 0x00000, 0x00000⟩,
   ⟨"SXT_MCHK_COUNT, SXT_RECOVER_COUNT", 0x72015, 1, 2, 1, 1, 0x00000, 0x00000, 0x00000, 0x00000, 0x00000⟩,
   ⟨"SXT_SELFTEST", 0x72017, 1, 1, 1, 1, 0x00000, 0x00000, 0x00000, 0x00000, 0x00000⟩,
   ⟨"SXT_PREEMPT_COUNT", 0x72018, 1, 1, 1, 1, 0x00000, 0x00000, 0x00000, 0x00000, 0x00000⟩,
   ⟨"SXT_MATCH0–SXT_MATCH15", 0x72020, 1, 16, 1, 1, 0x00000, 0x00000, 0x00000, 0x00000, 0x00000⟩]

/-- Register rows of the block at 0x72800, from its register table. -/
def protRows : List RegRow :=
  [⟨"PROT_LOCK", 0x72800, 1, 1, 1, 1, 0x00000, 0x00000, 0x00001, 0x00000, 0x00000⟩,
   ⟨"PROT_TRIP", 0x72801, 1, 1, 1, 1, 0x00000, 0x1FFFF, 0x00000, 0x00000, 0x00000⟩,
   ⟨"PROT_FIRST", 0x72802, 1, 1, 1, 1, 0x00000, 0x00000, 0x00000, 0x00000, 0x00000⟩,
   ⟨"PROT_FIRST_MT0–PROT_FIRST_MT2", 0x72803, 1, 3, 1, 1, 0x00000, 0x00000, 0x00000, 0x00000, 0x00000⟩,
   ⟨"PROT_ENTi_CFG", 0x72810, 8, 16, 1, 1, 0xFF000, 0x00000, 0x00000, 0x00000, 0x00000⟩,
   ⟨"PROT_ENTi_CH0", 0x72811, 8, 16, 1, 1, 0xFFFFF, 0x00000, 0x00000, 0x00000, 0x00000⟩,
   ⟨"PROT_ENTi_CH1", 0x72812, 8, 16, 1, 1, 0x00FFF, 0x00000, 0x00000, 0x00000, 0x00000⟩,
   ⟨"PROT_ENTi_HI, PROT_ENTi_LO", 0x72813, 8, 16, 1, 2, 0xFFFFF, 0x00000, 0x00000, 0x00000, 0x00000⟩,
   ⟨"PROT_ENTi_COUNT", 0x72815, 8, 16, 1, 1, 0x00000, 0x00000, 0x00000, 0x00000, 0x00000⟩]

/-- Register rows of the block at 0x73000, from its register table. -/
def pwmRows : List RegRow :=
  [⟨"PWM_CTRL", 0x73000, 64, 32, 1, 1, 0x0FFC0, 0x00000, 0x00000, 0x00000, 0x00000⟩,
   ⟨"PWM_STATUS", 0x73001, 64, 32, 1, 1, 0x00000, 0x38000, 0x00000, 0x00000, 0x40000⟩,
   ⟨"PWM_PER", 0x73002, 64, 32, 1, 1, 0x07FFF, 0x00000, 0x00000, 0x00000, 0x07FFF⟩,
   ⟨"PWM_PHASE", 0x73003, 64, 32, 1, 1, 0x07FFF, 0x00000, 0x00000, 0x00000, 0x00000⟩,
   ⟨"PWM_DTR, PWM_DTF", 0x73004, 64, 32, 1, 2, 0x07FFF, 0x00000, 0x00000, 0x00000, 0x00000⟩,
   ⟨"PWM_MAP_OFS", 0x73006, 64, 32, 1, 1, 0xFFFFF, 0x00000, 0x00000, 0x00000, 0x00000⟩,
   ⟨"PWM_MAP_GAIN", 0x73007, 64, 32, 1, 1, 0xFFFFF, 0x00000, 0x00000, 0x00000, 0x01000⟩,
   ⟨"PWM_SWDUTY", 0x73008, 64, 32, 1, 1, 0xFFFFF, 0x00000, 0x00000, 0x00000, 0x00000⟩,
   ⟨"PWM_SKIP", 0x73009, 64, 32, 1, 1, 0x7FFFF, 0x00000, 0x00000, 0x00000, 0x00000⟩,
   ⟨"PWM_BURST", 0x7300A, 64, 32, 1, 1, 0x0FFFF, 0x00000, 0x00000, 0x00000, 0x00000⟩,
   ⟨"PWM_VF_MIN", 0x7300B, 64, 32, 1, 1, 0x07FFF, 0x00000, 0x00000, 0x00000, 0x00000⟩,
   ⟨"PWM_VF_TON", 0x7300C, 64, 32, 1, 1, 0x87FFF, 0x00000, 0x00000, 0x00000, 0x00000⟩,
   ⟨"PWM_CMP", 0x7300D, 64, 32, 1, 1, 0xFFFC0, 0x00000, 0x00000, 0x00000, 0x00000⟩,
   ⟨"PWM_DUTY", 0x7300E, 64, 32, 1, 1, 0x00000, 0x00000, 0x00000, 0x00000, 0x00000⟩,
   ⟨"PWM_LATE_COUNT", 0x7300F, 64, 32, 1, 1, 0x00000, 0x00000, 0x00000, 0x00000, 0x00000⟩,
   ⟨"PWM_DROP_COUNT", 0x73010, 64, 32, 1, 1, 0x00000, 0x00000, 0x00000, 0x00000, 0x00000⟩,
   ⟨"PWM_FLOOR", 0x73800, 1, 1, 1, 1, 0x00000, 0x00000, 0xFFFFF, 0x00000, 0x00000⟩,
   ⟨"PWM_CAL0", 0x73801, 1, 1, 1, 1, 0x00000, 0x00000, 0x00000, 0x00000, 0x00000⟩,
   ⟨"PWM_CAL1", 0x73802, 1, 1, 1, 1, 0x00000, 0x00000, 0x00000, 0x00000, 0x00000⟩]

/-- Register rows of the block at 0x74000, from its register table. -/
def fixRows : List RegRow :=
  [⟨"FIX_CTRL", 0x74000, 1, 1, 1, 1, 0x0000C, 0x00000, 0x00000, 0x00000, 0x00000⟩,
   ⟨"FIX_STATUS", 0x74001, 1, 1, 1, 1, 0x00000, 0x38000, 0x00000, 0x00000, 0x00000⟩,
   ⟨"FIX_SEQ", 0x74002, 1, 1, 1, 1, 0x00000, 0x00000, 0x00000, 0x00000, 0x00000⟩,
   ⟨"FIX_CUR", 0x74003, 1, 1, 1, 1, 0x00000, 0x00000, 0x00000, 0x00000, 0x00000⟩,
   ⟨"FIX_OPEN", 0x74004, 1, 1, 1, 1, 0x00000, 0x00000, 0x00000, 0x00000, 0x00000⟩,
   ⟨"FIX_CLOSE", 0x74005, 1, 1, 1, 1, 0x00000, 0x00000, 0x00000, 0x00000, 0x00000⟩,
   ⟨"FIX_CMP0, FIX_CMP1", 0x74006, 1, 2, 1, 1, 0xFFFFF, 0x00000, 0x00000, 0x00000, 0x00000⟩,
   ⟨"FIX_INT", 0x74008, 1, 1, 1, 1, 0xFFFFF, 0x00000, 0x00000, 0x00000, 0x00001⟩,
   ⟨"FIX_MERGE_COUNT", 0x74009, 1, 1, 1, 1, 0x00000, 0x00000, 0x00000, 0x00000, 0x00000⟩,
   ⟨"FIX_METERn", 0x74020, 1, 32, 1, 1, 0xFFFF8, 0x00000, 0x00000, 0x00000, 0x00000⟩]

/-- Register rows of the block at 0x76000, from its register table. -/
def adcRows : List RegRow :=
  [⟨"ADC_CTRLt", 0x76000, 256, 4, 1, 1, 0x001FF, 0x00000, 0x00000, 0x00000, 0x00000⟩,
   ⟨"ADC_STATUSt", 0x76001, 256, 4, 1, 1, 0x00000, 0x70000, 0x00000, 0x00000, 0x00000⟩,
   ⟨"ADC_LATE_COUNTt, ADC_MISS_COUNTt", 0x76002, 256, 4, 1, 2, 0x00000, 0x00000, 0x00000, 0x00000, 0x00000⟩,
   ⟨"ADC_SWTRIGt", 0x76004, 256, 4, 1, 1, 0x00000, 0x00000, 0x00000, 0x00000, 0x00000⟩,
   ⟨"ADC_SEQt_e_CFG", 0x76040, 256, 4, 4, 16, 0xFFC00, 0x00000, 0x00000, 0x00000, 0x00000⟩,
   ⟨"ADC_SEQt_e_TRIG", 0x76041, 256, 4, 4, 16, 0xFFFFF, 0x00000, 0x00000, 0x00000, 0x00000⟩,
   ⟨"ADC_SEQt_e_OFS", 0x76042, 256, 4, 4, 16, 0xFFFFF, 0x00000, 0x00000, 0x00000, 0x00000⟩,
   ⟨"ADC_SEQt_e_GAIN", 0x76043, 256, 4, 4, 16, 0xFFFFF, 0x00000, 0x00000, 0x00000, 0x01000⟩,
   ⟨"ADC_CMPn_CFG", 0x76080, 256, 4, 4, 16, 0xFFFFC, 0x00000, 0x00000, 0x00000, 0x00000⟩,
   ⟨"ADC_CMPn_THR", 0x76081, 256, 4, 4, 16, 0x00FFF, 0x00000, 0x00000, 0x00000, 0x00000⟩,
   ⟨"ADC_CMPn_SLOPE", 0x76082, 256, 4, 4, 16, 0xFFFFF, 0x00000, 0x00000, 0x00000, 0x00000⟩,
   ⟨"ADC_CMPn_STATUS", 0x76083, 256, 4, 4, 16, 0x00000, 0x40000, 0x00000, 0x00000, 0x00000⟩,
   ⟨"ADC_SLOTt_e", 0x760C0, 256, 4, 1, 16, 0x00000, 0x00000, 0x00000, 0x00000, 0x00000⟩,
   ⟨"ADC_RDm_CTRL", 0x76E00, 16, 8, 1, 1, 0xFFFF0, 0x00000, 0x00000, 0x00000, 0x00000⟩,
   ⟨"ADC_RDm_HYST", 0x76E01, 16, 8, 1, 1, 0x7FFFF, 0x00000, 0x00000, 0x00000, 0x00000⟩,
   ⟨"ADC_RDm_PMIN, ADC_RDm_PMAX", 0x76E02, 16, 8, 1, 2, 0xFFFFF, 0x00000, 0x00000, 0x00000, 0x00000⟩,
   ⟨"ADC_RDm_INC0, ADC_RDm_INC1", 0x76E04, 16, 8, 1, 2, 0xFFFFF, 0x00000, 0x00000, 0x00000, 0x00000⟩,
   ⟨"ADC_RDm_PERIOD0, ADC_RDm_PERIOD1", 0x76E06, 16, 8, 1, 2, 0x00000, 0x00000, 0x00000, 0x00000, 0x00000⟩,
   ⟨"ADC_RDm_STATUS", 0x76E08, 16, 8, 1, 1, 0x00000, 0x40000, 0x00000, 0x00000, 0x00000⟩]

/-- Register rows of the block at 0x77000, from its register table. -/
def posRows : List RegRow :=
  [⟨"POS_n_CTRL", 0x77000, 64, 3, 1, 1, 0xFFFF0, 0x00000, 0x00000, 0x00000, 0x00000⟩,
   ⟨"POS_n_LINES", 0x77001, 64, 3, 1, 1, 0x0FFFF, 0x00000, 0x00000, 0x00000, 0x00001⟩,
   ⟨"POS_n_OFS", 0x77002, 64, 3, 1, 1, 0xFFFFF, 0x00000, 0x00000, 0x00000, 0x00000⟩,
   ⟨"POS_n_TMO", 0x77003, 64, 3, 1, 1, 0x0FFFF, 0x00000, 0x00000, 0x00000, 0x00000⟩,
   ⟨"POS_n_SSI", 0x77004, 64, 3, 1, 1, 0xFFFC0, 0x00000, 0x00000, 0x00000, 0x507C0⟩,
   ⟨"POS_n_SSI_PER", 0x77005, 64, 3, 1, 1, 0xFFFFF, 0x00000, 0x00000, 0x00000, 0x00000⟩,
   ⟨"POS_n_ANGLE", 0x77008, 64, 3, 1, 1, 0x00000, 0x00000, 0x00000, 0x00000, 0x00000⟩,
   ⟨"POS_n_SPEED", 0x77009, 64, 3, 1, 1, 0x00000, 0x00000, 0x00000, 0x00000, 0x00000⟩,
   ⟨"POS_n_TURNS0, POS_n_TURNS1", 0x7700A, 64, 3, 1, 2, 0x00000, 0x00000, 0x00000, 0x00000, 0x00000⟩,
   ⟨"POS_n_STATUS", 0x7700C, 64, 3, 1, 1, 0x00000, 0x0F800, 0x00000, 0x00000, 0x20000⟩,
   ⟨"POS_n_ERR_COUNT", 0x7700D, 64, 3, 1, 1, 0x00000, 0x00000, 0x00000, 0x00000, 0x00000⟩,
   ⟨"POS_n_PERIOD0, POS_n_PERIOD1", 0x7700E, 64, 3, 1, 2, 0x00000, 0x00000, 0x00000, 0x00000, 0x00000⟩,
   ⟨"EMU_m_CTRL", 0x77100, 16, 2, 1, 1, 0xF0000, 0x00000, 0x00000, 0x00000, 0x00000⟩,
   ⟨"EMU_m_LINES", 0x77101, 16, 2, 1, 1, 0x0FFFF, 0x00000, 0x00000, 0x00000, 0x00001⟩,
   ⟨"EMU_m_MINEDGE", 0x77102, 16, 2, 1, 1, 0x00FFF, 0x00000, 0x00000, 0x00000, 0x00001⟩,
   ⟨"EMU_m_STATUS", 0x77103, 16, 2, 1, 1, 0x00000, 0xC0000, 0x00000, 0x00000, 0x00000⟩,
   ⟨"VEC_n_CFG", 0x77200, 8, 32, 1, 1, 0xFFFFF, 0x00000, 0x00000, 0x00000, 0x00001⟩,
   ⟨"VEC_n_OFS", 0x77201, 8, 32, 1, 1, 0xFFFFF, 0x00000, 0x00000, 0x00000, 0x00000⟩,
   ⟨"VEC_n_INC0, VEC_n_INC1", 0x77202, 8, 32, 1, 2, 0xFFFFF, 0x00000, 0x00000, 0x00000, 0x00000⟩,
   ⟨"VEC_n_STATUS", 0x77204, 8, 32, 1, 1, 0x00000, 0xC0000, 0x00000, 0x00000, 0x00000⟩,
   ⟨"VEC_n_THETA", 0x77205, 8, 32, 1, 1, 0x00000, 0x00000, 0x00000, 0x00000, 0x00000⟩,
   ⟨"VEC_n_IDQ", 0x77206, 8, 32, 1, 1, 0x00000, 0x00000, 0x00000, 0x00000, 0x00000⟩]

/-- Register rows of the block at 0x78000, from its register table. -/
def cellRows : List RegRow :=
  [⟨"CELL_CTRL", 0x78000, 512, 32, 1, 1, 0x00007, 0x00000, 0x00000, 0x00000, 0x00000⟩,
   ⟨"CELL_STATUS", 0x78001, 512, 32, 1, 1, 0x00000, 0x02080, 0x00000, 0x00000, 0x40000⟩,
   ⟨"CELL_EVENT", 0x78002, 512, 32, 1, 1, 0x00000, 0x001FF, 0x00000, 0x00000, 0x00000⟩,
   ⟨"CELL_EVENT_EN, CELL_EVENT_IRQ, CELL_EVENT_FIX, CELL_EVENT_LOG", 0x78003, 512, 32, 1, 4, 0x001FF, 0x00000, 0x00000, 0x00000, 0x00000⟩,
   ⟨"CELL_SEQ_CTRL", 0x78007, 512, 32, 1, 1, 0x00000, 0x00000, 0x00000, 0x00000, 0x00000⟩,
   ⟨"CELL_SEQ_ENTRY", 0x78008, 512, 32, 1, 1, 0x007FF, 0x00000, 0x00000, 0x00000, 0x00000⟩,
   ⟨"CELL_SEQ_PC", 0x78009, 512, 32, 1, 1, 0x00000, 0x00000, 0x00000, 0x00000, 0x00000⟩,
   ⟨"CELL_TIMING", 0x7800A, 512, 32, 1, 1, 0x00000, 0x00000, 0x00000, 0x00000, 0x00008⟩,
   ⟨"CELL_COMMIT", 0x7800B, 512, 32, 1, 1, 0x00000, 0x00000, 0x00000, 0x00000, 0x00000⟩,
   ⟨"CELL_STANDBY", 0x7800C, 512, 32, 1, 1, 0x00001, 0x00000, 0x00000, 0x00000, 0x00000⟩,
   ⟨"CELL_Y, CELL_REFV, CELL_ERR, CELL_OUT", 0x7800D, 512, 32, 1, 4, 0x00000, 0x00000, 0x00000, 0x00000, 0x00000⟩,
   ⟨"CELL_MT0–CELL_MT2", 0x78011, 512, 32, 1, 3, 0x00000, 0x00000, 0x00000, 0x00000, 0x00000⟩,
   ⟨"CELL_EVENT_COUNT0–CELL_EVENT_COUNT9", 0x78020, 512, 32, 1, 10, 0x00000, 0x00000, 0x00000, 0x00000, 0x00000⟩]

/-- Register rows of the block at 0x7E000, from its register table. -/
def logRows : List RegRow :=
  [⟨"LOG_CTRL", 0x7E000, 1, 1, 1, 1, 0xFF800, 0x00000, 0x00000, 0x00000, 0x10000⟩,
   ⟨"LOG_STATUS", 0x7E001, 1, 1, 1, 1, 0x00000, 0x70000, 0x00000, 0x00000, 0x00000⟩,
   ⟨"LOG_WPTR", 0x7E002, 1, 1, 1, 1, 0x00000, 0x00000, 0x00000, 0x00000, 0x80000⟩,
   ⟨"LOG_WRAPS, LOG_DROP_COUNT", 0x7E003, 1, 2, 1, 1, 0x00000, 0x00000, 0x00000, 0x00000, 0x00000⟩,
   ⟨"LOG_SWD0–LOG_SWD3", 0x7E008, 1, 4, 1, 1, 0xFFFFF, 0x00000, 0x00000, 0x00000, 0x00000⟩,
   ⟨"LOG_SWREC", 0x7E00C, 1, 1, 1, 1, 0x00000, 0x00000, 0x00000, 0x00000, 0x00000⟩,
   ⟨"LOG_TRACE_SRCk", 0x7E010, 1, 8, 1, 1, 0xF003F, 0x00000, 0x00000, 0x00000, 0x00000⟩,
   ⟨"LOG_TRACE_CFG", 0x7E018, 1, 1, 1, 1, 0xFFC00, 0x00000, 0x00000, 0x00000, 0x00000⟩,
   ⟨"LOG_TRACE_PRE", 0x7E019, 1, 1, 1, 1, 0xFFFFF, 0x00000, 0x00000, 0x00000, 0x00000⟩,
   ⟨"LOG_TRACE_CTRL", 0x7E01A, 1, 1, 1, 1, 0xBFFC0, 0x00000, 0x00000, 0x00000, 0x00000⟩,
   ⟨"LOG_TRIG_ADDR", 0x7E01C, 1, 1, 1, 1, 0x00000, 0x00000, 0x00000, 0x00000, 0x00000⟩,
   ⟨"LOG_TRIG_MT0–LOG_TRIG_MT2", 0x7E01D, 1, 3, 1, 1, 0x00000, 0x00000, 0x00000, 0x00000, 0x00000⟩,
   ⟨"LOG_TRACE_COUNT", 0x7E020, 1, 1, 1, 1, 0x00000, 0x00000, 0x00000, 0x00000, 0x00000⟩]

/-- Register rows of the block at 0x100000, from its register table. -/
def hostWindowRows : List RegRow :=
  [⟨"HW_ID", 0x100000, 1, 1, 1, 1, 0x00000, 0x00000, 0x00000, 0x00000, 0x06020⟩,
   ⟨"HW_VERSION", 0x100001, 1, 1, 1, 1, 0x00000, 0x00000, 0x00000, 0x00000, 0x20000⟩,
   ⟨"HW_STATUS", 0x100002, 1, 1, 1, 1, 0x00000, 0x00E00, 0x00000, 0x00000, 0x01000⟩,
   ⟨"HW_IRQ", 0x100003, 1, 1, 1, 1, 0x00000, 0x007FF, 0x00000, 0x00000, 0x00100⟩,
   ⟨"HW_IRQ_EN", 0x100004, 1, 1, 1, 1, 0x007FF, 0x00000, 0x00000, 0x00000, 0x00000⟩,
   ⟨"HW_TX_DATA", 0x100005, 1, 1, 1, 1, 0x00000, 0x00000, 0x00000, 0x00000, 0x00000⟩,
   ⟨"HW_TX_SPACE", 0x100006, 1, 1, 1, 1, 0x00000, 0x00000, 0x00000, 0x00000, 0x00040⟩,
   ⟨"HW_RX_DATA", 0x100007, 1, 1, 1, 1, 0x00000, 0x00000, 0x00000, 0x00000, 0x00000⟩,
   ⟨"HW_RX_COUNT", 0x100008, 1, 1, 1, 1, 0x00000, 0x00000, 0x00000, 0x00000, 0x00000⟩,
   ⟨"HW_DOORBELL", 0x100009, 1, 1, 1, 1, 0x00000, 0x00000, 0x00000, 0x00000, 0x00000⟩,
   ⟨"HW_STREAM_STATE", 0x10000A, 1, 1, 1, 1, 0x00000, 0x00000, 0x00000, 0x00000, 0x00000⟩,
   ⟨"HW_STATE", 0x10000B, 1, 1, 1, 1, 0x00000, 0x00000, 0x00000, 0x01000, 0x00000⟩,
   ⟨"HW_KEY_COUNT", 0x10001A, 1, 1, 1, 1, 0x00000, 0x00000, 0x00000, 0x00000, 0x00000⟩,
   ⟨"HW_LOCK", 0x10001B, 1, 1, 1, 1, 0x00000, 0x00000, 0x00000, 0x00003, 0x00000⟩,
   ⟨"HW_SCRATCH", 0x10001C, 1, 1, 1, 1, 0xFFFFF, 0x00000, 0x00000, 0xFFFFF, 0x00000⟩]

/-- The row holds the address. -/
def RegRow.covers (r : RegRow) (a : Nat) : Bool :=
  let o := a - r.base
  decide (r.base ≤ a) && decide (o / r.stride1 < r.count1) && decide (o % r.stride1 % r.stride2 = 0) &&
    decide (o % r.stride1 / r.stride2 < r.count2)

/-- The table of the block that holds an address (R86); the host window (R368) stands at 0x100000. -/
def blockRows (a : Nat) : List RegRow :=
  if a < 0x70000 then []
  else if a < 0x70400 then sysRows
  else if a < 0x70800 then clkRows
  else if a < 0x70C00 then pwrRows
  else if a < 0x71000 then busRows
  else if a < 0x71400 then hostifRows
  else if a < 0x71800 then tlRows
  else if a < 0x71C00 then keyRows
  else if a < 0x72000 then cupRows
  else if a < 0x72800 then sxtRows
  else if a < 0x73000 then protRows
  else if a < 0x74000 then pwmRows
  else if a < 0x76000 then fixRows
  else if a < 0x77000 then adcRows
  else if a < 0x78000 then posRows
  else if a < 0x7C000 then cellRows
  else if a < 0x7E000 then []
  else if a < 0x7F000 then logRows
  else if a < 0x100000 then []
  else hostWindowRows

/-- The row of an address; none for a reserved address (R86). -/
def regRow (a : Nat) : Option RegRow := (blockRows a).find? (·.covers a)

/-- What a register reads as after a cold reset. -/
def regReset (a : Nat) : Word :=
  match regRow a with
  | some r => r.reset
  | none => 0

end Sys2Proof.Machine
end

