-- ==== Sys2Proof/Machine/Ops.lean ====
section
/-! DEFINITION. The named operations over registers, memory and the typed parts of State that every family uses: bit
fields, register access, master time, rounding, conflicts, faults, parity errors and the NMI. -/
namespace Sys2Proof.Machine

/-- The field of n bits from bit lo. -/
def fld (w : Word) (lo n : Nat) : Nat := w.toNat / 2 ^ lo % 2 ^ n

/-- A word with the field of n bits from bit lo set to v. -/
def putFld (w : Word) (lo n v : Nat) : Word :=
  BitVec.ofNat 20 (w.toNat - fld w lo n * 2 ^ lo + v % 2 ^ n * 2 ^ lo)

/-- Bit i of a word. -/
def tst (w : Word) (i : Nat) : Bool := w.toNat.testBit i

/-- A word with bit i set to b. -/
def putBit (w : Word) (i : Nat) (b : Bool) : Word := putFld w i 1 b.toNat

/-- Word k of a wide value, least significant word first (R5). -/
def wordOf (n k : Nat) : Word := BitVec.ofNat 20 (n / 2 ^ (20 * k))

/-- The value of words stored least significant word first (R5). -/
def ofWords : List Word → Nat
  | [] => 0
  | w :: ws => w.toNat + 2 ^ 20 * ofWords ws

/-- An integer as a 20-bit word. -/
def ofI (x : Int) : Word := BitVec.ofInt 20 x

/-- Rounding half up of x / 2^n (R171, R172). -/
def roundShift (x : Int) (n : Nat) : Int := if n = 0 then x else (x + 2 ^ (n - 1)) / 2 ^ n

/-- Rounding half up of a quotient. -/
def roundDiv (a : Int) (b : Nat) : Int := (2 * a + b) / (2 * b)

/-- An integer held between two bounds. -/
def clampI (lo hi x : Int) : Int := max lo (min hi x)

/-- Saturation to Q1.19 (R173). -/
def sat19 (x : Int) : Int := clampI (-524288) 524287 x

/-- Saturation to Q9.31 (R172). -/
def sat39 (x : Int) : Int := clampI (-549755813888) 549755813887 x

/-- A register. -/
def State.rd (s : State) (a : Nat) : Word := lookup regReset s.reg a

/-- s with a register set. -/
def State.wr (s : State) (a : Nat) (v : Word) : State := { s with reg := update regReset s.reg a v }

/-- A field of a register. -/
def State.rf (s : State) (a lo n : Nat) : Nat := fld (s.rd a) lo n

/-- A bit of a register. -/
def State.rb (s : State) (a i : Nat) : Bool := tst (s.rd a) i

/-- s with a field of a register set. -/
def State.wf (s : State) (a lo n v : Nat) : State := s.wr a (putFld (s.rd a) lo n v)

/-- s with the record of its present cycle changed. -/
def State.mapCyc (f : Cyc → Cyc) (s : State) : State := { s with cyc := f s.cyc }

/-- s with a bit of a register set to b; a bit set is kept in mind until the cycle ends (R7). -/
def State.wb (s : State) (a i : Nat) (b : Bool) : State :=
  (s.wr a (putBit (s.rd a) i b)).mapCyc fun c => { c with sets := if b then (a, i) :: c.sets else c.sets }

/-- The bits of a register that hardware has set in this cycle. -/
def State.setNow (s : State) (a : Nat) : Word :=
  s.cyc.sets.foldl (fun m x => if x.1 = a then putBit m x.2 true else m) 0

/-- A bus write has written the RW fields of a register in this cycle; hardware does not alter them (R95). -/
def State.written (s : State) (a : Nat) : Bool := s.cyc.wrote.contains a

/-- The hardware updates a register whose fields are RW; a bus write of the same cycle takes effect instead (R95). -/
def State.hw (s : State) (a : Nat) (v : Word) : State := if s.written a then s else s.wr a v

/-- Hardware updates of consecutive RW registers from a on, least significant word first (R5, R95). -/
def State.hwWide (s : State) (a count n : Nat) : State :=
  (List.range count).foldl (fun t k => t.hw (a + k) (BitVec.ofNat 20 (n / 2 ^ (20 * k)))) s

/-- The hardware updates a field whose type is RW (R95). -/
def State.hwf (s : State) (a lo n v : Nat) : State := if s.written a then s else s.wf a lo n v

/-- What a register held when the present cycle began, where that has been kept. -/
def State.before (s : State) (a : Nat) : Word :=
  match s.cyc.was.find? fun x => decide (x.1 = a) with
  | some x => x.2
  | none => s.rd a

/-- A register's value is kept for uses of the same cycle; the first one stays. -/
def State.keepBefore (s : State) (a : Nat) : State :=
  if s.cyc.was.any fun x => decide (x.1 = a) then s else s.mapCyc fun c => { c with was := (a, s.rd a) :: c.was }

/-- s with its record of the protection entries that are active set. -/
def State.setProtWas (s : State) (v : Vector Bool 16) : State := { s with protWas := v }

/-- s with the effects set up for later cycles changed. -/
def State.mapSched (f : List (Nat × Ev) → List (Nat × Ev)) (s : State) : State := { s with sched := f s.sched }

/-- An effect is set up for a cycle. -/
def State.at_ (s : State) (t : Nat) (e : Ev) : State := { s with sched := s.sched ++ [(t, e)] }

/-- s with a counting register advanced by n; it wraps at 2^20. -/
def State.bump (s : State) (a : Nat) (n : Nat := 1) : State := s.wr a (s.rd a + BitVec.ofNat 20 n)

/-- s with registers from a on set to the words of a wide value, least significant first (R5). -/
def State.wrWide (s : State) (a : Nat) (count n : Nat) : State :=
  (List.range count).foldl (fun t k => t.wr (a + k) (wordOf n k)) s

/-- Apply f to every number below n, in ascending order. -/
def forAll (n : Nat) (f : Nat → State → State) (s : State) : State := (List.range n).foldl (fun t i => f i t) s

/-- A cell's state. -/
def State.cell (s : State) (c : Nat) : Cell := vget Cell.reset s.cells c
/-- s with a cell's state changed. -/
def State.modCell (s : State) (c : Nat) (f : Cell → Cell) : State := { s with cells := vset s.cells c (f (s.cell c)) }
/-- A channel's state. -/
def State.chan (s : State) (w : Nat) : Chan := vget Chan.reset s.chans w
/-- s with a channel's state changed. -/
def State.modChan (s : State) (w : Nat) (f : Chan → Chan) : State := { s with chans := vset s.chans w (f (s.chan w)) }
/-- A processor. -/
def State.proc (s : State) (p : Nat) : Proc := vget (Proc.reset false) s.procs p
/-- s with a processor changed. -/
def State.modProc (s : State) (p : Nat) (f : Proc → Proc) : State := { s with procs := vset s.procs p (f (s.proc p)) }

/-- s with its clock state changed. -/
def State.mapClk (f : Clk → Clk) (s : State) : State := { s with clk := f s.clk }
/-- s with its power state changed. -/
def State.mapPwr (f : Pwr → Pwr) (s : State) : State := { s with pwr := f s.pwr }
/-- s with its bus state changed. -/
def State.mapBus (f : Bus → Bus) (s : State) : State := { s with bus := f s.bus }
/-- s with its Fix state changed. -/
def State.mapFix (f : Fix → Fix) (s : State) : State := { s with fix := f s.fix }
/-- s with its Logbook state changed. -/
def State.mapLog (f : Log → Log) (s : State) : State := { s with log := f s.log }
/-- s with its Sextant state changed. -/
def State.mapSxt (f : Sxt → Sxt) (s : State) : State := { s with sxt := f s.sxt }
/-- s with its calculator state changed. -/
def State.mapCalc (f : Calc → Calc) (s : State) : State := { s with calculator := f s.calculator }
/-- s with its scanner state changed. -/
def State.mapKey (f : Key → Key) (s : State) : State := { s with key := f s.key }
/-- s with its Cupola state changed. -/
def State.mapCup (f : Cup → Cup) (s : State) : State := { s with cup := f s.cup }
/-- s with its host-link state changed. -/
def State.mapHostif (f : Hostif → Hostif) (s : State) : State := { s with host := f s.host }

/-- A new transaction of the host has begun: a repeat read before it is over (R365). -/
def endFrame (s : State) : State := s.mapHostif fun h => { h with frame := none }

/-- A read of one register has given the host this value, and is over (R365, R366). -/
def hostShown (w : Word) (s : State) : State := s.mapHostif fun h => { h with shown := w, frame := none }
/-- s with its Turtelink state changed. -/
def State.mapTl (f : Tl → Tl) (s : State) : State := { s with tl := f s.tl }
/-- s with its boot state changed. -/
def State.mapBoot (f : Boot → Boot) (s : State) : State := { s with boot := f s.boot }
/-- s with its policy state changed. -/
def State.mapPolicy (f : Policy → Policy) (s : State) : State := { s with policy := f s.policy }
/-- A converter. -/
def State.conv (s : State) (i : Nat) : Conv :=
  vget
    { waiting := [], cur := none, codes := [], busy := false, instants := [] } s.convs i
/-- s with a converter changed. -/
def State.modConv (s : State) (i : Nat) (f : Conv → Conv) : State := { s with convs := vset s.convs i (f (s.conv i)) }
/-- A sample-sequencer entry. -/
def State.entryS (s : State) (i : Nat) : EntryS :=
  vget { fixed := [], last := none } s.entries i
/-- s with a sample-sequencer entry changed. -/
def State.modEntryS (s : State) (i : Nat) (f : EntryS → EntryS) : State := { s with entries := vset s.entries i (f (s.entryS i)) }
/-- A comparator. -/
def State.comp (s : State) (i : Nat) : Comp :=
  vget { blanking := false } s.comps i
/-- s with a comparator changed. -/
def State.modComp (s : State) (i : Nat) (f : Comp → Comp) : State := { s with comps := vset s.comps i (f (s.comp i)) }
/-- A ripple detector. -/
def State.ripple (s : State) (i : Nat) : Ripple :=
  vget
    { h := 0, armed := false, last := none, samples := [], good := 0, bad := 0, phi := 0 } s.ripples i
/-- s with a ripple detector changed. -/
def State.modRipple (s : State) (i : Nat) (f : Ripple → Ripple) : State := { s with ripples := vset s.ripples i (f (s.ripple i)) }
/-- A position interface. -/
def State.posn (s : State) (i : Nat) : Pos :=
  vget
    { lv := 0, count := 0, zSeen := false, raw := 0, lastEdge := none, period := 0, run := 0, lastDir := true, ssiOld := none,
      ssiBusy := none, changed := Vector.replicate 6 none, worked := 0 } s.pos i
/-- s with a position interface changed. -/
def State.modPos (s : State) (i : Nat) (f : Pos → Pos) : State := { s with pos := vset s.pos i (f (s.posn i)) }
/-- An emulation output. -/
def State.emu (s : State) (i : Nat) : Emu := vget { inv := false, used := false, last := none } s.emus i
/-- s with an emulation output changed. -/
def State.modEmu (s : State) (i : Nat) (f : Emu → Emu) : State := { s with emus := vset s.emus i (f (s.emu i)) }
/-- A vector unit. -/
def State.vec (s : State) (i : Nat) : Vec :=
  vget
    { fwd := none, fwdQ := [], inv := none, invQ := [] } s.vecs i
/-- s with a vector unit changed. -/
def State.modVec (s : State) (i : Nat) (f : Vec → Vec) : State := { s with vecs := vset s.vecs i (f (s.vec i)) }
/-- A Type-C port. -/
def State.pdPort (s : State) (i : Nat) : PdPort :=
  vget PdPort.reset s.ports i
/-- s with a Type-C port changed. -/
def State.modPdPort (s : State) (i : Nat) (f : PdPort → PdPort) : State := { s with ports := vset s.ports i (f (s.pdPort i)) }

/-- Base address of the registers of cell n (R168). -/
def cellBase (n : Nat) : Nat := 0x78000 + n * 0x200
/-- Base address of the registers of channel n (R227). -/
def chanBase (n : Nat) : Nat := 0x73000 + n * 0x40
/-- Base address of the registers of turret t (R249). -/
def adcBase (t : Nat) : Nat := 0x76000 + t * 0x100
/-- Base address of the registers of position interface n (R261). -/
def posBase (n : Nat) : Nat := 0x77000 + n * 0x40

/-- Master time (R52 to R54): the fabric counter while the fabric counts, Keep's count otherwise. -/
def State.mt (s : State) : Nat := if s.clk.fabOn then s.clk.fabMt else s.clk.keepMt

/-- The power state (R83): 0 RUN, 1 DOZE, 2 SLATE, 3 HOLD, 4 OFF. -/
def State.pstate (s : State) : Nat := s.rf 0x70800 17 3

/-- A votable domain (1 SXT, 2 FABRIC, 3 ANALOG, 4 MEM, 5 IFACE) is ready (R73, R83). -/
def State.dom (s : State) (d : Nat) : Bool := s.rb 0x70800 (6 + d)

/-- Target t retains domain d in whole (R62); of MEM SLATE leaves the Sextant memory on. -/
def retains (t d : Nat) : Bool := decide (t = 3) || (decide (t = 2) && decide (2 ≤ d) && decide (d ≤ 4))

/-- The entry under way has stopped the clock of block n of the handshake (R76 step 5, R77): 1 HOSTIF, 2 TL, 3 PD, 4 SMB,
5 KEY, 6 CUP, 7 SXT, 8 LOG, 9 FABRIC, 10 ANALOG, 11 MEM, 12 CORE. -/
def State.blockStopped (s : State) (n : Nat) : Bool :=
  match s.pwr.entry with
  | some e =>
    e.stopped.contains n ||
      (decide (e.step = 6) &&
        (match n with
         | 7 => retains e.target 1
         | 8 => retains e.target 2
         | 9 => retains e.target 2
         | 10 => retains e.target 3
         | 11 => retains e.target 4
         | 12 => true
         | 5 => decide (e.target = 3)
         | 6 => decide (e.target = 3)
         | _ => true))
  | none => false

/-- The handshake block that stands for domain d (R77); IFACE has several. -/
def domBlock (d : Nat) : Nat := match d with | 1 => 7 | 2 => 9 | 3 => 10 | 4 => 11 | _ => 0

/-- Domain d is ready and clocked, so that its events act. -/
def State.clocked (s : State) (d : Nat) : Bool := s.dom d && !s.blockStopped (domBlock d)

/-- Block n of IFACE is ready and clocked. -/
def State.ifaceOn (s : State) (n : Nat) : Bool := s.dom 5 && !s.blockStopped n

/-- The fabric works: FABRIC is ready and clocked, and its counter runs (R53, R73). -/
def State.fabric (s : State) : Bool := s.clocked 2 && s.clk.fabOn

/-- The Helm cores stand still: outside RUN, once an entry has stopped them, during a wake, a reset or OFF. -/
def helmStopped (s : State) : Bool :=
  decide (s.pstate ≠ 0) || s.pwr.wake.isSome || s.pwr.inReset || s.pwr.off || s.blockStopped 12

/-- The free-value counter, advanced by n (log 2). -/
def State.advance (s : State) (n : Nat) : State := { s with freeCtr := s.freeCtr + n }

/-- The owner code of a resource in the claim table (R97); 0 free. -/
def State.owner (s : State) (cls idx : Nat) : Nat := lookup zeroAt s.claims (cls * 1000 + idx)

/-- s with an owner recorded. -/
def State.setOwner (s : State) (cls idx code : Nat) : State :=
  { s with claims := update zeroAt s.claims (cls * 1000 + idx) code }

/-- A conflict (R29); the pad index it records, where it records one. -/
def conflict (idx : Option Nat) (s : State) : State :=
  let s := (s.wb 0x70C10 19 true).bump 0x70C11
  match idx with
  | some i => s.wf 0x70C10 0 9 i
  | none => s

/-- The register of pad p (R27). -/
def padReg (p : Nat) : Nat := 0x70D00 + p

/-- Block o owns pad p, which carries its primary function (R29). -/
def padOf (o p : Nat) (s : State) : Bool := decide (s.owner 0 p = o) && decide (s.rf (padReg p) 0 2 = 0)

/-- A block that is enabled without pads it needs stays disconnected from them, each missing one a conflict (R99). -/
def needPads (o : Nat) (ps : List Nat) (s : State) : State :=
  ps.foldl (fun t p => if padOf o p s then t else conflict (some p) t) s

/-- A claimed resource of another class is missing: a conflict that records no index (R29, R99). -/
def needOwner (cls i : Nat) (s : State) : State := if s.owner cls i = 0 then conflict none s else s

/-- A reserved value was written to a BUS field (R28, R100). -/
def busCfgErr (s : State) : State := s.wb 0x70C10 18 true

/-- A dark (kind false) or BUSERR (kind true) access is recorded (R88). -/
def recordFault (a : Nat) (req : Nat) (kind : Bool) (s : State) : State :=
  let s := s.wr 0x70C12 (BitVec.ofNat 20 a)
  let s := (s.wr 0x70C13 (putBit (putFld 0 0 6 req) 18 kind)).wb 0x70C13 19 true
  s.bump 0x70C14

/-- An NMI is raised at a Helm core (R91, R124). A core that is stopped or in lockup takes none. The answer's second part
says that the core enters lockup, because it has not yet executed the first instruction of its NMI handler. -/
def nmiAt (h : Nat) (s : State) : State × Bool :=
  let p := s.proc h
  match p.run with
  | .stopped => (s, false)
  | .lockup => (s, false)
  | _ =>
    if tst p.status 12 && p.nmiFirst.isSome then (s.modProc h fun p => { p with run := .lockup }, true)
    else (s.modProc h fun p => { p with nmiPend := true }, false)

/-- An NMI at a Helm core; a core that enters lockup gives the other core an NMI (R124). -/
def raiseNmi (h : Nat) (s : State) : State :=
  let r := nmiAt h s
  if r.2 then (nmiAt (1 - h) r.1).1 else r.1

/-- An NMI at each Helm core, taken at its next instruction. -/
def pendNmiAll (s : State) : State := raiseNmi 1 (raiseNmi 0 s)

/-- An NMI at every running Helm core (R48, R91): none runs while the cores stand still. -/
def raiseNmiAll (s : State) : State := if helmStopped s then s else pendNmiAll s

/-- Processors 2 to 33 are the sequencers, of the cell dialect. -/
def isCell (p : Nat) : Bool := decide (2 ≤ p)

/-- The processor's event bit: the Helm latch, or EV of a cell (R140). -/
def eventBit (p : Nat) (s : State) : Bool := if isCell p then tst (s.proc p).status 4 else (s.proc p).event

/-- Hardware sets bits of STATUS (R110). -/
def statusSet (p : Nat) (m : Word) (s : State) : State :=
  (s.modProc p fun k => { k with status := k.status ||| m }).mapCyc fun c => { c with status := (p, m) :: c.status }

/-- The bits of STATUS that hardware has set in this cycle. -/
def statusNow (p : Nat) (s : State) : Word :=
  s.cyc.status.foldl (fun m x => if x.1 = p then m ||| x.2 else m) 0

/-- An event arrives at a processor (R140). -/
def eventArrives (p : Nat) (s : State) : State :=
  let was := eventBit p s
  let s := s.mapCyc fun c =>
    { c with events := if c.events.any (fun x => decide (x.1 = p)) then c.events else (p, was) :: c.events }
  if isCell p then statusSet p 0x00010#20 s else s.modProc p fun k => { k with event := true }

/-- WFE clears the event bit. One that was 1 before this cycle stays 1 where an event has arrived in this cycle: the set wins
(R140). -/
def clearEvent (p : Nat) (s : State) : State :=
  if s.cyc.events.contains (p, true) then s
  else s.modProc p fun k => if isCell p then { k with status := putBit k.status 4 false } else { k with event := false }

/-- A parity error found by a read is recorded (R91). -/
def recordParity (a : Nat) (req : Nat) (s : State) : State :=
  let s := s.wr 0x70C15 (BitVec.ofNat 20 a)
  let s := (s.wr 0x70C16 (putFld 0 0 6 req)).wb 0x70C16 19 true
  raiseNmiAll (s.bump 0x70C17)

/-- s with a stored counter set. -/
def State.setCtr (s : State) (i n : Nat) : State := { s with ctr := update zeroAt s.ctr i n }

/-- A counter of R289 advances; it wraps modulo 2^40. -/
def ctrAdd (i n : Nat) (s : State) : State := s.setCtr i ((lookup zeroAt s.ctr i + n) % 2 ^ 40)

/-- The power domain of an address (R85, R86): 0 CORE, 1 to 5 as in State.dom, 6 KEEP, which serves SYS_MT, 7 none. -/
def domainOf (a : Nat) : Nat :=
  if a < 0x38000 then 4
  else if a < 0x3A000 then 6
  else if a < 0x3E000 then 4
  else if a < 0x40000 then 7
  else if a < 0x70000 then 2
  else if 0x70010 ≤ a ∧ a < 0x70013 then 6
  else if a < 0x70400 then 0
  else if a < 0x70C00 then 6
  else if a < 0x71000 then 0
  else if a < 0x72000 then 5
  else if a < 0x72800 then 1
  else if a < 0x76000 then 2
  else if a < 0x77000 then 3
  else if a < 0x7C000 then 2
  else if a < 0x7E000 then 5
  else if a < 0x7F000 then 2
  else if a < 0x80000 then 0
  else 4

/-- The domain of an address answers accesses (R62, R64, R73): CORE in RUN and DOZE; in SLATE the Sextant memory of MEM
is on; a votable domain while it is ready. -/
def State.answers (s : State) (a : Nat) : Bool :=
  match domainOf a with
  | 0 => decide (s.pstate ≤ 1)
  | 6 => true
  | 7 => false
  | d => s.dom d || (decide (d = 4) && decide (s.pstate = 2) && decide (0x3A000 ≤ a) && decide (a < 0x3E000))

/-- How an access fails (R87): true BUSERR, false dark; none where it is carried out. -/
def State.accessFault (s : State) (a : Nat) (write : Bool) : Option Bool :=
  if 0x3E000 ≤ a ∧ a < 0x40000 then some true
  else if write = true ∧ 0x30000 ≤ a ∧ a < 0x38000 then some true
  else if s.answers a then none
  else some false

/-- W1C bits of a register clear where a write holds 1 (R6), unless hardware has set them in the same cycle (R7). -/
def clearBits (a : Nat) (m : Word) (s : State) : State := s.wr a (s.rd a &&& ~~~ (m &&& ~~~ s.setNow a))

/-- A plain write of a register by the types of R6: RW bits take the value, W1C bits clear where it holds 1. -/
def plainWrite (a : Nat) (v : Word) (s : State) : State :=
  match regRow a with
  | some r =>
    clearBits a (v &&& r.w1c)
      ((s.wr a ((s.rd a &&& ~~~ r.rw) ||| (v &&& r.rw))).mapCyc fun c => { c with wrote := a :: c.wrote })
  | none => s

/-- Requester codes of R100: the two Helm cores, and the host through Helm1's proxy. -/
def isHelm0 (q : Nat) : Bool := decide (q = 0x20)
/-- See isHelm0. -/
def isHelm1 (q : Nat) : Bool := decide (q = 0x21)
/-- A requester that is no cell sequencer, Sextant or fast path: Helm0, Helm1, or the host through Helm1. -/
def isSystem (q : Nat) : Bool := decide (q = 0x20) || decide (q = 0x21) || decide (q = 0x23)

/-- HW_IRQ bit k is set, and its counter advances (R368, R385). -/
def hwIrq (k : Nat) (s : State) : State := (s.wb 0x100003 k true).bump (0x71010 + k)

/-- The result of a command: its next state. -/
abbrev Result := Host.Outcome State Fault Refusal

/-- A command that has an effect only under a condition; otherwise the event has not come about and nothing changes. -/
def happens (g : Bool) (eff : State → State) (s : State) : Result := .next (if g then eff s else s)

end Sys2Proof.Machine
end

