-- ==== Sys2Proof/Machine/Store.lean ====
section
/-! DEFINITION. Memory words (R85, R90, R446), parameter-bank words (R168, R169), and the two CRCs of the manual (R205,
R374). -/
namespace Sys2Proof.Machine

/-- One bit step of a reflected CRC. -/
def crcBit (poly : Nat) (c : Nat) : Nat := if c % 2 = 1 then Nat.xor (c / 2) poly else c / 2

/-- One byte into CRC-32, least significant bit first. -/
def crc32Byte (c b : Nat) : Nat :=
  let x := Nat.xor c b
  let p := 0xEDB88320
  crcBit p (crcBit p (crcBit p (crcBit p (crcBit p (crcBit p (crcBit p (crcBit p x)))))))

/-- One word into CRC-32: three bytes of its 24-bit value, most significant first (R205). -/
def crc32Word (c : Nat) (w : Word) : Nat :=
  let n := w.toNat
  crc32Byte (crc32Byte (crc32Byte c (n / 65536 % 256)) (n / 256 % 256)) (n % 256)

/-- CRC-32 of a list of words (R205). -/
def crc32 (ws : List Word) : Nat := Nat.xor (ws.foldl crc32Word 0xFFFFFFFF) 0xFFFFFFFF

/-- The CRC-32 of boot ROM words 0x30000 to 0x37FFD. -/
def romCrc : Nat :=
  crc32 ((List.range 0x7FFE).map fun i => if i = 0 then Config.resetEntry else Config.romWord (0x30000 + i))

/-- What a memory word that nothing has written reads as: a boot ROM word (R446), or 0 (R90). -/
def memDefault (a : Nat) : Word :=
  if 0x30000 ≤ a ∧ a < 0x38000 then
    if a = 0x30000 then Config.resetEntry
    else if a = 0x37FFE then BitVec.ofNat 20 (romCrc % 65536)
    else if a = 0x37FFF then BitVec.ofNat 20 (romCrc / 65536)
    else Config.romWord a
  else 0

/-- A memory word. -/
def State.rdMem (s : State) (a : Nat) : Word := lookup memDefault s.mem a

/-- s with a memory word written; the write stores correct parity (R90). -/
def State.wrMem (s : State) (a : Nat) (v : Word) : State :=
  { s with mem := update memDefault s.mem a v, badParity := s.badParity.filter (· ≠ a) }

/-- Words of memory from a on. -/
def State.rdMemN (s : State) (a n : Nat) : List Word := (List.range n).map fun k => s.rdMem ((a + k) % 2 ^ 20)

/-- s with words of memory written from a on. -/
def State.wrMemN (s : State) (a : Nat) (ws : List Word) : State :=
  (ws.zipIdx).foldl (fun t x => t.wrMem ((a + x.2) % 2 ^ 20) x.1) s

/-- Key of word w of bank b (0 A, 1 B) of cell c. -/
def bankKey (c b w : Nat) : Nat := c * 256 + b * 128 + w

/-- A word of a parameter bank. -/
def State.bankWord (s : State) (c b w : Nat) : Word := lookup zeroWord s.bank (bankKey c b w)

/-- s with a word of a parameter bank written, with correct parity. -/
def State.setBankWord (s : State) (c b w : Nat) (v : Word) : State :=
  { s with bank := update zeroWord s.bank (bankKey c b w) v,
           badParity := s.badParity.filter (· ≠ 0x200000 + bankKey c b w) }

/-- The active bank of a cell: 0 A, 1 B (R168). -/
def State.activeBank (s : State) (c : Nat) : Nat := s.rf (cellBase c + 1) 10 1

/-- A parameter of a cell as its fast path last loaded it from bank b (R183). -/
def State.param (s : State) (c b w : Nat) : Word := lookup zeroWord s.loaded (bankKey c b w)

/-- A parameter of a cell as it was loaded from the active bank. -/
def State.live (s : State) (c w : Nat) : Word := s.param c (s.activeBank c) w

/-- The fast path of a cell loads its parameters from bank b (R182 step 4). -/
def State.load (s : State) (c b : Nat) : State :=
  { s with loaded := (List.range 128).foldl (fun m w => update zeroWord m (bankKey c b w) (s.bankWord c b w)) s.loaded }

/-- What the sequencer of cell c reaches (R165). -/
def seqReaches (c a : Nat) (write : Bool) (s : State) : Bool :=
  if 0x40000 ≤ a ∧ a < 0x50000 then decide ((a - 0x40000) / 0x800 = c)
  else if 0x50000 ≤ a ∧ a < 0x70000 then decide (s.owner 4 ((a - 0x50000) / 0x1000) = c + 1)
  else if 0x78000 ≤ a ∧ a < 0x7C000 then
    let n := (a - 0x78000) / 0x200
    let o := (a - 0x78000) % 0x200
    if !write then true
    else if n = c then [2, 3, 4, 5, 6, 0xB, 0xC].contains o || (decide (0x100 ≤ o) && decide (o < 0x180))
    else decide (o = 0xC) && decide (fld (s.live n 1) 5 3 = 1) && decide (fld (s.live n 1) 0 5 = c)
  else if 0x73000 ≤ a ∧ a < 0x73800 then !write || decide (s.owner 1 ((a - 0x73000) / 0x40) = c + 1)
  else !write && ((decide (0x72800 ≤ a) && decide (a < 0x78000)))

/-- How an access of a requester fails (R87, R166): true BUSERR, false dark; none where it is carried out. In SLATE Sextant reaches
its own memory alone (R321). -/
def reqFault (q a : Nat) (write : Bool) (s : State) : Option Bool :=
  if q < 0x20 ∧ seqReaches q a write s = false then some true
  else if q = 0x22 ∧ s.pstate = 2 ∧ ¬ (0x3A000 ≤ a ∧ a < 0x3E000) then some false
  else s.accessFault a write

/-- Nothing runs: OFF, or a reset is held (R57, R62). -/
def State.dead (s : State) : Bool := s.pwr.off || s.pwr.inReset

/-- An access to a register: its effect where the access is carried out, the record of R88 where it is not. In OFF and in
reset no requester runs (R62). -/
def withAccess (q : Nat) (a : Nat) (write : Bool) (eff : State → State) (s : State) : State :=
  if s.dead then s
  else
    match reqFault q a write s with
    | some k => recordFault a q k s
    | none => eff s

/-- One bit into CRC-16, polynomial 0x1021, most significant bit first (R374). -/
def crc16Bit (c : Nat) (b : Nat) : Nat :=
  let top := c / 32768 % 2
  let sh := c * 2 % 65536
  if (top + b) % 2 = 1 then Nat.xor sh 0x1021 else sh

/-- One word into CRC-16: its 24-bit value, most significant bit first (R374). -/
def crc16Word (c : Nat) (w : Word) : Nat :=
  (List.range 24).foldl (fun c i => crc16Bit c (w.toNat / 2 ^ (23 - i) % 2)) c

/-- CRC-16 of a list of words (R374). -/
def crc16 (ws : List Word) : Nat := ws.foldl crc16Word 0xFFFF

end Sys2Proof.Machine
end

