-- ==== Sys2Proof/Machine/Crypto.lean ====
section
/-! DEFINITION. The signature check of a container (R426): SHA-256 and ECDSA over P-256. The manual names both and states
neither, so their constants and steps are the published standards'. PRESUMED, log 82. -/
namespace Sys2Proof.Machine

/-- The largest number below 2^n whose k-th power is at most x. -/
def rootBelow (k x : Nat) : Nat → Nat
  | 0 => 0
  | n + 1 =>
    let hi := rootBelow k (x / 2 ^ k) n * 2
    if (hi + 1) ^ k ≤ x then hi + 1 else hi

/-- The first 32 bits after the point of the k-th root of p. -/
def rootBits (k p : Nat) : BitVec 32 := BitVec.ofNat 32 (rootBelow k (p * 2 ^ (32 * k)) 40)

/-- The first 64 primes, from which SHA-256 takes its constants. -/
def primes64 : List Nat := (List.range 312).filter fun n => 2 ≤ n && (List.range n).all fun d => d < 2 || n % d != 0

/-- What SHA-256 keeps between rounds: the latest four values of each of its two sequences, the newest first. -/
abbrev ShaState := List (BitVec 32) × List (BitVec 32)

/-- The starting values, from the square roots of the first eight primes. -/
def shaStart : ShaState := ((primes64.take 4).map (rootBits 2), ((primes64.drop 4).take 4).map (rootBits 2))

/-- Two rotations of a word and a third word, added without carries. -/
def turns (i j : Nat) (x third : BitVec 32) : BitVec 32 := third ^^^ x.rotateRight i ^^^ x.rotateRight j

/-- A round: the next value of each sequence; kw is the round's schedule word plus its constant. -/
def shaRound (kw : BitVec 32) : ShaState → ShaState
  | (a :: b :: c :: d :: _, e :: f :: g :: h :: _) =>
    let chosen := g ^^^ (e &&& (f ^^^ g))
    let most := (a &&& b) ||| (c &&& (a ||| b))
    let t := kw + h + chosen + turns 6 11 e (e.rotateRight 25)
    ([t + most + turns 2 13 a (a.rotateRight 22), a, b, c], [d + t, e, f, g])
  | x => x

/-- The schedule word that follows sixteen others, the oldest first. -/
def shaNext (w : List (BitVec 32)) : BitVec 32 :=
  let at_ := fun i => w.getD i 0
  at_ 0 + at_ 9 + turns 7 18 (at_ 1) (at_ 1 >>> 3) + turns 17 19 (at_ 14) (at_ 14 >>> 10)

/-- The rounds of a block, one for each prime; w holds the next sixteen schedule words. -/
def shaRounds : List Nat → List (BitVec 32) → ShaState → ShaState
  | [], _, x => x
  | p :: ps, w, x => shaRounds ps (w.drop 1 ++ [shaNext w]) (shaRound (w.getD 0 0 + rootBits 3 p) x)

/-- A number from bytes, most significant first. -/
def beNat (bs : List Nat) : Nat := bs.foldl (fun n b => n * 256 + b) 0

/-- Words of k bytes each, from a list of bytes. -/
def beWords (k : Nat) : Nat → List Nat → List Nat
  | 0, _ => []
  | n + 1, bs => beNat (bs.take k) :: beWords k n (bs.drop k)

/-- Blocks of 64 bytes are taken in, in order. -/
def shaBlocks : Nat → List Nat → ShaState → ShaState
  | 0, _, x => x
  | n + 1, bs, x =>
    let w := (beWords 4 16 bs).map (BitVec.ofNat 32)
    let y := shaRounds primes64 w x
    shaBlocks n (bs.drop 64) (List.zipWith (· + ·) x.1 y.1, List.zipWith (· + ·) x.2 y.2)

/-- The bytes of a number, most significant first. -/
def beBytes : Nat → Nat → List Nat
  | 0, _ => []
  | k + 1, n => n / 256 ^ k % 256 :: beBytes k n

/-- SHA-256 of a list of bytes, as a number. -/
def sha256 (bs : List Nat) : Nat :=
  let n := bs.length
  let pad := (119 - n % 64) % 64
  let m := bs ++ 0x80 :: List.replicate pad 0 ++ beBytes 8 (8 * n)
  let x := shaBlocks ((n + 9 + pad) / 64) m shaStart
  (x.1 ++ x.2).foldl (fun t w => t * 2 ^ 32 + w.toNat) 0

/-- The field of P-256. -/
def p256 : Nat := 0xffffffff00000001000000000000000000000000ffffffffffffffffffffffff

/-- The order of P-256. -/
def p256Order : Nat := 0xffffffff00000000ffffffffffffffffbce6faada7179e84f3b9cac2fc632551

/-- The constant term of P-256. -/
def p256B : Nat := 0x5ac635d8aa3a93e7b3ebbd55769886bc651d06b0cc53b0f63bce3c3e27d2604b

/-- The base point of P-256. -/
def p256G : Nat × Nat :=
  (0x6b17d1f2e12c4247f8bce6e563a440f277037d812deb33a0f4a13945d898c296,
   0x4fe342e2fe1a7f9b8ee7eb4a7c0f9e162bce33576b315ececbb6406837bf51f5)

/-- x to the power e, modulo m, over the low k bits of e. -/
def powMod (m : Nat) : Nat → Nat → Nat → Nat
  | 0, _, _ => 1
  | k + 1, x, e =>
    let r := powMod m k (x * x % m) (e / 2)
    if e % 2 = 1 then r * x % m else r

/-- The inverse modulo a prime. -/
def invMod (m x : Nat) : Nat := powMod m 256 (x % m) (m - 2)

/-- A point of the curve; none is the point at infinity. -/
abbrev Point := Option (Nat × Nat)

/-- The point with slope l through two points of the curve. -/
def pointAt (l x1 y1 x2 : Nat) : Point :=
  let x := (l * l + 2 * p256 - x1 - x2) % p256
  some (x, (l * (x1 + p256 - x) + p256 - y1) % p256)

/-- The sum of two points. -/
def pointAdd : Point → Point → Point
  | none, q => q
  | p, none => p
  | some (x1, y1), some (x2, y2) =>
    if x1 ≠ x2 then pointAt ((y2 + p256 - y1) * invMod p256 (x2 + p256 - x1) % p256) x1 y1 x2
    else if y1 = y2 ∧ y1 ≠ 0 then pointAt ((3 * x1 * x1 + p256 - 3) * invMod p256 (2 * y1) % p256) x1 y1 x1
    else none

/-- A multiple of a point, over the low k bits of the factor. -/
def pointMul : Nat → Nat → Point → Point
  | 0, _, _ => none
  | k + 1, n, p =>
    let r := pointMul k (n / 2) (pointAdd p p)
    if n % 2 = 1 then pointAdd r p else r

/-- The point lies on the curve. -/
def onCurve (q : Nat × Nat) : Bool :=
  decide (q.1 < p256) && decide (q.2 < p256) &&
    decide (q.2 * q.2 % p256 = (q.1 * q.1 * q.1 + (p256 - 3) * q.1 + p256B) % p256)

/-- ECDSA over P-256: the signature (r, s) of the hash h verifies under the key q. -/
def ecdsaVerify (h r s : Nat) (q : Nat × Nat) : Bool :=
  let n := p256Order
  let w := invMod n s
  decide (0 < r) && decide (r < n) && decide (0 < s) && decide (s < n) && onCurve q &&
    (match pointAdd (pointMul 256 (h * w % n) (some p256G)) (pointMul 256 (r * w % n) (some q)) with
     | some x => decide (x.1 % n = r)
     | none => false)

/-- The bytes that CRC-32 takes from words (R205): three bytes a word, most significant first. -/
def wordBytes (ws : List Word) : List Nat := ws.flatMap fun w => beBytes 3 w.toNat

/-- The bytes of words that carry 16 bits in [15:0], most significant first (R425). -/
def halfBytes (ws : List Word) : List Nat := ws.flatMap fun w => beBytes 2 (w.toNat % 65536)

/-- The key and signature of a signed container verify (R425, R426): n words under the CRC, then the key's 32 words and the
signature's; hash is OTP words 132 to 147. -/
def signatureGood (hash n : Nat) (ws : List Word) : Bool :=
  let sig := (ws.drop (n + 2)).take 64
  let part := fun i => beNat (halfBytes ((sig.drop (16 * i)).take 16))
  decide (sha256 (halfBytes (sig.take 32)) = hash) &&
    ecdsaVerify (sha256 (wordBytes (ws.take n))) (part 2) (part 3) (part 0, part 1)

end Sys2Proof.Machine
end

