-- ==== Sys2Proof/Machine/Angle.lean ====
section
/-! DEFINITION. The angle and the speed that a position interface holds at a fabric cycle (R256 to R259). -/
namespace Sys2Proof.Machine

/-- POS_n_CTRL.mode: 0 incremental, 1 Hall, 2 SSI; the reserved 3 acts as 0 (R261). -/
def posMode (n : Nat) (s : State) : Nat := let v := s.rf (posBase n) 17 2; if v = 3 then 0 else v

/-- The first pad of interface n; its six pads are QnA, QnB, QnZ, QnU, QnV, QnW (R27). -/
def posPad (n : Nat) : Nat := 64 + 6 * n

/-- The pads that an interface's mode uses (R251). -/
def posPads (n : Nat) (s : State) : List Nat :=
  match posMode n s with
  | 0 => [posPad n, posPad n + 1, posPad n + 2]
  | 1 => [posPad n + 3, posPad n + 4, posPad n + 5]
  | _ => [posPad n, posPad n + 1]

/-- The POS block owns the pads that the mode uses, and they carry its function (R29, R251). -/
def posOwned (n : Nat) (s : State) : Bool := (posPads n s).all fun p => padOf 0x31 p s

/-- The interface works: enabled, with its pads. -/
def posWorks (n : Nat) (s : State) : Bool := s.rb (posBase n) 19 && posOwned n s

/-- The steps of a turn: 4L of an incremental interface, 6 of a Hall interface (R256); a write of L acts one cycle later
(R260). -/
def posSteps (n : Nat) (s : State) : Nat :=
  if posMode n s = 1 then 6 else 4 * max 1 (fld (s.before (posBase n + 1)) 0 16)

/-- POS_n_STATUS.valid, held and dir. -/
def posValid (n : Nat) (s : State) : Bool := s.rb (posBase n + 0xC) 19
/-- See posValid. -/
def posHeld (n : Nat) (s : State) : Bool := s.rb (posBase n + 0xC) 18
/-- See posValid. -/
def posDir (n : Nat) (s : State) : Bool := s.rb (posBase n + 0xC) 17

/-- Cycles since the latest edge or frame at cycle t, as far as the interface worked (R251): one that does not work keeps the
value of the cycle in which it last worked. -/
def sinceEdge (n t : Nat) (s : State) : Nat :=
  match (s.posn n).lastEdge with
  | some e => (if posWorks n s then t else min t (s.posn n).worked) - e
  | none => 0

/-- How far interpolation has advanced the raw angle at cycle t (R256): never as far as the next edge's angle. -/
def interpolated (n t : Nat) (s : State) : Int :=
  if s.rb (posBase n) 16 && decide (posMode n s ≠ 2) && posValid n s && !posHeld n s then
    let st := posSteps n s
    let adv : Nat := min (2 ^ 20 * sinceEdge n t s / (st * (s.posn n).period)) ((2 ^ 20 + st - 1) / st - 1)
    if posDir n s then (adv : Int) else -(adv : Int)
  else 0

/-- The reported angle at cycle t (R256). -/
def posAngle (n t : Nat) (s : State) : Nat :=
  ((((s.posn n).raw : Int) + interpolated n t s + (s.before (posBase n + 2)).toNat) % 2 ^ 20).toNat

/-- The speed of one step in k cycles in a direction (R258): the signed quotient is rounded. -/
def stepSpeed (n k : Nat) (up : Bool) (s : State) : Int :=
  roundDiv ((if up then 1 else -1) * (2 ^ 20 * 2 ^ s.rf (posBase n) 8 5)) (posSteps n s * k)

/-- The reported speed at cycle t (R258, R259): it decays once more than the last interval has passed without an edge, its
magnitude as R258 rounds it. That an SSI speed stands between frames is the model's reading of R258 (log 46). -/
def posSpeed (n t : Nat) (s : State) : Int :=
  let v := (s.rd (posBase n + 9)).toInt
  let k := sinceEdge n t s
  if posValid n s && !posHeld n s && decide (posMode n s ≠ 2) && decide ((s.posn n).period < k) then
    if v < 0 then max v (sat19 (-(stepSpeed n k true s))) else min v (sat19 (stepSpeed n k true s))
  else v

end Sys2Proof.Machine
end

