-- ==== Sys2Proof/Machine/Log.lean ====
section
/-! DEFINITION. The Logbook: the record queue, the writer, firmware records and the trace (R298 to R305). -/
namespace Sys2Proof.Machine

/-- LOG_CTRL.split, the reserved 0 acting as its reset value (R305). -/
def logSplit (s : State) : Nat := let v := s.rf 0x7E000 12 6; if v = 0 then 16 else v

/-- The end of the event region and start of the trace region (R298). -/
def logEnd (s : State) : Nat := 0x80000 + logSplit s * 0x2000

/-- Word 0 of a record (R299). -/
def recHeader (r : LogRec) : Word := BitVec.ofNat 20 (r.kind * 16384 + r.src * 512 + r.det)

/-- The eight words of a record (R299). -/
def recWords (r : LogRec) : List Word :=
  [recHeader r, wordOf r.mt 0, wordOf r.mt 1, wordOf r.mt 2] ++ (r.data ++ List.replicate 4 0).take 4

/-- Place a record behind those of an earlier or the same stamp that precede it by type and source (R300). -/
def placeRec (r : LogRec) : List LogRec → List LogRec
  | [] => [r]
  | x :: q =>
    if x.mt = r.mt && (decide (r.kind < x.kind) || (decide (r.kind = x.kind) && decide (r.src < x.src))) then r :: x :: q
    else x :: placeRec r q

/-- The armed trace is in its pre-trigger state and the record is its trigger (R304). -/
def traceMatches (s : State) (r : LogRec) : Bool :=
  decide (s.rf 0x7E001 14 2 = 1) && decide (s.rf 0x7E01A 12 6 = r.kind) && decide (r.kind ≠ 0) &&
    (s.rb 0x7E01A 11 || decide (s.rf 0x7E01A 6 5 = r.src))

/-- Queue a record, or drop it where the queue is full (R300). -/
def queueRec (r : LogRec) (s : State) : State :=
  if s.log.queue.length < 64 then
    s.mapLog fun l => { l with queue := placeRec r l.queue, trPend := l.trPend || traceMatches s r }
  else
    (s.bump 0x7E004).mapLog fun l =>
      { l with dropped := some (match l.dropped with | none => (r.mt, 1) | some (m, n) => (m, n + 1)) }

/-- An event record stamped with master time (R299, R300), while the fabric is powered. -/
def logEvent (kind src det : Nat) (data : List Word) (s : State) : State :=
  if s.dom 2 then queueRec { kind := kind, src := src, det := det, mt := s.mt, data := data } s else s

/-- The gap record of the dropped records, once the queue has room (R300). -/
def queueGap (s : State) : State :=
  match s.log.dropped with
  | none => s
  | some (m, n) =>
    let s := (s.mapLog fun l => { l with dropped := none })
    queueRec { kind := 0x3F, src := 0, det := 0, mt := m, data := [BitVec.ofNat 20 (min n 0xFFFFF)] } s

/-- Write a record at LOG_WPTR and move on (R302). -/
def writeSlot (r : LogRec) (s : State) : State :=
  let a := (s.rd 0x7E002).toNat
  let s := s.wrMemN a (recWords r)
  let s := if r.kind = 0x3F then s.wb 0x7E001 18 true else s
  if a + 16 ≤ logEnd s then s.wr 0x7E002 (BitVec.ofNat 20 (a + 8))
  else (s.wr 0x7E002 0x80000).bump 0x7E003

/-- Stop mode at the last slot: the first record there becomes a gap record, later ones only count (R302). The writer keeps the
count itself and reads no memory (log 59). -/
def writeLast (r : LogRec) (s : State) : State :=
  let a := logEnd s - 8
  if s.rb 0x7E001 19 then
    let n := min (s.log.gaps + 1) 0xFFFFF
    ((s.wrMem (a + 4) (BitVec.ofNat 20 n)).mapLog fun l => { l with gaps := n }).bump 0x7E004
  else
    let s := s.wrMemN a (recWords { kind := 0x3F, src := 0, det := 0, mt := r.mt, data := [1] })
    ((s.wb 0x7E001 19 true).wb 0x7E001 18 true).mapLog fun l => { l with gaps := 1 }

/-- The writer takes one record from the queue (R300, R302). -/
def writeRecord (s : State) : State :=
  match s.log.queue with
  | [] => s
  | r :: q =>
    let s := (s.mapLog fun l => { l with queue := q })
    let s := queueGap s
    if !s.rb 0x7E000 19 then s
    else if s.rb 0x7E000 18 && decide (logEnd s ≤ (s.rd 0x7E002).toNat + 8) then writeLast r s
    else writeSlot r s

/-- A write to LOG_SWREC (R301). -/
def logSwrec (v : Word) (s : State) : State :=
  let k := fld v 14 6
  if 0x20 ≤ k ∧ k ≤ 0x3B then
    logEvent k (fld v 9 5) (fld v 0 9) [s.rd 0x7E008, s.rd 0x7E009, s.rd 0x7E00A, s.rd 0x7E00B] s
  else s.wb 0x7E001 17 true

/-- A write to LOG_CTRL: split and mode only while ev_en and arm are 0 (R298, R305); split 0 is reserved (R305). A next slot that a
smaller split puts outside the event region moves to its first one (log 59). -/
def logCtrlWrite (v : Word) (s : State) : State :=
  let old := s.rd 0x7E000
  let busy := tst old 19 || s.rb 0x7E01A 19
  let bad := decide (fld v 12 6 = 0)
  let want := putFld v 12 6 (if bad then 16 else fld v 12 6)
  let refused := busy && (decide (fld want 12 6 ≠ fld old 12 6) || decide (tst want 18 ≠ tst old 18))
  let new := if refused then putFld (putBit want 18 (tst old 18)) 12 6 (fld old 12 6) else want
  let s := s.wr 0x7E000 (putFld new 0 11 0)
  let s := if logEnd s ≤ (s.rd 0x7E002).toNat then s.wr 0x7E002 0x80000 else s
  if bad || refused then s.wb 0x7E001 17 true else s

/-- The enabled trace sources in ascending order (R303). -/
def traceSrcs (s : State) : List Word := ((List.range 8).map fun k => s.rd (0x7E010 + k)).filter (tst · 19)

/-- The depth of the trace region in sample sets (R303). -/
def traceDepth (s : State) : Nat := (0x100000 - logEnd s) / (traceSrcs s).length

/-- The value of a trace signal (R305). -/
def traceValue (s : State) (x : Word) : Word :=
  let i := fld x 0 6
  match fld x 16 3 with
  | 0 => s.rd (cellBase (i % 32) + 0xD)
  | 1 => s.rd (cellBase (i % 32) + 0xF)
  | 2 => s.rd (cellBase (i % 32) + 0x10)
  | 3 => s.rd (cellBase (i % 32) + 0xE)
  | 4 => s.rd (adcBase (i / 16) + 0xC0 + i % 16)
  | 5 => BitVec.ofNat 20 (posAngle (i % 3) s.mt s)
  | 6 => ofI (posSpeed (i % 3) s.mt s)
  | _ => s.rd (cellBase (i % 32) + 0xD)

/-- A write to LOG_TRACE_CTRL (R304): its fields, then arming or disarming, then the software trigger. -/
def traceCtrlWrite (v : Word) (s : State) : State :=
  let was := s.rb 0x7E01A 19
  let arm := tst v 19
  let n := (traceSrcs s).length
  let pre := (s.rd 0x7E019).toNat
  let refused := arm && !was && (decide (n = 0) || decide (traceDepth s ≤ pre))
  let s := s.wr 0x7E01A (putBit (putBit (putFld v 0 6 0) 18 false) 19 (arm && !refused))
  let s := if refused then s.wb 0x7E001 17 true else s
  let s :=
    if arm && !was && !refused then
      let s := (s.wr 0x7E020 0).wf 0x7E001 14 2 1
      s.mapLog fun l => { l with trAt := s.mt, trSets := 0, trPost := 0, trPend := false }
    else if !arm && (decide (s.rf 0x7E001 14 2 = 1) || decide (s.rf 0x7E001 14 2 = 2)) then s.wf 0x7E001 14 2 3
    else s
  if tst v 18 && decide (s.rf 0x7E001 14 2 = 1) then (s.mapLog fun l => { l with trPend := true }) else s

/-- The cycle of the next sample set (R303): the arming cycle plus j sets of 1536 (div + 1) / 5 cycles. -/
def traceDue (s : State) : Bool :=
  decide (s.log.trSets * 1536 * (s.rf 0x7E018 10 10 + 1) ≤ 5 * (s.mt - s.log.trAt))

/-- The trigger set is the one just taken (R304). -/
def traceTrigger (a : Nat) (s : State) : State :=
  let s := s.wr 0x7E01C (BitVec.ofNat 20 a)
  let s := s.wrWide 0x7E01D 3 s.mt
  let s := (s.wf 0x7E001 14 2 2).wb 0x7E001 16 true
  let s := (s.mapLog fun l => { l with trPend := false, trPost := traceDepth s - (s.rd 0x7E019).toNat })
  logEvent 0x3E 0 0 [BitVec.ofNat 20 a] s

/-- A set taken in the post-trigger state (R304): one set fewer to take, and done after the last. -/
def tracePost (left : Nat) (s : State) : State :=
  if left = 0 then (s.mapLog fun l => { l with trPost := 0 }).wf 0x7E001 14 2 3
  else s.mapLog fun l => { l with trPost := left }

/-- Store one sample set at an address (R303). -/
def traceStore (a d : Nat) (s : State) : State :=
  let s := s.wrMemN a ((traceSrcs s).map (traceValue s))
  (s.wr 0x7E020 (BitVec.ofNat 20 (min (s.log.trSets + 1) d))).mapLog fun l => { l with trSets := l.trSets + 1 }

/-- One sample set is taken (R303, R304). -/
def traceSample (s : State) : State :=
  let a := logEnd s + s.log.trSets % traceDepth s * (traceSrcs s).length
  if s.rf 0x7E001 14 2 = 1 then
    if s.log.trPend then traceTrigger a (traceStore a (traceDepth s) s) else traceStore a (traceDepth s) s
  else tracePost (s.log.trPost - 1) (traceStore a (traceDepth s) s)

/-- A retention of FABRIC ends a capture (R304). -/
def traceEnd (s : State) : State :=
  if s.rf 0x7E001 14 2 = 1 ∨ s.rf 0x7E001 14 2 = 2 then s.wf 0x7E001 14 2 3 else s

/-- LOG_RECORD_WRITE: the Logbook writer takes the record at the front of its queue (R302). -/
def execLogRecordWrite (s : State) : Result := happens (s.clocked 2 && !s.blockStopped 8) writeRecord s

/-- LOG_SWREC: a write of a firmware record's header (R301). -/
def execLogSwrec (q : Req) (v : Word) (s : State) : Result := .next (withAccess q.toNat 0x7E00C true (logSwrec v) s)

/-- TRACE_ARM: a write of LOG_TRACE_CTRL with arm = 1 (R304). -/
def execTraceArm (q : Req) (v : Word) (s : State) : Result :=
  .next (withAccess q.toNat 0x7E01A true (traceCtrlWrite (putBit v 19 true)) s)

/-- TRACE_DISARM: a write of LOG_TRACE_CTRL with arm = 0 (R304). -/
def execTraceDisarm (q : Req) (v : Word) (s : State) : Result :=
  .next (withAccess q.toNat 0x7E01A true (traceCtrlWrite (putBit v 19 false)) s)

/-- TRACE_SOFTWARE_TRIGGER: a write of 1 to LOG_TRACE_CTRL.swtrig that leaves the other fields as they are (R304). -/
def execTraceSoftwareTrigger (q : Req) (s : State) : Result :=
  .next (withAccess q.toNat 0x7E01A true (fun s => traceCtrlWrite (putBit (s.rd 0x7E01A) 18 true) s) s)

/-- TRACE_SAMPLE: the next sample set of an armed trace, once its cycle has come (R303). -/
def execTraceSample (s : State) : Result :=
  happens (s.fabric && (decide (s.rf 0x7E001 14 2 = 1) || decide (s.rf 0x7E001 14 2 = 2)) && traceDue s) traceSample s

end Sys2Proof.Machine
end

