-- ==== Sys2Proof/Machine/Fix.lean ====
section
/-! DEFINITION. Live counters and the Fix (R289 to R297). -/
namespace Sys2Proof.Machine

/-- A counter as it is stored. -/
def State.stored (s : State) (i : Nat) : Nat := lookup zeroAt s.ctr i

/-- The high time of s of channel w from its latest rise to instant v, with the hidden fraction, in vernier steps. -/
def highTime (w v : Nat) (s : State) : Nat := s.stored (1000 + w) + (v - (s.chan w).sUp)

/-- A live counter (R289): the on-time of a channel whose s is high runs on. -/
def State.counter (s : State) (i : Nat) : Nat :=
  if i < 96 ∧ i % 3 = 0 ∧ (s.chan (i / 3)).s = true then (s.stored i + highTime (i / 3) (32 * s.mt) s / 32) % 2 ^ 40
  else s.stored i

/-- Every live counter that is not 0, by number. -/
def liveCounters (s : State) : SMap Nat := (List.range 320).foldl (fun m i => update zeroAt m i (s.counter i)) []

/-- The captured set: every counter below 320 and the three turn counts, for a capture in the cycle after this one, the
trigger's (R292). -/
def takeSet (cause cell : Nat) (s : State) : FixBank :=
  { ctr := liveCounters s,
    turns := Vector.ofFn fun i => ofWords [s.rd (posBase i.1 + 0xA), s.rd (posBase i.1 + 0xB)],
    seq := 0, cause := cause, cell := cell, mt := (s.mt + 1) % 2 ^ 60 }

/-- A capture is set up for the next cycle, F (R292). -/
def fixCapture (cause cell : Nat) (s : State) : State :=
  (s.mapFix fun f => { f with capture := some (takeSet cause cell s) }).wb 0x74001 19 true

/-- Cycle F has come: the set holds every increment of the cycles before it (R292). -/
def fixTake (s : State) : State :=
  match s.fix.capture with
  | some b =>
    if b.mt = s.mt then s.mapFix fun f => { f with capture := some { takeSet b.cause b.cell s with mt := s.mt } } else s
  | none => s

/-- Hold a trigger until the completion (R293): triggers of one cycle count once; each beyond the first is merged. -/
def fixHold (cause cell : Nat) (s : State) : State :=
  match s.fix.held with
  | none => s.mapFix fun f => { f with held := some (cause, cell, s.mt) }
  | some (c, l, m) =>
    let s' := s.mapFix fun f => { f with held := some (c ||| cause, min l cell, s.mt) }
    if m = s.mt then s' else (s'.bump 0x74009).wb 0x74001 16 true

/-- A Fix is triggered (R292, R293): cause bit 0 trig, 1 host, 2 cell, 3 periodic; cell 32 where no cell triggers. -/
def fixTrigger (cause cell : Nat) (s : State) : State :=
  if !s.fabric then s
  else
    match s.fix.capture with
    | none => fixCapture cause cell s
    | some b =>
      if b.mt = (s.mt + 1) % 2 ^ 60 then
        s.mapFix fun f => { f with capture := some { b with cause := b.cause ||| cause, cell := min b.cell cell } }
      else fixHold cause cell s

/-- The current bank (R293). -/
def State.fixCur (s : State) : Nat := s.rf 0x74003 0 1

/-- A requester pins bank b (R296). -/
def pinned (b : Nat) (s : State) : Bool := s.fix.pins.any (·.2 = b + 1)

/-- The sequence number of the next Fix (R294). -/
def nextSeq (n : Nat) : Nat := if n = 0xFFFFF then 1 else n + 1

/-- The held trigger gives one capture in the cycle after the completion (R293). -/
def fixAfter (s : State) : State :=
  match s.fix.held with
  | none => s
  | some (c, l, _) => fixCapture c l (s.mapFix fun f => { f with held := none })

/-- The set goes to those that wait for it (R274, R394). -/
def fixDeliver (b : FixBank) (s : State) : State :=
  s.mapFix fun f =>
    { f with awaits := f.awaits.filter fun x => decide (x.2 ≠ b.seq),
             kept := (f.awaits.filter fun x => decide (x.2 = b.seq)).map (fun x => (x.1, b)) ++
               f.kept.filter fun x => !f.awaits.any fun y => decide (y.1 = x.1 ∧ y.2 = b.seq) }

/-- The Fix that a trigger of now is answered by (R293, R394). -/
def fixAwaited (s : State) : Nat :=
  let next := nextSeq (s.rd 0x74002).toNat
  match s.fix.capture with
  | some b => if b.mt = (s.mt + 1) % 2 ^ 60 then next else nextSeq next
  | none => next

/-- Waiter k, and nothing it has waited for before, waits for the Fix that a trigger of now is answered by. -/
def fixAwait (k : Nat) (s : State) : State :=
  let n := fixAwaited s
  s.mapFix fun f =>
    { f with awaits := (k, n) :: f.awaits.filter fun x => decide (x.1 ≠ k), kept := f.kept.filter fun x => decide (x.1 ≠ k) }

/-- The set that has come for waiter k. -/
def fixCame (k : Nat) (s : State) : Option FixBank := (s.fix.kept.find? fun x => decide (x.1 = k)).map (·.2)

/-- Waiter k has its set. -/
def fixTaken (k : Nat) (s : State) : State := s.mapFix fun f => { f with kept := f.kept.filter fun x => decide (x.1 ≠ k) }

/-- The transfer completes: the target bank becomes current (R293), and each Fix is recorded while fix_rec is 1 (R299). -/
def fixFinish (b : FixBank) (s : State) : State :=
  let t := 1 - s.fixCur
  let n := nextSeq (s.rd 0x74002).toNat
  let bank := { b with seq := n, cell := if b.cell < 32 then b.cell else 0 }
  let s := s.mapFix fun f =>
    if t = 0 then { f with capture := none, bank0 := bank } else { f with capture := none, bank1 := bank }
  let s := (s.wr 0x74003 (BitVec.ofNat 20 t)).wr 0x74002 (BitVec.ofNat 20 n)
  let s := ((s.wb 0x74001 19 false).wb 0x74001 18 false).wb 0x74001 17 true
  let s := hwIrq 6 s
  let s := if s.rb 0x7E000 11 then logEvent 4 bank.cell bank.cause [BitVec.ofNat 20 n] s else s
  fixAfter (fixDeliver bank s)

/-- The transfer has ended: complete, or wait on a pin of the target bank (R293). -/
def fixComplete (s : State) : State :=
  match s.fix.capture with
  | none => s
  | some b => if pinned (1 - s.fixCur) s then s.wb 0x74001 18 true else fixFinish b s

/-- A reader's pin is released; a transfer that waited on it completes (R293, R296). -/
def fixUnpin (q : Nat) (s : State) : State :=
  let s := s.mapFix fun f => { f with pins := update zeroAt f.pins q 0 }
  if s.rb 0x74001 18 then fixComplete s else s

/-- A read of FIX_OPEN pins the current bank for the reader, moving its pin (R296). -/
def fixOpen (q : Nat) (s : State) : State :=
  let cur := s.fixCur
  let s := fixUnpin q s
  s.mapFix fun f => { f with pins := update zeroAt f.pins q (cur + 1) }

/-- A write to FIX_CTRL: its RW fields, the trigger of a Helm core, and the trigger on behalf of the host (R292). -/
def fixCtrlWrite (q : Nat) (v : Word) (s : State) : State :=
  let s := plainWrite 0x74000 v (s.keepBefore 0x74000)
  let c := (if tst v 0 && (isHelm0 q || isHelm1 q) then 1 else 0) + (if tst v 1 then 2 else 0)
  if c = 0 then s else fixTrigger c 32 s

/-- A write to FIX_INT: 0 is reserved (R297). -/
def fixIntWrite (v : Word) (s : State) : State :=
  if v = 0 then (s.wr 0x74008 1).wb 0x74001 15 true else s.wr 0x74008 v

/-- The 40-bit compare value that the cycle began with (R295). -/
def fixCmp (s : State) : Nat := ofWords [s.before 0x74006, s.before 0x74007]

/-- The periodic compare has held in the cycle before (R295): per_en and the compare value are those of that cycle. -/
def fixDue (s : State) : Bool :=
  let past := (s.mt % 2 ^ 40 + 2 ^ 40 - fixCmp s) % 2 ^ 40
  tst (s.before 0x74000) 2 && decide (1 ≤ past) && decide (past < 2 ^ 39)

/-- The periodic compare triggers a Fix and moves the compare into the future by whole intervals (R295). -/
def fixPeriodic (s : State) : State :=
  let step := (s.rd 0x74008).toNat * 1024
  let behind := (s.mt % 2 ^ 40 + 2 ^ 40 - fixCmp s) % 2 ^ 40
  let next := (fixCmp s + (behind / step + 1) * step) % 2 ^ 40
  fixTrigger 8 32 (((s.keepBefore 0x74006).keepBefore 0x74007).hwWide 0x74006 2 next)

/-- The word of bank b at an offset within the bank (R297). -/
def bankRead (b : FixBank) (o : Nat) : Word :=
  if o < 0x280 then wordOf (lookup zeroAt b.ctr (o / 2)) (o % 2)
  else if o < 0x286 then wordOf (vget 0 b.turns ((o - 0x280) / 2)) (o % 2)
  else if o = 0x300 then BitVec.ofNat 20 b.seq
  else if o = 0x301 then BitVec.ofNat 20 (b.cell * 16 + b.cause)
  else if o < 0x302 then 0
  else if o < 0x305 then wordOf b.mt (o - 0x302)
  else 0

/-- A read within the counter windows of the FIX block (R291, R297): the value and the state after it. -/
def fixWindowRead (q a : Nat) (s : State) : Word × State :=
  if a < 0x74400 then (0, s)
  else if a < 0x74680 then
    let i := (a - 0x74400) / 2
    if a % 2 = 0 then
      (wordOf (s.counter i) 0, s.mapBus fun b => { b with hold := update zeroAt b.hold q (s.counter i / 2 ^ 20) })
    else (BitVec.ofNat 20 (lookup zeroAt s.bus.hold q), s)
  else if a < 0x74800 then (0, s)
  else if a < 0x74C00 then (bankRead s.fix.bank0 (a - 0x74800), s)
  else if a < 0x75000 then (bankRead s.fix.bank1 (a - 0x74C00), s)
  else (0, s)

/-- FIX_STATUS as read: its stored flags and which banks are pinned (R297). -/
def fixStatus (s : State) : Word := putFld (s.rd 0x74001) 0 2 ((pinned 0 s).toNat + 2 * (pinned 1 s).toNat)

/-- FIX_TRIG: a Helm core writes 1 to FIX_CTRL.trig, its other fields staying as they are (R292). -/
def execFixTrig (q : Req) (s : State) : Result :=
  .next (withAccess q.toNat 0x74000 true (fun s => fixCtrlWrite q.toNat (putBit (s.rd 0x74000) 0 true) s) s)

/-- FIX_HOST: Helm1 writes 1 to FIX_CTRL.host (R292). -/
def execFixHost (q : Req) (s : State) : Result :=
  .next (withAccess q.toNat 0x74000 true (fun s => fixCtrlWrite q.toNat (putBit (s.rd 0x74000) 1 true) s) s)

/-- FIX_PERIODIC: the periodic compare of R295, in a cycle after one in which it holds. -/
def execFixPeriodic (s : State) : Result := happens (s.fabric && fixDue s) fixPeriodic s

/-- A set has been captured: its cycle F has come (R292, R293). -/
def captured (s : State) : Bool := match s.fix.capture with | some b => decide (b.mt ≤ s.mt) | none => false

/-- FIX_COMPLETE: the transfer of the captured set ends (R293). -/
def execFixComplete (s : State) : Result := happens (s.fabric && captured s) fixComplete s

/-- FIX_OPEN: a read of FIX_OPEN (R296). -/
def execFixOpen (q : Req) (s : State) : Result := .next (withAccess q.toNat 0x74004 false (fixOpen q.toNat) s)

/-- FIX_CLOSE: a write to FIX_CLOSE; 1 releases the reader's pin, 0 has no effect (R296). -/
def execFixClose (q : Req) (v : Word) (s : State) : Result :=
  .next (withAccess q.toNat 0x74005 true (fun s => if tst v 0 then fixUnpin q.toNat s else s) s)

/-- COUNTER_LOW_READ: a read of the low word of a live counter copies its high word into the reader's holding
register (R291). -/
def execCounterLowRead (q : Req) (i : Fin 320) (s : State) : Result :=
  .next (withAccess q.toNat (0x74400 + 2 * i.1) false (fun s => (fixWindowRead q.toNat (0x74400 + 2 * i.1) s).2) s)

end Sys2Proof.Machine
end

