-- ==== Sys2Proof/Machine/Event.lean ====
section
/-! DEFINITION. Cell events and their masks (R161, R162), the EV flag of a sequencer, halts and faults of a sequencer
(R129, R147, R164), and conflicts of a cell's resources (R29, R169). -/
namespace Sys2Proof.Machine

/-- The processor number of the sequencer of cell c. -/
def seqProc (c : Nat) : Nat := 2 + c

/-- EV of a sequencer is set (R109). -/
def setEv (c : Nat) (s : State) : State := eventArrives (seqProc c) s

/-- The output kind, and the channel entries in use, of a bank as it was loaded (R169). -/
def outKind (c b : Nat) (s : State) : Nat := fld (s.param c b 2) 18 2
/-- See outKind: the channels in order of entry. -/
def usedChannels (c b : Nat) (s : State) : List Nat :=
  ((List.range 4).filter fun e => tst (s.param c b 2) e).map fun e => fld (s.param c b 3) (5 * e) 5

/-- CELL_STATUS as it reads (R168): safe is 1 while the cell does not run, or while every channel that it has in use and owns
is held in its safe state. -/
def cellStatus (c : Nat) (s : State) : Word :=
  let ws := (usedChannels c (s.activeBank c) s).filter fun w => decide (s.owner 1 w = c + 1)
  let held := !ws.isEmpty && decide (outKind c (s.activeBank c) s ≠ 1) && ws.all fun w => s.rb (chanBase w + 1) 18
  let v := s.rd (cellBase c + 1)
  putBit v 18 (tst v 18 || held)

/-- A setting of event k of cell c: its flag, its counter, and what its masks select (R161, R162). -/
def cellEvent (c k : Nat) (s : State) : State :=
  let b := cellBase c
  let s := (s.wb (b + 2) k true).bump (b + 0x20 + k)
  let s := if s.rb (b + 3) k then setEv c s else s
  let s := if s.rb (b + 5) k then fixTrigger 4 c s else s
  if s.rb (b + 6) k then logEvent 2 c k [s.rd (b + 0xF), s.rd (b + 0x10), cellStatus c s] s else s

/-- The sequencer of cell c halts; its Fix pin is released (R164, R296). -/
def seqHalt (c : Nat) (s : State) : State :=
  let s := s.modProc (seqProc c) fun p => { p with run := .stopped, stopReq := false }
  fixUnpin c (s.wb (cellBase c + 1) 14 false)

/-- A fault of the sequencer of cell c: seq_fault with its cause (1 UNDEF, 2 STACK, 3 cascade loop), counted, and the
sequencer halts (R129, R147, R161). -/
def seqFault (c cause : Nat) (s : State) : State :=
  let b := cellBase c
  let s := ((s.wb (b + 1) 13 true).wf (b + 1) 11 2 cause).bump (b + 0x29)
  seqHalt c s

/-- CELL_STATUS.cfg_err of a cell is set. -/
def cellCfgErr (c : Nat) (s : State) : State := s.wb (cellBase c + 1) 7 true

end Sys2Proof.Machine
end

