-- ==== Sys2Proof/Machine/Bank.lean ====
section
/-! DEFINITION. The structure words of a parameter bank (R144 to R146, R152, R169). -/
namespace Sys2Proof.Machine

/-- The partner d cell of a q cell (R169). -/
def partner (c b : Nat) (s : State) : Nat := fld (s.param c b 2) 13 5
/-- The channel whose boundaries are the cell's control-period boundaries (R169). -/
def periodCh (c : Nat) (s : State) : Nat := fld (s.live c 2) 8 5
/-- The reference source (R169): 0 register, 1 cascade, 2 angle, 3 speed; a reserved one acts as 0. -/
def refSrc (w : Word) : Nat :=
  let v := fld w 5 3
  if 4 ≤ v then 0 else v
/-- The index of the reference word; 3 to 31 are reserved for angle and speed and act as 0 (R169). -/
def refIndex (w : Word) : Nat :=
  let i := fld w 0 5
  if 2 ≤ refSrc w ∧ 3 ≤ i then 0 else i
/-- y of R144: 0 A, 1 A + B, 2 A - B; the reserved 3 acts as 0. -/
def inComb (w : Word) : Nat := let v := fld w 11 2; if v = 3 then 0 else v
/-- The trigger of R145: 0 slot A, 1 slot B, 2 the second of both; the reserved 3 acts as 0. -/
def inTrig (w : Word) : Nat := let v := fld w 9 2; if v = 3 then 0 else v
/-- The input is the vector unit's forward result (R169). -/
def inVector (w : Word) : Bool := tst w 13

/-- The drive of q cell c is valid on its active bank and that of its partner (R152). -/
def driveValid (c : Nat) (s : State) : Bool :=
  let b := s.activeBank c
  let d := partner c b s
  decide (outKind c b s = 3) && decide (outKind d (s.activeBank d) s = 2) && decide (d / 8 = c / 8) &&
    decide (fld (s.param c b 2) 0 4 = 7) && inVector (s.param c b 0) && inVector (s.live d 0)

end Sys2Proof.Machine
end

