-- ==== Sys2Proof/Machine/Pwm.lean ====
section
/-! DEFINITION. PWM channels (R207 to R228): duty map, periods, edges of s, the late-edge rule, dead time and floors,
comparator ends, skipping and burst, variable frequency, the safe state, and the register writes. Instants of edges are
vernier steps, 32 to a fabric cycle. -/
namespace Sys2Proof.Machine

/-- A register of the channel in force. -/
def Chan.reg (c : Chan) (o : Nat) : Word := vget 0 c.act o
/-- The prescaler in force: 1, 2, 4 or 8. -/
def Chan.p (c : Chan) : Nat := 2 ^ fld (c.reg 0) 10 2
/-- The mode in force (R211). -/
def Chan.mode (c : Chan) : Nat := fld (c.reg 0) 13 2
/-- P of PWM_PER in force, in ticks. -/
def Chan.per (c : Chan) : Nat := fld (c.reg 2) 0 15 + 1
/-- The channel runs, as PWM_STATUS.run shows. -/
def State.chanRuns (s : State) (w : Nat) : Bool := s.rb (chanBase w + 1) 19
/-- The current period is skipped, as PWM_STATUS.skipped shows. -/
def State.chanSkips (s : State) (w : Nat) : Bool := s.rb (chanBase w + 1) 13

/-- The duty map (R210), in units of 2^-19. -/
def dutyMap (ofs gain u : Word) : Nat :=
  (clampI 0 524288 (roundShift ((u.toInt - ofs.toInt) * gain.toInt) 12)).toNat

/-- The on-time in sub-ticks of a period of P ticks (R211). -/
def onTime (m p : Nat) : Nat := (m * 32 * p + 262144) / 524288

/-- The period-boundary equation of R207 at master time t. -/
def boundaryAt (c : Chan) (t : Nat) : Bool :=
  decide (((t : Int) - (fld (c.reg 3) 0 15 * c.p : Nat)) % ((c.per * c.p : Nat) : Int) = 0)

/-- A fabric cycle t is a period boundary of channel w (R207, R223): where a variable-frequency channel runs, the end of
its period; in every other case R207. That a stopped variable-frequency channel has the boundaries of R207, with its phase in
force, is the model's choice (log 99). -/
def isBoundary (w t : Nat) (s : State) : Bool :=
  let c := s.chan w
  if s.chanRuns w && decide (c.mode = 2) && !c.wait then decide (t = c.base + c.pv * c.p) else boundaryAt c t

/-- Position x of the period as cycle and fine delay (R212, R213). -/
def placeAt (c : Chan) (x : Nat) : Nat × Nat := (c.base + x * c.p / 32, if c.fine then x * c.p % 32 else 0)

/-- An instant in vernier steps. -/
def instant (p : Nat × Nat) : Nat := 32 * p.1 + p.2

/-- A dead time in effect (R217): at least the floor of R218; whole cycles until the channel's calibration settles
(R213). -/
def deadTime (c : Chan) (o : Nat) (s : State) : Nat :=
  let d := max (fld (c.reg o) 0 15) (s.rf 0x73800 10 10)
  if c.fine then d else (d + 31) / 32 * 32

/-- The minimum pulse in vernier steps (R218). -/
def minPulse (s : State) : Nat := 32 * s.rf 0x73800 0 10

/-- A pulse was dropped (R216, R218). -/
def dropPulse (w : Nat) (s : State) : State := (s.wb (chanBase w + 1) 15 true).bump (chanBase w + 0x10)

/-- A late edge (R215). -/
def lateEdge (w : Nat) (s : State) : State := (s.wb (chanBase w + 1) 16 true).bump (chanBase w + 0xF)

/-- PWM_STATUS.cfg_err is set. -/
def chanCfgErr (w : Nat) (s : State) : State := s.wb (chanBase w + 1) 17 true

/-- The number of a sample-sequencer entry's CFG register; TRIG, OFS and GAIN follow (R249). -/
def seqReg (i : Nat) : Nat := adcBase (i / 16) + 0x40 + 4 * (i % 16)

/-- The number of a comparator's CFG register; THR, SLOPE and STATUS follow (R249). -/
def cmpReg (n : Nat) : Nat := adcBase (n / 16) + 0x80 + 4 * (n % 16)

/-- The trigger kind of a TRIG register; the reserved 7 acts as the reset value 0 (R239). -/
def trigKind (x : Word) : Nat := let v := fld x 17 3; if v = 7 then 0 else v

/-- Fix the triggers of entries that select a kind on channel w, for cycle at_ plus the entry's delay (R234). Fixed
triggers whose cycle has passed have lapsed. -/
def fixTriggers (w kind at_ : Nat) (s : State) : State :=
  let now := s.mt
  forAll 64 (fun i s =>
    let x := s.before (seqReg i + 1)
    if trigKind x = kind ∧ fld x 12 5 = w then
      s.modEntryS i fun e =>
        { e with fixed := (e.fixed.filter fun f => decide (now ≤ f.2.2)) ++ [(kind, w, at_ + fld x 0 12)] }
    else s) s

/-- The comparators that name channel w and blank at its edges (R242). -/
def blankers (w : Nat) (s : State) : List Nat :=
  (List.range 64).filter fun n => decide (s.rf (cmpReg n) 7 5 = w) && decide (s.rf (cmpReg n + 2) 12 8 ≠ 0)

/-- Blanking starts at an edge of s of channel w, for the comparators that name it (R242). -/
def startBlanking (w : Nat) (s : State) : State :=
  (blankers w s).foldl (fun t n => t.modComp n fun c => { c with blanking := true }) s

/-- The high time of s is counted, no vernier step being lost (R289). -/
def countHigh (w v : Nat) (s : State) : State :=
  let total := highTime w v s
  ctrAdd (3 * w) (total / 32) (s.setCtr (1000 + w) (total % 32))

/-- s rises at instant v (R211, R217): WnL falls, WnH waits out its dead time. -/
def riseNow (w v : Nat) (s : State) : State :=
  let tr := deadTime (s.chan w) 4 s
  let s := s.modChan w fun c =>
    { c with s := true, sUp := v, rose := true, riseT := none, lo := false, loDue := none, loCut := none,
             loOff := if c.lo then v else c.loOff, hiDue := some (v + tr) }
  let s := ctrAdd (3 * w + 1) 1 s
  startBlanking w (fixTriggers w 3 (v / 32) s)

/-- A rise of s that comes while s is high makes no edge; of a carried fall and the period's own the later stands (R218). -/
def riseAbsorbed (c : Chan) : Chan :=
  match c.carry, c.fallT with
  | some k, some f =>
    if k < f then { c with riseT := none, rose := true, carry := none } else { c with riseT := none, rose := true, fallT := none }
  | _, _ => { c with riseT := none, rose := true, carry := none }

/-- A rise of s is due at v: no edge where s is high already, with which s falls at the later of a carried fall and the period's
own; moved where WnL has not lasted its minimum (R211, R218). The fall that a moved rise overtakes follows it by the distance by
which the rise moved, so that the pulse keeps its width: the model's choice (log 99). -/
def riseDue (w v : Nat) (s : State) : State :=
  let c := s.chan w
  let nv := c.loAt + minPulse s
  if c.s then s.modChan w riseAbsorbed
  else if c.lo && decide (v < nv) then
    let fall := c.fallT.map fun f => if f < nv then f + (nv - v) else f
    let short := match fall with
      | none => false
      | some f => decide (f < nv + deadTime c 4 s + minPulse s)
    if short && decide (0 < minPulse s) then
      dropPulse w (s.modChan w fun c => { c with riseT := none, fallT := none, rose := true, fell := true })
    else s.modChan w fun c => { c with riseT := some nv, fallT := fall }
  else riseNow w v s

/-- s falls at instant v (R211, R217): WnH falls, a WnH not yet risen is cancelled, WnL waits out its dead time unless
the skipped period keeps it low (R222). No trigger fires in the wait of R208. -/
def fallNow (w v : Nat) (s : State) : State :=
  let c := s.chan w
  let tf := deadTime c 5 s
  let loff := s.chanSkips w && tst (c.reg 0) 7
  let cancelled := c.hiDue.isSome && decide (0 < minPulse s)
  let s := countHigh w v s
  let fixes := !c.wait
  let s := s.modChan w fun c =>
    { c with s := false, carry := none, cmpT := none, fell := c.fell || c.rose, hi := false, hiDue := none, hiOff := if c.hi then v else c.hiOff,
             loDue := if loff then none else some (v + tf) }
  let s := startBlanking w (if fixes then fixTriggers w 4 (v / 32) s else s)
  if cancelled then dropPulse w s else s

/-- A fall of s is due at v: a WnH pulse that has begun lasts its minimum first (R218). A fall so moved has not fired, and a
later duty places it again (R215), while a comparator's that is still to come stays; a comparator's counts as fired at once
(R219). One that ends a pulse carried over from an earlier period leaves the edges of the present one as they are. -/
def fallDue (w v : Nat) (s : State) : State :=
  let c := s.chan w
  let short := c.s && c.hi && decide (v < c.hiAt + minPulse s)
  let cut := match c.cmpT with | some k => decide (k ≤ v) | none => false
  let earlier := c.carry.isSome && c.riseT.isSome
  let s := s.modChan w fun c =>
    if earlier then { c with cmpT := none }
    else { c with fallT := none, cmpT := if short && !cut then c.cmpT else none, fell := !short || cut || c.fell }
  if !c.s || earlier then s
  else if short then s.modChan w fun c => { c with carry := some (c.hiAt + minPulse s) }
  else fallNow w v s

/-- The WnH pulse from a rise to a fall of s would be narrower than the minimum (R218 step 1). -/
def tooShort (c : Chan) (rise fall : Nat) (s : State) : Bool :=
  decide (fall - (rise + deadTime c 4 s) < minPulse s)

/-- Position a of R211. -/
def riseAt (mode p d : Nat) : Nat := if mode = 1 then (32 * p - d) / 2 else 0

/-- Place an unfired edge again for a duty in effect from cycle t (R215); the answer's second part says it is late. A late edge
fires at its own fine delay; that the edge which it replaces no longer counts for the earliest fine position of R226 in its
cycle is the model's choice (log 99). -/
def replace (c : Chan) (x t : Nat) : Nat × Bool :=
  let pl := placeAt c x
  if pl.1 < t then (32 * t + pl.2, true) else (instant pl, false)

/-- Record the D of the period in PWM_DUTY and PWM_STATUS.full (R211, R227). -/
def showDuty (w d : Nat) (full : Bool) (s : State) : State :=
  (s.wr (chanBase w + 0xE) (BitVec.ofNat 20 (min d 0xFFFFF))).wb (chanBase w + 1) 14 full

/-- Both edges of the period are given up: the pulse counts as dropped (R216). -/
def dropBoth (w : Nat) (s : State) : State :=
  dropPulse w (s.modChan w fun c => { c with riseT := none, fallT := none, rose := true, fell := true })

/-- A channel is kept as it is before its first edge of this cycle (R226). -/
def keepEdges (w : Nat) (s : State) : State :=
  if s.cyc.edges.any fun e => decide (e.w = w) then s
  else
    let x : Edges :=
      { w := w, chan := s.chan w, on := s.stored (3 * w), frac := s.stored (1000 + w), rises := s.stored (3 * w + 1),
        dropped := s.rb (chanBase w + 1) 15, drops := s.rd (chanBase w + 0x10),
        late := s.rb (chanBase w + 1) 16, lates := s.rd (chanBase w + 0xF),
        clear := (blankers w s).filter fun n => !(s.comp n).blanking }
    s.mapCyc fun c => { c with edges := x :: c.edges }

/-- Flag the late edges of a replacement, which a safe-state request of the same cycle takes back (R215, R226). -/
def flagLate (w : Nat) (a b : Bool) (s : State) : State :=
  let s := if a || b then keepEdges w s else s
  let s := if a then lateEdge w s else s
  if b then lateEdge w s else s

/-- The unfired edges of the period placed again for D sub-ticks in effect from cycle t (R215, R216, R218). -/
def placeAgain (w d t : Nat) (s : State) : State :=
  let c := s.chan w
  let a := riseAt c.mode c.pv d
  let full := decide (d = 32 * c.pv)
  let r := replace c a t
  let f := replace c (a + d) t
  let s := showDuty w d full s
  if c.fell then s
  else if c.rose then
    if full then s.modChan w fun c => { c with fallT := none, carry := none }
    else flagLate w false f.2 (s.modChan w fun c => { c with fallT := some f.1, carry := none })
  else if d = 0 then
    if c.riseT.isSome then dropBoth w s else s
  else if full then flagLate w r.2 false (s.modChan w fun c => { c with riseT := some r.1, fallT := none })
  else if f.1 ≤ r.1 ∨ tooShort c r.1 f.1 s then dropBoth w s
  else flagLate w r.2 f.2 (s.modChan w fun c => { c with riseT := some r.1, fallT := some f.1 })

/-- A duty comes into effect in cycle t (R214, R215): in a boundary cycle it belongs to the period that begins. -/
def dutyEffect (w t : Nat) (u : Word) (s : State) : State :=
  let c := s.chan w
  let m := dutyMap (c.reg 6) (c.reg 7) u
  let inPeriod := s.chanRuns w && !c.wait && !s.chanSkips w && tst (c.reg 0) 12 && decide (c.mode ≠ 2) &&
    !isBoundary w t s
  let s := s.modChan w fun c => { c with u := u, m := m }
  if inPeriod then placeAgain w (onTime m c.pv) t s else s

/-- Every duty whose cycle has come takes effect (R17, R209). -/
def settle (w : Nat) (s : State) : State :=
  let now := s.mt
  let due := (s.chan w).loads.filter (·.1 ≤ now)
  let s := s.modChan w fun c => { c with loads := c.loads.filter (fun l => decide (now < l.1)) }
  due.foldl (fun s l => dutyEffect w l.1 l.2 s) s

/-- A duty is on its way: in effect at the comparator 2 cycles on (R17, R209). -/
def sendDuty (w : Nat) (u : Word) (s : State) : State :=
  settle w (s.modChan w fun c => { c with loads := c.loads ++ [(s.mt + 2, u)] })

/-- A channel is named in the mask of protection entry i (R250). -/
def protMask (i w : Nat) (s : State) : Bool :=
  if w < 20 then s.rb (0x72811 + 8 * i) w else s.rb (0x72812 + 8 * i) (w - 20)

/-- The protection set holds the channel in its safe state (R246, R248). -/
def protHolds (w : Nat) (s : State) : Bool :=
  (List.range 16).any fun i =>
    protMask i w s && (s.rb 0x72801 i || (s.rb (0x72810 + 8 * i) 19 && !(s.dom 3 && s.rb 0x76001 19)))

/-- The cell is running and not in standby (R209). -/
def cellRuns (c : Nat) (s : State) : Bool :=
  (s.cell c).active && !(s.cell c).standby && !(s.cell c).entryHeld

/-- A state entry that stops loops is under way (R76). -/
def entryStops (s : State) : Bool :=
  match s.pwr.entry with
  | none => false
  | some e => decide (2 ≤ e.target) && (e.native || decide (6 ≤ e.step))

/-- The channel's owner is present (R152, R209): a running cell, a q cell only with a valid drive, or software while no
state entry stops it. -/
def ownerPresent (w : Nat) (s : State) : Bool :=
  let o := s.owner 1 w
  if 1 ≤ o ∧ o ≤ 0x20 then
    cellRuns (o - 1) s && (decide (outKind (o - 1) (s.activeBank (o - 1)) s ≠ 3) || driveValid (o - 1) s)
  else decide (0x21 ≤ o) && decide (o ≤ 0x23) && !entryStops s

/-- The channel may run, its en in force standing as on (R209, R246, R248). -/
def mayRunIf (on : Bool) (w : Nat) (s : State) : Bool :=
  s.fabric && on && s.rb (chanBase w) 15 && ownerPresent w s && !protHolds w s

/-- The channel may run (R209, R246, R248). -/
def mayRun (w : Nat) (s : State) : Bool := mayRunIf (tst ((s.chan w).reg 0) 15) w s

/-- The level of WnH and WnL in the safe state (R224). -/
def safeLevels (c : Chan) : Bool × Bool :=
  (decide (fld (c.reg 0) 8 2 = 2), decide (fld (c.reg 0) 8 2 = 1))

/-- The outputs go to the safe-state levels (R224): those low there fall, one high there rises after its dead time. -/
def safeOutputs (w : Nat) (s : State) : State :=
  let c := s.chan w
  let now := 32 * s.mt
  let lv := safeLevels c
  let hiOff := if c.hi && !lv.1 then now else c.hiOff
  let loOff := if c.lo && !lv.2 then now else c.loOff
  s.modChan w fun c =>
    { c with hi := c.hi && lv.1, lo := c.lo && lv.2, hiOff := hiOff, loOff := loOff,
             hiDue := if lv.1 && !c.hi then some (max now (loOff + deadTime c 4 s)) else none,
             loDue := if lv.2 && !c.lo then some (max now (hiOff + deadTime c 5 s)) else none }

/-- The triggers of kinds 3 and 4 that edges of this cycle have fixed go (R226, R234). -/
def dropTriggers (w : Nat) (s : State) : State :=
  let now := s.mt
  forAll 64 (fun i s =>
    let d := s.rf (seqReg i + 1) 0 12
    s.modEntryS i fun e =>
      { e with fixed := e.fixed.filter fun f => !((f.1 == 3 || f.1 == 4) && f.2.1 == w && f.2.2 == now + d) }) s

/-- A safe-state request takes precedence over every edge of its cycle (R226): what edges of this cycle have done to the
channel is taken back. -/
def undoEdges (w : Nat) (s : State) : State :=
  match s.cyc.edges.find? fun e => decide (e.w = w) with
  | none => s
  | some e =>
    let o := e.chan
    let s := s.modChan w fun c =>
      { c with s := o.s, sUp := o.sUp, hi := o.hi, lo := o.lo, hiDue := o.hiDue, loDue := o.loDue, hiAt := o.hiAt,
               loAt := o.loAt, hiOff := o.hiOff, loOff := o.loOff }
    let s := ((s.setCtr (3 * w + 1) e.rises).setCtr (1000 + w) e.frac).setCtr (3 * w) e.on
    let s := (s.wf (chanBase w + 1) 15 1 e.dropped.toNat).wr (chanBase w + 0x10) e.drops
    let s := (s.wf (chanBase w + 1) 16 1 e.late.toNat).wr (chanBase w + 0xF) e.lates
    dropTriggers w (e.clear.foldl (fun t n => t.modComp n fun c => { c with blanking := false }) s)

/-- A channel that stops ends the blanking of its comparators, which fire if they are still active (R242). -/
def endBlanking (w : Nat) (s : State) : State :=
  ((blankers w s).filter fun n => (s.comp n).blanking).foldl
    (fun t n => (t.modComp n fun c => { c with blanking := false }).at_ (t.mt + 1) (.unblank n)) s

/-- A safe-state request (R224, R226): s ends without a fall, its high time counted; the outputs go to their levels. -/
def safeRequest (w : Nat) (s : State) : State :=
  if s.rb (chanBase w + 1) 18 then s
  else
    let s := endBlanking w (undoEdges w s)
    let s := if (s.chan w).s then countHigh w (32 * s.mt) s else s
    let s := s.modChan w fun c =>
      { c with s := false, riseT := none, fallT := none, rose := true, fell := true, cmpT := none, carry := none,
               loCut := none, wait := false }
    let s := safeOutputs w s
    let b := chanBase w + 1
    (((s.wb b 19 false).wb b 18 true).wb b 14 false).wb b 13 false

/-- The registers that take effect at a boundary (R214). -/
def shadowed : List Nat := [0, 2, 3, 4, 5, 6, 7, 9, 0xA, 0xB, 0xC, 0xD]

/-- The comparators of R219 and R220 belong to the turret of the owning cell and not to the protection set (R221). -/
def cmpAllowed (w k : Nat) (s : State) : Bool :=
  let o := s.owner 1 w
  decide (1 ≤ o) && decide (o ≤ 0x20) && decide (k / 16 = (o - 1) / 8) && decide (s.owner 3 k ≠ 0x24)

/-- The configuration in force is invalid (R221, R223, R227). -/
def chanInvalid (w : Nat) (s : State) : Bool :=
  let c := s.chan w
  let x := c.reg 0xD
  (tst x 19 && !cmpAllowed w (fld x 13 6) s) || (tst x 12 && !cmpAllowed w (fld x 6 6) s) ||
    (tst (c.reg 0) 6 && decide (fld (c.reg 0xA) 8 8 = 0)) ||
    (decide (c.mode = 2) && decide (c.per < fld (c.reg 0xB) 0 15))

/-- The channels whose configuration in force a change has made invalid set cfg_err (R221, R227). -/
def chansRecheck (before s : State) : State :=
  forAll 32 (fun w t => if chanInvalid w t && !chanInvalid w before then chanCfgErr w t else t) s

/-- A reserved mode or safe value waits in PWM_CTRL (R227). -/
def ctrlReserved (v : Word) : Bool := decide (fld v 13 2 = 3) || decide (fld v 8 2 = 3)

/-- PWM_CTRL with reserved values at their reset values (R227). -/
def ctrlLegal (v : Word) : Word :=
  let v := if fld v 13 2 = 3 then putFld v 13 2 0 else v
  if fld v 8 2 = 3 then putFld v 8 2 0 else v

/-- The boundary of channel w takes the register values into force (R208, R213, R214, R227): a write of the boundary cycle
itself waits for the next one. A configuration that is still invalid sets cfg_err again once any of its registers has changed:
which change ends the hold of a W1C clear is the model's choice (log 99). -/
def chanLoad (w : Nat) (s : State) : State :=
  let b := chanBase w
  let old := s.chan w
  let ctl := s.before b
  let s := if !ctrlReserved ctl then s else chanCfgErr w (if s.rd b = ctl then s.wr b (ctrlLegal ctl) else s)
  let cal := if w < 20 then s.rb 0x73801 w else s.rb 0x73802 (w - 20)
  let act := vset (shadowed.foldl (fun a o => vset a o (s.before (b + o))) old.act) 0 (ctrlLegal ctl)
  let s := s.modChan w fun c => { c with act := act, fine := cal }
  let s := if old.act ≠ act ∧ chanInvalid w s = true then chanCfgErr w s else s
  if s.rb (b + 1) 18 ∧ safeLevels old ≠ safeLevels (s.chan w) then safeOutputs w s else s

/-- The change of registers from old makes the channel wait for R207 with the new values (R208). While the mode stays 0b10 a
change of per, phase or the prescaler needs no wait, since each period begins where the one before it ended (R223): the model's
choice between the two rules (log 99). -/
def mustWait (old new : Chan) : Bool :=
  decide (new.mode ≠ 2) &&
    (decide (old.mode = 2) || decide (old.per ≠ new.per) || decide (old.p ≠ new.p) ||
      decide (fld (old.reg 3) 0 15 ≠ fld (new.reg 3) 0 15))

/-- The period that begins is skipped (R222). -/
def skipped (c : Chan) (m : Nat) : Bool :=
  let th := fld (c.reg 9) 0 19
  let on := fld (c.reg 0xA) 8 8
  (decide (th ≠ 0) && decide (m < th)) ||
    (tst (c.reg 0) 6 && decide (on ≠ 0) && decide (on ≤ c.burst % (on + fld (c.reg 0xA) 0 8)))

/-- The period in ticks and the on-time in sub-ticks (R211, R223). -/
def periodOf (c : Chan) (m : Nat) : Nat × Nat :=
  if c.mode = 2 then
    let lo := min (fld (c.reg 0xB) 0 15) c.per
    let pv := max 1 (lo + (2 * m * (c.per - lo) + 524288) / 1048576)
    (pv, if tst (c.reg 0xC) 19 then 16 * pv else min (32 * fld (c.reg 0xC) 0 15) (32 * pv))
  else (c.per, onTime m c.per)

/-- Place the edges of a period that begins now while s is low or falls first (R211, R216, R218). -/
def placeEdges (w a d : Nat) (full : Bool) (s : State) : State :=
  let c := s.chan w
  let r := instant (placeAt c a)
  let f := instant (placeAt c (a + d))
  if full then s.modChan w fun c => { c with riseT := some r, fallT := none, rose := false, fell := false }
  else if tooShort c r f s then dropBoth w s
  else s.modChan w fun c => { c with riseT := some r, fallT := some f, rose := false, fell := false }

/-- A period begins while a fall carried from an earlier pulse is still to come at tc (R218 step 2). -/
def placeCarried (w a d tc : Nat) (full : Bool) (s : State) : State :=
  let c := s.chan w
  let r := instant (placeAt c a)
  let f := instant (placeAt c (a + d))
  if tc < r then placeEdges w a d full s
  else if full then s.modChan w fun c => { c with carry := none, riseT := none, fallT := none, rose := true, fell := false }
  else if tc < f then
    s.modChan w fun c => { c with carry := none, riseT := none, fallT := some f, rose := true, fell := false }
  else s.modChan w fun c => { c with riseT := none, fallT := none, rose := true, fell := false }

/-- The edges of the period that begins now at its boundary, with D = d sub-ticks (R211, R218, R222). -/
def beginEdges (w d : Nat) (skip full : Bool) (s : State) : State :=
  let c := s.chan w
  let a := riseAt c.mode c.pv d
  let none' := fun s : State => s.modChan w fun c => { c with riseT := none, fallT := none, rose := true, fell := true }
  if skip || decide (d = 0) then
    let s := if c.s && c.carry.isNone then fallDue w (32 * c.base) s else s
    none' s
  else
    match c.carry with
    | some tc => placeCarried w a d tc full s
    | none =>
      if c.s && decide (a = 0) then
        s.modChan w fun c =>
          { c with riseT := none, rose := true, fell := false,
                   fallT := if full then none else some (instant (placeAt c (a + d))) }
      else
        let s := if c.s then fallDue w (32 * c.base) s else s.modChan w fun c => { c with cmpT := none }
        match (s.chan w).carry with
        | some tc => placeCarried w a d tc full s
        | none => placeEdges w a d full s

/-- WnL goes low, or does not rise, once its cycle has come: a pulse that has begun lasts its minimum first (R218, R220,
R222). -/
def lowOff (w : Nat) (s : State) : State :=
  let c := s.chan w
  let now := s.mt
  let least := (c.loAt + minPulse s + 31) / 32
  match c.loCut with
  | none => s
  | some t =>
    if now < t then s
    else if c.lo && decide (now < least) then (s.modChan w fun c => { c with loCut := some least }).at_ least (.lowOff w)
    else
      s.modChan w fun c => { c with lo := false, loDue := none, loCut := none, loOff := if c.lo then 32 * now else c.loOff }

/-- WnL is low in a skipped period with skip_loff (R222). -/
def loffSkipped (w : Nat) (s : State) : State :=
  let now := s.mt
  lowOff w (s.modChan w fun c => { c with loCut := some now })

/-- Fix the triggers of kinds 0 to 2 that the period fires: its boundary, the centre of the on-time and the centre of the
off-time (R234). -/
def periodTriggers (w d : Nat) (skip : Bool) (s : State) : State :=
  let c := s.chan w
  let a := riseAt c.mode c.pv d
  let cycle := fun x : Nat => c.base + x * c.p / 32
  let s := fixTriggers w 0 c.base s
  let s := if d = 0 ∨ skip = true then s else fixTriggers w 1 (cycle ((a + (a + d)) / 2)) s
  if d = 32 * c.pv then s else fixTriggers w 2 (cycle ((a + d + 32 * c.pv + a) / 2 % (32 * c.pv))) s

/-- A channel that leaves its safe state begins from its safe-state levels (R225): s stands as WnH does. A pad that does not
carry the channel's function is a conflict (R29, R99), recorded for each of its two pads at each such boundary: at which moment
is the model's choice (log 88). -/
def leaveSafe (w : Nat) (s : State) : State :=
  if s.rb (chanBase w + 1) 18 then
    let s := needPads 0x30 [2 * w, 2 * w + 1] s
    let now := 32 * s.mt
    let s := s.modChan w fun c => { c with burst := 0, s := c.hi || (c.hiDue.isSome), sUp := now }
    (s.wb (chanBase w + 1) 18 false).wb (chanBase w + 1) 19 true
  else s

/-- The period begins at the boundary now with the given period and on-time (R211, R222, R223, R234). -/
def openPeriod (w pv d : Nat) (skip : Bool) (s : State) : State :=
  let full := !skip && decide (d = 32 * pv)
  let now := s.mt
  let s := s.modChan w fun c => { c with base := now, pv := pv, wait := false, burst := c.burst + 1 }
  let s := (showDuty w d full s).wb (chanBase w + 1) 13 skip
  let s := beginEdges w d skip full s
  let s := if skip && tst ((s.chan w).reg 0) 7 then loffSkipped w s else s
  periodTriggers w d skip s

/-- A period of channel w begins (R211, R222, R223, R225). -/
def startPeriod (w : Nat) (s : State) : State :=
  let s := leaveSafe w s
  let c := s.chan w
  let m := dutyMap (c.reg 6) (c.reg 7) c.u
  openPeriod w (periodOf c m).1 (periodOf c m).2 (skipped c m) (s.modChan w fun c => { c with m := m })

/-- The wait of R208 begins: s low, no period. -/
def beginWait (w : Nat) (s : State) : State :=
  let now := s.mt
  let s := s.modChan w fun c => { c with base := now, wait := true, riseT := none, fallT := none, rose := true, fell := true }
  let s := (s.wb (chanBase w + 1) 13 false).wb (chanBase w + 1) 14 false
  if (s.chan w).s then fallDue w (32 * now) s else s

/-- What the channel does at its boundary once its registers are in force (R208, R209, R225). -/
def chanPeriod (w : Nat) (wait : Bool) (s : State) : State :=
  let now := s.mt
  let s := keepEdges w s
  if wait && !boundaryAt (s.chan w) now then beginWait w s
  else if mayRun w s then startPeriod w s
  else (safeRequest w s).modChan w fun c => { c with base := now, pv := c.per, wait := false }

/-- The earliest unfired edge of s: its instant, and whether it is the rise. -/
def nextEdge (c : Chan) : Option (Nat × Bool) :=
  let fall := match c.fallT, c.cmpT with
    | some f, some k => some (min f k)
    | some f, none => some f
    | none, k => k
  match c.riseT, fall with
  | some r, some f => if r ≤ f then some (r, true) else some (f, false)
  | some r, none => some (r, true)
  | none, some f => some (f, false)
  | none, none => none

/-- EDGE_FIRE: the earliest edge of s that is due fires (R211, R212, R215). -/
def edgeFire (w : Nat) (s : State) : State :=
  let s := keepEdges w (settle w s)
  match nextEdge (s.chan w) with
  | none => s
  | some (v, rise) => if s.mt < v / 32 then s else if rise then riseDue w v s else fallDue w v s

/-- WnH rises at the end of its dead time. A pulse that would be too short is dropped instead, and s goes low for the rest of
the period (R216 to R218). -/
def hiRise (w v : Nat) (s : State) : State :=
  let fall := (nextEdge (s.chan w)).filter (fun e => !e.2)
  let short := match fall with
    | some (f, _) => decide (f - v < minPulse s)
    | none => false
  if short then fallNow w v (s.modChan w fun c => { c with fallT := none, cmpT := none, fell := true })
  else s.modChan w fun c => { c with hiDue := none, hi := true, hiAt := v }

/-- The end of a WnL pulse, where it is known: the next rise of s, or the cycle in which a comparator or a skipped period turns
WnL off (R218 step 3, R220, R222). -/
def loEnd (c : Chan) : Option Nat :=
  match c.riseT, c.loCut with
  | some r, some k => some (min r (32 * k))
  | some r, none => some r
  | none, k => k.map (32 * ·)

/-- WnL rises at the end of its dead time, unless its end is known and too near (R217, R218 step 3). -/
def loRise (w v : Nat) (s : State) : State :=
  let short := match loEnd (s.chan w) with
    | some r => decide (r - v < minPulse s)
    | none => false
  if short then dropPulse w (s.modChan w fun c => { c with loDue := none })
  else s.modChan w fun c => { c with loDue := none, lo := true, loAt := v }

/-- An output's dead time ends (R217); in the safe state the output takes its level (R224). -/
def deadTimeEnd (w : Nat) (high : Bool) (s : State) : State :=
  let s := keepEdges w s
  let c := s.chan w
  match (if high then c.hiDue else c.loDue) with
  | none => s
  | some v =>
    if s.mt < v / 32 then s
    else if s.rb (chanBase w + 1) 18 then
      s.modChan w fun c =>
        if high then { c with hiDue := none, hi := true, hiAt := v } else { c with loDue := none, lo := true, loAt := v }
    else if high then hiRise w v s
    else loRise w v s

/-- The fall that the minimum pulse moved comes (R218 step 2). -/
def minPulseEnd (w : Nat) (s : State) : State :=
  match (s.chan w).carry with
  | none => s
  | some v => if s.mt < v / 32 then s else fallNow w v (keepEdges w s)

/-- Comparator k ends the on-time of channel w, or turns its WnL off, 3 cycles on; the first firing counts (R219 to R221). -/
def cmpOnChan (w k : Nat) (s : State) : State :=
  let c := s.chan w
  let x := c.reg 0xD
  let t := s.mt + 3
  if !s.chanRuns w || !cmpAllowed w k s then s
  else
    let s :=
      if tst x 19 && decide (fld x 13 6 = k) && c.s && c.cmpT.isNone then
        s.modChan w fun c => { c with cmpT := some (32 * t) }
      else s
    if tst x 12 && decide (fld x 6 6 = k) && (c.lo || c.loDue.isSome) && c.loCut.isNone then
      (s.modChan w fun c => { c with loCut := some t }).at_ t (.lowOff w)
    else s

/-- Requester code of a software owner (R100, R384): 0x20, 0x21 and 0x23 own as 0x21, 0x22 and 0x23. -/
def ownerCode (q : Nat) : Nat := if q = 0x20 then 0x21 else if q = 0x21 then 0x22 else if q = 0x23 then 0x23 else 0

/-- A requester may write the registers of channel w (R227). -/
def mayWriteChan (q w : Nat) (s : State) : Bool :=
  let o := s.owner 1 w
  if 1 ≤ o ∧ o ≤ 0x20 then isHelm0 q || isHelm1 q || decide (q = o - 1)
  else decide (o ≠ 0) && decide (ownerCode q = o)

/-- A write to a register of channel w (R209, R214, R227); the reserved offsets ignore it (R228). -/
def chanWrite (q w o : Nat) (v : Word) (s : State) : State :=
  if 0x11 ≤ o then s
  else if !mayWriteChan q w s then conflict (some (2 * w)) s
  else
    let s := plainWrite (chanBase w + o) v (s.keepBefore (chanBase w + o))
    if o = 0 ∧ tst v 15 = false then safeRequest w s
    else if o = 8 ∧ 0x21 ≤ s.owner 1 w then sendDuty w v s
    else s

/-- SWDUTY_WRITE: a write to PWM_SWDUTY (R209). -/
def execSwdutyWrite (q : Req) (w : ChanId) (v : Word) (s : State) : Result :=
  .next (withAccess q.toNat (chanBase w.1 + 8) true (chanWrite q.toNat w.1 8 v) s)

/-- CHANNEL_ENABLE: a write of 1 to PWM_CTRL.en, the other fields staying as they are (R209, R214). -/
def execChannelEnable (q : Req) (w : ChanId) (s : State) : Result :=
  .next (withAccess q.toNat (chanBase w.1) true (fun s => chanWrite q.toNat w.1 0 (putBit (s.rd (chanBase w.1)) 15 true) s) s)

/-- CHANNEL_DISABLE: a write of 0 to PWM_CTRL.en requests the safe state at once (R214, R224). -/
def execChannelDisable (q : Req) (w : ChanId) (s : State) : Result :=
  .next (withAccess q.toNat (chanBase w.1) true
    (fun s => chanWrite q.toNat w.1 0 (putBit (s.rd (chanBase w.1)) 15 false) s) s)

/-- CALIBRATION_SETTLED: the channel's delay line is calibrated (R213). -/
def execCalibrationSettled (w : ChanId) (s : State) : Result :=
  happens s.fabric (fun s => if w.1 < 20 then s.wb 0x73801 w.1 true else s.wb 0x73802 (w.1 - 20) true) s

/-- EDGE_FIRE: an edge of s fires (R212). -/
def execEdgeFire (w : ChanId) (s : State) : Result := happens (s.fabric && s.chanRuns w.1) (edgeFire w.1) s

/-- DEAD_TIME_END: the dead time of WnH (high) or WnL ends (R217, R224). -/
def execDeadTimeEnd (w : ChanId) (high : Bool) (s : State) : Result := happens s.fabric (deadTimeEnd w.1 high) s

/-- MIN_PULSE_END: the fall of s that waited for the minimum pulse comes (R218). -/
def execMinPulseEnd (w : ChanId) (s : State) : Result := happens (s.fabric && s.chanRuns w.1) (minPulseEnd w.1) s

end Sys2Proof.Machine
end

