-- ==== Sys2Proof/Machine/Almanac.lean ====
section
/-! DEFINITION. The Almanac (R192 to R203): the table, its validity, the phase source, and what freezes learning. -/
namespace Sys2Proof.Machine

/-- sz of ALM_SIZE in a bank; 10 to 15 are reserved and act as 0 (R194). -/
def almSz (c b : Nat) (s : State) : Nat := let v := fld (s.param c b 0x31) 4 4; if v < 10 then v else 0

/-- The number of bins (R192). -/
def almBins (c b : Nat) (s : State) : Nat := 2 ^ (almSz c b s + 6)

/-- The first bank of the table, turret-local (R194). -/
def almFirst (c b : Nat) (s : State) : Nat := fld (s.param c b 0x31) 0 3

/-- The banks the table spans (R192). -/
def almSpan (c b : Nat) (s : State) : Nat := max 1 (almBins c b s / 4096)

/-- The address of bin i of the table (R192). -/
def binAddr (c b i : Nat) (s : State) : Nat := 0x50000 + (8 * (c / 8) + almFirst c b s) * 0x1000 + i

/-- The cell owns every bank of the span that the turret has (R19, R192). -/
def almOwned (c b : Nat) (s : State) : Bool :=
  (List.range (almSpan c b s)).all fun j =>
    decide (7 < almFirst c b s + j) || decide (s.owner 4 (8 * (c / 8) + almFirst c b s + j) = c + 1)

/-- The span passes the turret's last bank (R193). -/
def almPast (c b : Nat) (s : State) : Bool := decide (7 < almFirst c b s + almSpan c b s - 1)

/-- The source is a reserved one (R193, R194). -/
def almBadSource (x : Word) : Bool := if tst x 7 then decide (fld x 5 2 = 3) else decide (2 ≤ fld x 5 2)

/-- The term or learning is asked for (R193). -/
def almUsed (x : Word) : Bool := tst x 9 || tst x 8

/-- Bank b of the cell is invalid for the Almanac as the claim table stands (R193). -/
def almBad (c b : Nat) (s : State) : Bool :=
  let x := s.param c b 0x30
  almUsed x && (almPast c b s || !almOwned c b s || almBadSource x)

/-- The test of R193 on the active bank, for a commit or a change of owner: invalid sets cfg_err and freezes learning until a
valid commit (R202), and an unowned bank is a conflict: one for a test, however many
banks of the span are unowned, which the manual leaves open (log 89). -/
def almTest (c : Nat) (commit : Bool) (s : State) : State :=
  let b := s.activeBank c
  let x := s.param c b 0x30
  let unowned := !almOwned c b s
  let bad := almBad c b s
  let s := s.modCell c fun k => { k with almInvalid := bad, frzAlm := bad || (k.frzAlm && !commit) }
  let s := if bad then cellCfgErr c s else s
  if almUsed x && unowned then conflict none s else s

/-- The ripple detector of a cell's time source (R194). -/
def almDetector (c : Nat) (x : Word) : Nat := 2 * (c / 8) + fld x 5 2

/-- The phase source lets learning run (R202). -/
def almSourceOk (c : Nat) (x : Word) (s : State) : Bool :=
  if tst x 7 then s.rb (posBase (fld x 5 2) + 0xC) 19 && !s.rb (posBase (fld x 5 2) + 0xC) 18
  else s.rb (0x76E08 + 16 * almDetector c x) 19 && !s.rb 0x70400 4

/-- Learning on bank b of the cell, invalid for the Almanac or not, is active: asked for, valid, and frozen by no lasting
cause (R202). -/
def learningOn (c b : Nat) (bad : Bool) (s : State) : Bool :=
  let k := s.cell c
  let x := s.param c b 0x30
  cellRuns c s && !entryStops s && tst x 8 && !bad && !k.frzFe && !k.frzTrip && almSourceOk c x s

/-- Learning of the cell is active on its active bank. -/
def learning (c : Nat) (s : State) : Bool := learningOn c (s.activeBank c) (s.cell c).frzAlm s

/-- An effect that can freeze learning: each cell whose learning it ends has its alm_freeze event set once (R203). -/
def withFreeze (f : State → State) (s : State) : State :=
  forAll 32 (fun c t => if learning c s && !learning c t then cellEvent c 7 t else t) (f s)

/-- INC of ripple detector m (R199). -/
def rippleInc (m : Nat) (s : State) : Nat := ofWords [s.rd (0x76E04 + 16 * m), s.rd (0x76E05 + 16 * m)]

/-- The phase of detector m at cycle t, now or later (R197). -/
def phiAt (m t : Nat) (s : State) : Nat := ((s.ripple m).phi + rippleInc m s * (t - s.mt)) % 2 ^ 40

/-- The 20-bit phase of the source at cycle t (R195): bits [39:20] of the detector's phase, or the interface's angle. -/
def almPhase (c : Nat) (x : Word) (t : Nat) (s : State) : Nat :=
  if tst x 7 then posAngle (fld x 5 2) t s
  else phiAt (almDetector c x) t s / 2 ^ 20 % 2 ^ 20

/-- The index θ at cycle t (R195). -/
def almTheta (c b t : Nat) (s : State) : Nat :=
  (almPhase c (s.param c b 0x30) t s + (s.param c b 0x36).toNat) % 2 ^ 20 / 2 ^ (14 - almSz c b s)

/-- The bin the fast path reads (R196): lead bins ahead in the direction of travel. -/
def almReadBin (c b θ : Nat) (s : State) : Nat :=
  let n := almBins c b s
  let x := s.param c b 0x30
  let lead := fld (s.param c b 0x32) 0 6 % n
  if tst x 7 && !s.rb (posBase (fld x 5 2) + 0xC) 17 then (θ + n - lead) % n else (θ + lead) % n

/-- Read a bin: a parity error reads as 0 and is recorded with requester code 0x24 (R92, R201). -/
def readBin (c b i : Nat) (s : State) : Int × State :=
  let a := binAddr c b i s
  if s.badParity.contains a then (0, recordParity a 0x24 s) else ((s.rdMem a).toInt, s)

/-- The learned value of bin θ from its old value, its neighbours and the increment x (R200). -/
def learned (old left right x : Int) (qf c : Nat) : Int :=
  let a := old + x
  let w := sat19 (a - roundShift (qf * a) 15)
  if c = 0 then w else sat19 (roundShift ((16 - 2 * c) * w + c * (left + right)) 4)

/-- The smoothing weight in sixteenths (R194). -/
def smoothOf (x : Word) : Nat :=
  match fld x 3 2 with
  | 0 => 0
  | 1 => 1
  | 2 => 2
  | _ => 4

/-- ALM_Q.qf; values above 0x1000 are reserved and act as 0 (R194). -/
def almQ (c b : Nat) (s : State) : Nat := let v := fld (s.param c b 0x33) 0 13; if v ≤ 0x1000 then v else 0

/-- term of R171: a Q1.19 value times a gain mantissa, shifted right with rounding half up. -/
def term (x : Int) (m : Word) (sh : Nat) : Int := roundShift (x * m.toInt) sh

/-- The bus write of this cycle to a bin, which an update that starts now holds until cycle due (R201). -/
def binHolds (due : Nat) (s : State) (a : Nat) : Option (Nat × Ev) :=
  if s.cyc.was.any fun x => decide (x.1 = a) then some (due, .put a (s.rdMem a)) else none

/-- Such a write is taken back: the bin stands as it did before it. -/
def binTakeBack (s : State) (a : Nat) : State :=
  match s.cyc.was.find? fun x => decide (x.1 = a) with
  | some x =>
    let t := s.wrMem a x.2
    if s.cyc.was.any fun y => decide (y.1 = 0x400000 + a) then { t with badParity := a :: t.badParity } else t
  | none => s

/-- The learning update of bin θ with error e on bank b: it reads now and writes its bin 6 cycles on, and bus writes to its
bins wait for that (R200, R201). -/
def almUpdate (c b θ : Nat) (e : Int) (s : State) : State :=
  let n := almBins c b s
  let bins := [binAddr c b θ s, binAddr c b ((θ + n - 1) % n) s, binAddr c b ((θ + 1) % n) s]
  let due := s.mt + 6
  let held := bins.filterMap (binHolds due s)
  let s := bins.foldl binTakeBack s
  let x := sat19 (roundShift (term e (s.param c b 0x34) (fld (s.param c b 0x35) 0 5)) 12)
  let old := readBin c b θ s
  let left := readBin c b ((θ + n - 1) % n) old.2
  let right := readBin c b ((θ + 1) % n) left.2
  let w := learned old.1 left.1 right.1 x (almQ c b s) (smoothOf (s.param c b 0x30))
  right.2.mapSched fun l => l ++ (due, .bin (binAddr c b θ s) (ofI w) bins) :: held

end Sys2Proof.Machine
end

