-- ==== Sys2Proof/Machine/Cell.lean ====
section
/-! DEFINITION. Control cells (R157 to R170, R179 to R191): configuration checks, starting and stopping, standby, commits,
following-error supervision, what happens at a control-period boundary, and the writes to the CELL registers. -/
namespace Sys2Proof.Machine

/-- The channels the cell drives (R17, R152, R169): those in use that it owns, of a duty cell or a valid drive. -/
def drivenChannels (c : Nat) (s : State) : List Nat :=
  let b := s.activeBank c
  if outKind c b s = 0 ∨ driveValid c s = true then
    (usedChannels c b s).filter fun w => decide (s.owner 1 w = c + 1)
  else []

/-- A reserved value stands in the bank's words (R169, R194). A reserved ALM_CTRL.sel is judged by R193 alone, and so sets no
cfg_err while term and learn are 0: the manual leaves open which of the two rules prevails (log 90). -/
def bankReserved (c b : Nat) (s : State) : Bool :=
  let i := s.param c b 0
  let r := s.param c b 1
  decide (fld i 11 2 = 3) || decide (fld i 9 2 = 3) || decide (4 ≤ fld r 5 3) ||
    (decide (2 ≤ fld r 5 3) && decide (3 ≤ fld r 0 5)) || decide (10 ≤ fld (s.param c b 0x31) 4 4) ||
    decide (0x1000 < fld (s.param c b 0x33) 0 13)

/-- The configuration of the active bank is invalid (R152, R169, R181). -/
def bankInvalid (c : Nat) (s : State) : Bool :=
  let b := s.activeBank c
  bankReserved c b s || decide ((s.param c b 0x19).toInt < (s.param c b 0x1A).toInt) ||
    (decide (outKind c b s = 3) && !driveValid c s) ||
    (decide (outKind c b s = 2) && decide (fld (s.param c b 2) 0 4 ≠ 0))

/-- Every channel in use that the cell does not own is one conflict (R169). -/
def channelConflicts (c : Nat) (s : State) : State :=
  let b := s.activeBank c
  if outKind c b s = 1 then s
  else
    (usedChannels c b s).eraseDups.foldl (fun t w => if s.owner 1 w = c + 1 then t else conflict (some (2 * w)) t) s

/-- What is tested when a bank becomes active (R152, R169, R181, R193). -/
def bankActive (c : Nat) (s : State) : State :=
  let s := if bankInvalid c s then cellCfgErr c s else s
  almTest c true (channelConflicts c s)

/-- The channels of a cell go to their safe state (R157). -/
def cellChannelsSafe (c : Nat) (s : State) : State :=
  forAll 32 (fun w t => if s.owner 1 w = c + 1 then safeRequest w t else t) s

/-- CELL_STATUS.run and safe. -/
def showRun (c : Nat) (run : Bool) (s : State) : State :=
  (s.wb (cellBase c + 1) 19 run).wb (cellBase c + 1) 18 (!run)

/-- The integrator's start value I_INIT of the active bank (R180). -/
def iInit (c : Nat) (s : State) : Int :=
  let n := ofWords [s.live c 0x1B, s.live c 0x1C]
  if n < 2 ^ 39 then n else n - 2 ^ 40

/-- The cell starts at its boundary with its initial law states (R157, R179, R187, R202, R264). -/
def cellStart (c : Nat) (s : State) : State :=
  let i := iInit c s
  let s := s.modCell c fun k =>
    { k with starting := false, active := true, standby := false, entryHeld := false, fp := none, newA := false,
             newB := false, newU := false, newV := false, newW := false, is := i, d := 0, fresh := true, e1 := 0,
             e2 := 0, s1 := 0, s2 := 0, feTimer := 0, withinSeen := false, feFired := false, ran := false,
             frzFe := false, frzTrip := false, cmd := none, dcmd := none, acc := 0 }
  channelConflicts c (showRun c true s)

/-- The cell stands still with its channels safe and its states held (R159, R160). -/
def cellHold (c : Nat) (s : State) : State :=
  let s := s.modCell c fun k => { k with fp := none, cmd := none, dcmd := none }
  cellChannelsSafe c (showRun c false s)

/-- Whether the slot of a role has been delivered since the last start, after a swap from input word o: what the role's slot was
marked with under o, and nothing for a slot that o does not name (R145). -/
def slotNew (o : Word) (k : Cell) (e : Nat) : Bool :=
  (decide (fld o 0 4 = e) && k.newA) || (decide (fld o 4 4 = e) && k.newB)

/-- The new law states at a swap from the old bank to the active one (R145, R179, R189, R202). -/
def swapStates (c old : Nat) (s : State) : State :=
  let word := s.param c old 0
  let new := s.live c 0
  let ctl := s.live c 0x10
  let was := s.param c old 0x10
  let i := iInit c s
  s.modCell c fun k =>
    { k with
      newA := slotNew word k (fld new 0 4)
      newB := slotNew word k (fld new 4 4)
      is := if tst ctl 7 then i else k.is
      fp := if tst ctl 7 then k.fp.map (fun f => { f with inc := none }) else k.fp
      fresh := k.fresh || decide (tst ctl 6 ≠ tst was 6)
      e1 := if tst ctl 5 && !tst was 5 then 0 else k.e1
      e2 := if tst ctl 5 && !tst was 5 then 0 else k.e2
      s1 := if tst ctl 5 && !tst was 5 then 0 else k.s1
      s2 := if tst ctl 5 && !tst was 5 then 0 else k.s2
      fallback := false, frzTrip := false, refill := true, commitWait := false, checked := none }

/-- The channel that paced a cell before the swaps of this cycle, whose boundaries of this cycle are the cell's (R161, R187). -/
def pacedBy (c : Nat) (s : State) : Nat :=
  match s.cyc.paced.find? fun x => decide (x.1 = c) with
  | some x => x.2
  | none => periodCh c s

/-- What a packet waits for, after the commit or reject event of cell c with outcome k (R392, R410, R411). -/
def waitEnded (c k : Nat) (w : WaitFor) : WaitFor :=
  match w with
  | .commit d none => if d = c then .commit d (some k) else w
  | .almSave d l none => if d = c then .almSave d l (some k) else w
  | .almLoad d l none => if d = c then .almLoad d l (some k) else w
  | _ => w

/-- The commit or reject event of cell c is the outcome of the packets that wait for it: 0 a commit, 1 parity, 2 a cascade loop
(R388, R392). -/
def commitOutcome (c k : Nat) (s : State) : State :=
  s.mapHostif fun h => { h with waits := h.waits.map fun x => (x.1, waitEnded c k x.2) }

/-- The banks swap (R182 step 4): the fast path loads its parameters; until the cycle is over, bus reads see the banks as
they were (R168). -/
def bankSwap (c : Nat) (s : State) : State :=
  let old := s.activeBank c
  let was := pacedBy c s
  let s := s.mapCyc fun y => { y with paced := (c, was) :: y.paced.filter fun x => decide (x.1 ≠ c) }
  let s := (s.keepBefore (cellBase c + 1)).load c (1 - old)
  let s := (s.wf (cellBase c + 1) 10 1 (1 - old)).wb (cellBase c + 1) 9 false
  commitOutcome c 0 (cellEvent c 4 (swapStates c old s))

/-- A q cell that forms no valid drive: its channels go to their safe state, and where its drive has just ceased to be valid
it sets cfg_err (R152). -/
def driveCheck (before : State) (c : Nat) (s : State) : State :=
  if outKind c (s.activeBank c) s ≠ 3 ∨ driveValid c s = true then s
  else
    let s := cellChannelsSafe c s
    if driveValid c before && decide (s.activeBank c = before.activeBank c) then cellCfgErr c s else s

/-- The commit is rejected (R182 step 5), for cause k of R388. -/
def commitReject (c k : Nat) (s : State) : State :=
  let s := s.modCell c fun k => { k with commitWait := false, checked := none }
  commitOutcome c k (cellEvent c 5 ((s.wb (cellBase c + 1) 9 false).wb (cellBase c + 1) 8 true))

/-- The reference word of a cell that will be active once the commits of a set take effect (R147). -/
def refAfter (set : List Nat) (c : Nat) (s : State) : Word :=
  let b := s.activeBank c
  if set.contains c then s.bankWord c (1 - b) 1 else s.param c b 1

/-- The cells a chain of cascades passes from x on, at most n of them. -/
def chainFrom (set : List Nat) (s : State) : Nat → Nat → List Nat
  | 0, _ => []
  | n + 1, x => if refSrc (refAfter set x s) = 1 then
      refIndex (refAfter set x s) :: chainFrom set s n (refIndex (refAfter set x s))
    else []

/-- The cells of the loop of cascades that cell c lies on; none where it lies on no loop (R16, R147). -/
def loopOf (set : List Nat) (c : Nat) (s : State) : List Nat :=
  let ch := chainFrom set s 32 c
  if ch.contains c then c :: ch.takeWhile (· ≠ c) else []

/-- Of a set of commits those that leave no loop, and the cells of the loops that the others would have closed (R16, R147). A
rejected commit leaves its cell's old word active, so that the rest is tested again, at most n times. -/
def acceptCommits (s : State) : Nat → List Nat → List Nat × List Nat
  | 0, ok => (ok, [])
  | n + 1, ok =>
    let looped := ok.filter fun c => !(loopOf ok c s).isEmpty
    if looped.isEmpty then (ok, [])
    else
      let r := acceptCommits s n (ok.filter fun c => !looped.contains c)
      (r.1, (looped.map fun c => loopOf ok c s).flatten ++ r.2)

/-- The commits of a set of cells take effect in one cycle (R16, R147, R182): a failed check or a loop rejects. -/
def commitGroup (set : List Nat) (s : State) : State :=
  let r := acceptCommits s 33 (set.filter fun c => decide ((s.cell c).checked = some none))
  let faults := (List.range 32).filter fun x => r.2.contains x
  let t := set.foldl (fun t c =>
    match (s.cell c).checked with
    | some (some w) => commitReject c 1 (recordParity (cellBase c + 0x100 + w) 0x24 t)
    | _ => if r.1.contains c then bankSwap c t else commitReject c 2 t) s
  let swapped := set.filter fun c => decide (t.activeBank c ≠ s.activeBank c)
  let t := swapped.foldl (fun t c => bankActive c t) t
  let t := if swapped.isEmpty then t else forAll 32 (fun c t => driveCheck s c t) t
  faults.foldl (fun t c => seqFault c 3 t) t

/-- The first variable-frequency period begins in the first cycle at which the channel may run, whatever its phase (R223,
R225): en need not have been taken into force at a boundary, but was written in an earlier cycle (R214). -/
def firstPeriod (w : Nat) (s : State) : Bool :=
  !s.chanRuns w && decide ((s.chan w).mode = 2) && mayRunIf (tst (s.before (chanBase w)) 15) w s

/-- The commits that take effect in this cycle, each after its check has ended in an earlier one: at a control-period
boundary, which the cells of channel w have now, or at once where the cell is not enabled (R16, R147, R182). -/
def commitsDue (w : Option Nat) (s : State) : List Nat :=
  (List.range 32).filter fun c =>
    (s.cell c).commitWait && decide ((s.cell c).readyAt ≠ s.mt) &&
      (!s.rb (cellBase c) 0 || decide (w = some (periodCh c s)) || isBoundary (periodCh c s) s.mt s || firstPeriod (periodCh c s) s)

/-- They take effect together. -/
def commitNow (w : Option Nat) (s : State) : State :=
  if (commitsDue w s).isEmpty then s else commitGroup (commitsDue w s) s

/-- The place of a stop's cause in the order of R190, the first first. -/
def stopRank (cause : Nat) : Nat := match cause with | 3 => 0 | 1 => 1 | 2 => 2 | 4 => 3 | _ => 4

/-- The cell is enabled, or has stopped in this very cycle (R190). -/
def stoppable (c : Nat) (s : State) : Bool := s.rb (cellBase c) 0 || s.cyc.stops.contains c

/-- en of a cell that stops is cleared; a bus write of 1 to it in the same cycle stands, and the cell is to start again (R95). -/
def cellOff (c cause : Nat) (s : State) : State :=
  if s.written (cellBase c) && decide (cause ≠ 0) then s.modCell c fun k => { k with starting := true }
  else s.wb (cellBase c) 0 false

/-- The cell stops (R157): channels safe, fast path abandoned, en cleared, the cause recorded; of causes in one cycle the
first in the order of R190 stands. A commit that waited for a boundary takes effect (R186). -/
def cellStop (c cause : Nat) (s : State) : State :=
  if s.cyc.stops.contains c then
    if stopRank cause < stopRank (s.rf (cellBase c + 1) 15 3) then s.wf (cellBase c + 1) 15 3 cause else s
  else if !s.rb (cellBase c) 0 then s
  else
    let s := (s.modCell c fun k =>
      { k with active := false, starting := false, entryHeld := false, fp := none, cmd := none, dcmd := none }).mapCyc
        fun y => { y with stops := c :: y.stops }
    let s := (cellOff c cause s).wf (cellBase c + 1) 15 3 cause
    commitNow none (cellChannelsSafe c (showRun c false s))

/-- A write of 1 to CELL_COMMIT.commit (R182 step 1); a commit while one is pending merges with it. -/
def commitAsk (c : Nat) (s : State) : State :=
  if s.rb (cellBase c + 1) 9 then s
  else
    let held := s.rb (cellBase c + 1) 8
    (s.wb (cellBase c + 1) 9 true).modCell c fun k => { k with checking := !held }

/-- A write of 1 to CELL_COMMIT.ack (R185). -/
def commitAck (c : Nat) (s : State) : State :=
  if !s.rb (cellBase c + 1) 8 then s
  else
    let pend := s.rb (cellBase c + 1) 9
    (s.wb (cellBase c + 1) 8 false).modCell c fun k => { k with checking := pend }

/-- A write to CELL_COMMIT: ack, then commit (R185). -/
def commitWrite (c : Nat) (v : Word) (s : State) : State :=
  let s := if tst v 1 then commitAck c s else s
  if tst v 0 then commitAsk c s else s

/-- The new active bank is copied into the staging bank with i_load cleared, each word with its parity (R183, R184). -/
def bankCopy (c : Nat) (s : State) : State :=
  if !(s.cell c).refill then s
  else
    let b := s.activeBank c
    let s := s.modCell c fun k => { k with refill := false }
    forAll 128 (fun w t =>
      let bad := t.badParity.contains (0x200000 + bankKey c b w)
      let v := s.bankWord c b w
      let t := t.setBankWord c (1 - b) w (if w = 0x10 then putBit v 7 false else v)
      if bad then { t with badParity := (0x200000 + bankKey c (1 - b) w) :: t.badParity } else t) s

/-- The first word of the staging bank with wrong parity (R182 step 2). -/
def firstBad (c : Nat) (s : State) : Option Nat :=
  (List.range 128).find? fun w => s.badParity.contains (0x200000 + bankKey c (1 - s.activeBank c) w)

/-- The check of the staging bank ends (R182 steps 2 and 3); a copy has ended before it (R184). A cell that is not enabled
commits in the next cycle. -/
def checkComplete (c : Nat) (s : State) : State :=
  let s := bankCopy c s
  let r := firstBad c s
  let now := s.mt
  (s.modCell c fun k => { k with checking := false, checked := some r, commitWait := true, readyAt := now }).at_ (now + 1) .commits

/-- The bits of a bank word that a write sets (R169, R180, R194). -/
def bankMask (w : Nat) : Word :=
  match w with
  | 0x00 => 0x03EFF
  | 0x01 => 0x000FF
  | 0x02 => 0xFFF0F
  | 0x03 => 0xFFFFF
  | 0x10 => 0x000F8
  | 0x18 => 0x7FFFF
  | 0x1D => 0x7FFFF
  | 0x1F => 0x3FFFF
  | 0x30 => 0x003F8
  | 0x31 => 0x000F7
  | 0x32 => 0x0003F
  | 0x33 => 0x01FFF
  | 0x35 => 0x0001F
  | w => if (0x11 ≤ w ∧ w ≤ 0x25) ∨ w = 0x34 ∨ w = 0x36 then 0xFFFFF else 0

/-- A write to word w of the staging window (R168, R184, R185): it waits out a copy, and is refused while a commit is
pending. -/
def stagingWrite (c w : Nat) (v : Word) (s : State) : State :=
  let s := bankCopy c s
  if s.rb (cellBase c + 1) 9 && !s.rb (cellBase c + 1) 8 then cellCfgErr c s
  else s.setBankWord c (1 - s.activeBank c) w (v &&& bankMask w)

/-- A write to CELL_CTRL (R157, R168): en starts the cell at its next boundary or stops it. -/
def cellCtrlWrite (c : Nat) (v : Word) (s : State) : State :=
  let was := s.rb (cellBase c) 0
  let rl := fld v 1 2
  let s := if rl = 3 then cellCfgErr c s else s
  let s := (s.wf (cellBase c) 1 2 (if rl = 3 then 0 else rl)).mapCyc fun y => { y with wrote := cellBase c :: y.wrote }
  if tst v 0 then
    if was then s else (s.wb (cellBase c) 0 true).modCell c fun k => { k with starting := true }
  else if !was then s
  else if s.cyc.stops.contains c then (s.wb (cellBase c) 0 false).modCell c fun k => { k with starting := false }
  else cellStop c 0 s

/-- A write to CELL_SEQ_CTRL by a Helm core or the host (R164). -/
def seqCtrlWrite (c : Nat) (v : Word) (s : State) : State :=
  let run := s.rb (cellBase c + 1) 14
  if tst v 1 then if run then s.modProc (seqProc c) fun p => { p with stopReq := true } else s
  else if tst v 0 && !run then
    if s.rb (cellBase c + 1) 13 then cellCfgErr c s
    else
      let entry := BitVec.ofNat 20 (0x40000 + c * 0x800 + s.rf (cellBase c + 8) 0 11)
      (s.modProc (seqProc c) fun p => { p with run := .running, pc := entry, status := putFld p.status 0 4 0, stopReq := false }).wb
        (cellBase c + 1) 14 true
  else s

/-- A write to register o of cell c (R168). -/
def cellRegWrite (c o : Nat) (v : Word) (s : State) : State :=
  if o = 0 then cellCtrlWrite c v s
  else if o = 7 then seqCtrlWrite c v s
  else if o = 0xB then commitWrite c v s
  else if 0x100 ≤ o ∧ o < 0x180 then stagingWrite c (o - 0x100) v s
  else plainWrite (cellBase c + o) v s

/-- The following-error timer after a boundary (R187). -/
def feNext (time timer : Nat) (within ran : Bool) : Nat :=
  if time = 0 then 0 else if within then 0 else if ran then min (timer + 1) 0xFFFF else timer

/-- The following-error action (R188). The line of an interrupt action stays while CELL_EVENT bit 2 does. -/
def feFire (c : Nat) (s : State) : State :=
  let action := fld (s.live c 0x1F) 16 2
  let stands := s.rb (cellBase c + 2) 2
  let s := cellEvent c 2 (s.modCell c fun k =>
    { k with feFired := true, frzFe := true, feIrq := decide (action = 1) || (k.feIrq && stands) })
  if action = 2 then cellStop c 2 s
  else if action = 3 then s.modCell c fun k => { k with fallback := true }
  else s

/-- The following-error evaluation at a boundary whose period lasted len cycles (R187, R289). -/
def feEvaluate (c len : Nat) (s : State) : State :=
  let k := s.cell c
  let time := fld (s.live c 0x1F) 0 16
  let t := feNext time k.feTimer k.withinSeen k.ran
  let s := if k.feTimer < t then ctrAdd (96 + 5 * c + 4) len s else s
  let s := s.modCell c fun k =>
    { k with feTimer := t, withinSeen := false, ran := false, feFired := k.feFired && decide (t ≠ 0),
             frzFe := k.frzFe && decide (t ≠ 0) }
  if time ≠ 0 ∧ time ≤ t ∧ k.feFired = false then withFreeze (feFire c) s else s

/-- The vector-unit registers of the drive take effect together (R268). -/
def vecLoad (c : Nat) (s : State) : State :=
  let b := 0x77200 + 8 * c
  let v := #v[s.rd b, s.rd (b + 1), s.rd (b + 2), s.rd (b + 3)]
  s.modCell c fun k => { k with vecAct := v }

/-- Starting, standing down, resuming or stopping for a state entry at a boundary (R76, R157, R159, R160). -/
def cellMode (c : Nat) (s : State) : State :=
  let k := s.cell c
  let down := s.rb (cellBase c + 0xC) 0
  if !s.rb (cellBase c) 0 then s
  else if entryStops s then
    if k.entryHeld then s else cellHold c (s.modCell c fun k => { k with entryHeld := true })
  else if k.starting then
    let s := cellStart c s
    if down then cellHold c (s.modCell c fun k => { k with standby := true }) else s
  else if k.entryHeld then
    let s := s.modCell c fun k => { k with entryHeld := false, standby := down }
    showRun c (!down) s
  else if down && !k.standby then cellHold c (s.modCell c fun k => { k with standby := true })
  else if !down && k.standby then showRun c true (s.modCell c fun k => { k with standby := false })
  else s

/-- What a control-period boundary does to a cell after any swap (R49, R50, R161, R186). -/
def cellBoundary (c len : Nat) (s : State) : State :=
  let s := if s.rb (cellBase c) 0 then cellEvent c 0 s else s
  let s := cellMode c s
  let s := s.modCell c fun k => { k with scaled := k.loss }
  vecLoad c (feEvaluate c len s)

/-- The cells whose control-period boundaries of this cycle are those of channel w. -/
def cellsOf (w : Nat) (s : State) : List Nat := (List.range 32).filter fun c => decide (pacedBy c s = w)

/-- The cycles of the period of channel w that ends. -/
def periodLen (w : Nat) (s : State) : Nat :=
  let c := s.chan w
  if s.chanRuns w && decide (c.mode = 2) then c.pv * c.p else c.per * c.p

/-- The control-period boundary of every cell that channel w paces: swaps first, then the rest (R186). -/
def cellsBoundary (w : Nat) (s : State) : State :=
  let cs := cellsOf w s
  let len := periodLen w s
  let s := commitNow (some w) s
  cs.foldl (fun t c => cellBoundary c len t) s

/-- A period boundary of channel w (R207, R208, R214): duties in effect, registers in force, cells, then the period. -/
def periodBoundary (w : Nat) (s : State) : State :=
  let s := settle w s
  let old := s.chan w
  let s := cellsBoundary w s
  let s := chanLoad w s
  chanPeriod w (mustWait old (s.chan w)) s

/-- PERIOD_BOUNDARY: a period boundary of channel w arrives, in a cycle that is one (R207, R223). -/
def execPeriodBoundary (w : ChanId) (s : State) : Result :=
  happens (s.fabric && (isBoundary w.1 s.mt s || firstPeriod w.1 s)) (periodBoundary w.1) s

/-- A Helm core, the host or a sequencer: no other requester writes a cell's registers (R168). -/
def cellWriter (q : Nat) : Bool := isSystem q || decide (q < 0x20)

/-- A write to a register of a cell. -/
def cellAccess (q : Req) (c : CellId) (o : Nat) (eff : State → State) (s : State) : Result :=
  .next (withAccess q.toNat (cellBase c.1 + o) true
    (fun s => if cellWriter q.toNat then eff s else s) s)

/-- CELL_ENABLE: a write of 1 to CELL_CTRL.en, rl_action staying as it is (R157). -/
def execCellEnable (q : Req) (c : CellId) (s : State) : Result :=
  cellAccess q c 0 (fun s => cellCtrlWrite c.1 (putBit (s.rd (cellBase c.1)) 0 true) s) s

/-- CELL_DISABLE: a write of 0 to CELL_CTRL.en, rl_action staying as it is (R157). -/
def execCellDisable (q : Req) (c : CellId) (s : State) : Result :=
  cellAccess q c 0 (fun s => cellCtrlWrite c.1 (putBit (s.rd (cellBase c.1)) 0 false) s) s

/-- CELL_STANDBY: a write to CELL_STANDBY, in effect at the cell's next control-period boundary (R160). -/
def execCellStandby (q : Req) (c : CellId) (v : Word) (s : State) : Result :=
  cellAccess q c 0xC (plainWrite (cellBase c.1 + 0xC) v) s

/-- COMMIT: a write of 1 to CELL_COMMIT.commit (R182). -/
def execCommit (q : Req) (c : CellId) (s : State) : Result :=
  cellAccess q c 0xB (commitAsk c.1) s

/-- COMMIT_ACK: a write of 1 to CELL_COMMIT.ack (R185). -/
def execCommitAck (q : Req) (c : CellId) (s : State) : Result :=
  cellAccess q c 0xB (commitAck c.1) s

/-- COMMIT_CHECK_COMPLETE: the 64-cycle check of the staging bank ends (R182). -/
def execCommitCheckComplete (c : CellId) (s : State) : Result :=
  happens (s.fabric && (s.cell c.1).checking) (checkComplete c.1) s

/-- BANK_COPY_COMPLETE: the copy that follows a swap ends (R184). -/
def execBankCopyComplete (c : CellId) (s : State) : Result := happens (s.fabric && (s.cell c.1).refill) (bankCopy c.1) s

/-- STAGING_WRITE: a write to a word of the staging window (R168, R185). -/
def execStagingWrite (q : Req) (c : CellId) (w : Fin 128) (v : Word) (s : State) : Result :=
  cellAccess q c (0x100 + w.1) (stagingWrite c.1 w.1 v) s

/-- SEQUENCER_START: a write of 1 to CELL_SEQ_CTRL.start by a Helm core or the host (R164). -/
def execSequencerStart (q : Req) (c : CellId) (s : State) : Result :=
  .next (withAccess q.toNat (cellBase c.1 + 7) true (fun s => if isSystem q.toNat then seqCtrlWrite c.1 1 s else s) s)

/-- SEQUENCER_STOP: a write of 1 to CELL_SEQ_CTRL.stop by a Helm core or the host (R164). -/
def execSequencerStop (q : Req) (c : CellId) (s : State) : Result :=
  .next (withAccess q.toNat (cellBase c.1 + 7) true (fun s => if isSystem q.toNat then seqCtrlWrite c.1 2 s else s) s)

/-- SEQUENCER_HALT: a sequencer asked to stop halts at an instruction boundary, and so not within WFE or WAITT, with no posted
store left (R164). -/
def execSequencerHalt (c : CellId) (s : State) : Result :=
  let p := s.proc (seqProc c.1)
  happens (decide (p.run = .running) && p.stopReq && p.posted.isEmpty) (seqHalt c.1) s

end Sys2Proof.Machine
end

