-- ==== Sys2Proof/Machine/Vector.lean ====
section
/-! DEFINITION. The vector unit (R152 to R156, R264 to R268): sine table, transforms, and the two stages' jobs. -/
namespace Sys2Proof.Machine

/-- Terms of the sine series, in units of 2^-80: n terms still to add, term number k, the last term and the sum. -/
def sinSeries (x : Nat) : Nat → Nat → Nat → Int → Int
  | 0, _, _, sum => sum
  | n + 1, k, t, sum =>
    let t' := (t * x / 2 ^ 80) * x / 2 ^ 80 / (2 * k * (2 * k + 1))
    sinSeries x n (k + 1) t' (if k % 2 = 1 then sum - t' else sum + t')

/-- round(2^19 sin(2 pi i / 4096)) for i from 0 to 1024; pi in units of 2^-80. -/
def sinQuarter (i : Nat) : Int :=
  let x := 3797952473636338580787994 * i / 2048
  (sinSeries x 13 1 x x + 2 ^ 60) / 2 ^ 61

/-- The table T of R265. -/
def sinTable (i : Nat) : Int :=
  let v :=
    if i ≤ 1024 then sinQuarter i
    else if i ≤ 2048 then sinQuarter (2048 - i)
    else if i ≤ 3072 then -sinQuarter (i - 2048)
    else -sinQuarter (4096 - i)
  min v 524287

/-- sin of a 20-bit angle (R265). -/
def sinAngle (θ : Nat) : Int :=
  let i := θ / 256 % 4096
  sinTable i + roundShift ((sinTable ((i + 1) % 4096) - sinTable i) * (θ % 256 : Nat)) 8

/-- cos of a 20-bit angle (R265). -/
def cosAngle (θ : Nat) : Int := sinAngle ((θ + 2 ^ 18) % 2 ^ 20)

/-- 1/√3, √3/2 and 1/3 held to 2^-24 (R267). -/
def invSqrt3 : Int := 9686330
/-- See invSqrt3. -/
def halfSqrt3 : Int := 14529495
/-- See invSqrt3. -/
def third : Int := 5592405

/-- Clarke (R266). -/
def clarke (three : Bool) (iu iv iw : Int) : Int × Int :=
  if three then (sat19 (roundShift ((2 * iu - iv - iw) * third) 24), sat19 (roundShift ((iv - iw) * invSqrt3) 24))
  else (iu, sat19 (roundShift ((iu + 2 * iv) * invSqrt3) 24))

/-- Park (R266): id and iq. -/
def park (θ : Nat) (ab : Int × Int) : Int × Int :=
  (sat19 (roundShift (ab.1 * cosAngle θ + ab.2 * sinAngle θ) 19),
   sat19 (roundShift (ab.2 * cosAngle θ - ab.1 * sinAngle θ) 19))

/-- Inverse Park and the three phase voltages (R267 steps 1 and 2). -/
def phases (θ : Nat) (d q : Int) : Int × Int × Int :=
  let va := sat19 (roundShift (d * cosAngle θ - q * sinAngle θ) 19)
  let vb := sat19 (roundShift (d * sinAngle θ + q * cosAngle θ) 19)
  (va, sat19 (roundShift (halfSqrt3 * vb - 2 ^ 23 * va) 24), sat19 (roundShift (-(halfSqrt3 * vb) - 2 ^ 23 * va) 24))

/-- The three duties and whether the voltages were scaled (R267 steps 3 and 4). -/
def spaceVector (v : Int × Int × Int) : (Int × Int × Int) × Bool :=
  let hi := max v.1 (max v.2.1 v.2.2)
  let lo := min v.1 (min v.2.1 v.2.2)
  let span := hi - lo
  let ovm := decide (524288 < span)
  let sc := fun x : Int => if ovm then sat19 (roundDiv (x * 524288) span.toNat) else x
  let a := sc v.1
  let b := sc v.2.1
  let c := sc v.2.2
  let mid := max a (max b c) + min a (min b c)
  let duty := fun x : Int => clampI 0 0x7FFFF (roundDiv (2 * (0x40000 + x) - mid) 2)
  ((duty a, duty b, duty c), ovm)

/-- A register of the drive in force (R268). -/
def vecReg (c o : Nat) (s : State) : Word := vget 0 (s.cell c).vecAct o

/-- Pole pairs; 0 is reserved and acts as 1 (R268). -/
def polePairs (c : Nat) (s : State) : Nat := max 1 (fld (vecReg c 0 s) 0 5)

/-- The electrical angle of the drive of q cell c now (R264). -/
def electricalAngle (c : Nat) (s : State) : Nat :=
  let src := fld (vecReg c 0 s) 5 2
  let θs := if src = 3 then (s.cell c).acc / 2 ^ 20 % 2 ^ 20 else posAngle src s.mt s
  (polePairs c s * θs + (vecReg c 1 s).toNat) % 2 ^ 20

/-- A job that runs without a valid angle sets abad (R264). -/
def angleCheck (c : Nat) (s : State) : State :=
  let src := fld (vecReg c 0 s) 5 2
  if src ≠ 3 ∧ s.rb (posBase src + 0xC) 16 = false then s.wb (0x77204 + 8 * c) 18 true else s

/-- Put a job in a queue: order of arrival, jobs of one cycle by the q cell's number (R153). -/
def enqueueJob (j : Job) : List Job → List Job
  | [] => [j]
  | x :: q => if x.arrived = j.arrived ∧ j.q < x.q then j :: x :: q else x :: enqueueJob j q

/-- The fast path belongs to a job of the drive of q cell c. -/
def ofDrive (c : Nat) (f : FastPath) : Bool := match f.job with | some x => decide (x.1 = c) | none => false

/-- The drive's previous job has not yet started its inverse stage (R156). -/
def jobOpen (v : Vec) (c : Nat) (s : State) : Bool :=
  v.fwdQ.any (·.q = c) || v.invQ.any (·.q = c) || (match v.fwd with | some j => decide (j.q = c) && !j.dead | none => false) ||
    (s.cell c).cmd.isSome || (s.cell c).dcmd.isSome ||
    s.cells.toList.any fun k => match k.fp with | some f => ofDrive c f | none => false

/-- The replaced job produces no duties (R156): its waiting job or commands go, and its fast paths deliver no command. -/
def voidJob (t c : Nat) (s : State) : State :=
  let s := s.modVec t fun v =>
    { v with fwdQ := v.fwdQ.filter (·.q ≠ c), invQ := v.invQ.filter (·.q ≠ c),
             fwd := v.fwd.map fun j => if j.q = c then { j with dead := true } else j }
  let s := forAll 32 (fun x s => s.modCell x fun k =>
    { k with fp := k.fp.map fun f => if ofDrive c f then { f with job := none } else f }) s
  cellEvent c 8 (s.modCell c fun k => { k with cmd := none, dcmd := none })

/-- A forward job of q cell c arrives at cycle at_ (R153, R156). -/
def forwardArrives (c at_ : Nat) (s : State) : State :=
  let t := c / 8
  let d := partner c (s.activeBank c) s
  let cfg := vecReg c 0 s
  let slot := fun n : Nat => (s.rd (adcBase t + 0xC0 + n)).toInt
  let j : Job := { q := c, d := d, arrived := at_, x0 := slot (fld cfg 15 4), x1 := slot (fld cfg 11 4),
                   x2 := slot (fld cfg 7 4), dead := false }
  let s := if jobOpen (s.vec t) c s then voidJob t c s else s
  let s := s.modCell c fun k => { k with newU := false, newV := false, newW := false }
  s.modVec t fun v => { v with fwdQ := enqueueJob j v.fwdQ }

/-- A slot delivery reaches a drive: once each of its phase currents is new, its forward job arrives (R153). -/
def driveSlot (c e at_ : Nat) (s : State) : State :=
  let cfg := vecReg c 0 s
  let s := s.modCell c fun k =>
    { k with newU := k.newU || decide (fld cfg 15 4 = e), newV := k.newV || decide (fld cfg 11 4 = e),
             newW := k.newW || decide (fld cfg 7 4 = e) }
  let k := s.cell c
  if k.newU && k.newV && (k.newW || !tst cfg 19) then forwardArrives c at_ s else s

/-- An inverse job arrives with the q command and the d command, or d = 0 (R154). -/
def inverseArrives (c d : Nat) (dq : Int × Int) (s : State) : State :=
  let j : Job := { q := c, d := d, arrived := s.mt, x0 := dq.1, x1 := dq.2, x2 := 0, dead := false }
  (s.modCell c fun k => { k with cmd := none, dcmd := none }).modVec (c / 8) fun v => { v with invQ := enqueueJob j v.invQ }

/-- The q command of the drive of q cell c and d cell d is delivered (R154). Two cases the manual leaves open: a d cell that stops
while the q command waits leaves it waiting, and a d command delivered before its cell stopped is not used (log 100). -/
def qCommand (c d : Nat) (u : Int) (s : State) : State :=
  if cellRuns d s then
    match (s.cell c).dcmd with
    | some x => inverseArrives c d (x, u) s
    | none => s.modCell c fun k => { k with cmd := some u }
  else inverseArrives c d (0, u) s

/-- The d command of the same drive's forward job is delivered (R154). -/
def dCommand (c d : Nat) (u : Int) (s : State) : State :=
  match (s.cell c).cmd with
  | some q => inverseArrives c d (u, q) s
  | none => s.modCell c fun k => { k with dcmd := some u }

/-- CELL_TIMING.vwait of a q cell, saturating (R155). -/
def showWait (c n : Nat) (s : State) : State := s.wf (cellBase c + 0xA) 8 6 (min n 63)

/-- The jobs of a queue that belong to valid drives: the vector registers of any other cell are ignored (R268), and with them
go its jobs, which could deliver nothing (R152; log 91). -/
def validJobs (q : List Job) (s : State) : List Job := q.filter fun j => driveValid j.q s

/-- The forward stage takes its next job (R153, R264, R266). -/
def forwardStart (t : Nat) (s : State) : State :=
  match (s.vec t).fwd, validJobs (s.vec t).fwdQ s with
  | none, j :: q =>
    let r := park (electricalAngle j.q s) (clarke (tst (vecReg j.q 0 s) 19) j.x0 j.x1 j.x2)
    let s := showWait j.q (s.mt - j.arrived) (angleCheck j.q s)
    s.modVec t fun v => { v with fwd := some { j with x0 := r.1, x1 := r.2 }, fwdQ := q }
  | _, _ => s

/-- The inverse stage takes its next job (R154, R264, R267). -/
def inverseStart (t : Nat) (s : State) : State :=
  match (s.vec t).inv, validJobs (s.vec t).invQ s with
  | none, j :: q =>
    let θ := electricalAngle j.q s
    let r := spaceVector (phases θ j.x0 j.x1)
    let s := showWait j.q (s.rf (cellBase j.q + 0xA) 8 6 + (s.mt - j.arrived)) (angleCheck j.q s)
    let s := s.wr (0x77205 + 8 * j.q) (BitVec.ofNat 20 θ)
    let s := if r.2 then s.wb (0x77204 + 8 * j.q) 19 true else s
    s.modVec t fun v => { v with inv := some { j with x0 := r.1.1, x1 := r.1.2.1, x2 := r.1.2.2 }, invQ := q }
  | _, _ => s

/-- The channel of entry e of a q cell, where the cell owns it, takes a phase duty (R18, R154). -/
def phaseDuty (c e : Nat) (x : Int) (s : State) : State :=
  let w := fld (s.live c 3) (5 * e) 5
  if s.owner 1 w = c + 1 then sendDuty w (ofI x) s else s

/-- The inverse job ends: its duties go to the phase channels (R154). -/
def inverseEnd (t : Nat) (s : State) : State :=
  match (s.vec t).inv with
  | none => s
  | some j =>
    let s := s.modVec t fun v => { v with inv := none }
    if cellRuns j.q s && driveValid j.q s then
      phaseDuty j.q 2 j.x2 (phaseDuty j.q 1 j.x1 (phaseDuty j.q 0 j.x0 s))
    else s

/-- FORWARD_JOB_START: the forward stage of a turret takes its next job (R153). -/
def execForwardJobStart (t : Turret) (s : State) : Result := happens s.fabric (forwardStart t.1) s

/-- INVERSE_JOB_START: the inverse stage of a turret takes its next job (R154). -/
def execInverseJobStart (t : Turret) (s : State) : Result := happens s.fabric (inverseStart t.1) s

/-- INVERSE_JOB_END: the inverse stage's job ends (R154). -/
def execInverseJobEnd (t : Turret) (s : State) : Result := happens s.fabric (inverseEnd t.1) s

end Sys2Proof.Machine
end

