-- ==== Sys2Proof/Machine/Law.lean ====
section
/-! DEFINITION. The fast path (R144 to R150, R171 to R178, R191): what it takes at its start, the law, and what its end
writes and sends. -/
namespace Sys2Proof.Machine

/-- The cascade value that cell x has delivered by cycle t (R14, R15): 8 cycles after its fast path completed. -/
def cascadeValue (x t : Nat) (s : State) : Int :=
  ((s.cell x).sends.filter (·.1 ≤ t)).foldl (fun _ d => d.2) (s.cell x).sent

/-- The latest value of a result slot of the cell's turret. -/
def slotValue (c e : Nat) (s : State) : Int := (s.rd (adcBase (c / 8) + 0xC0 + e)).toInt

/-- y of the fast path (R144), or the forward result of the vector unit (R145). -/
def measured (c : Nat) (s : State) : Int :=
  let w := s.live c 0
  if inVector w then (s.cell c).vecY
  else
    match inComb w with
    | 1 => sat19 (slotValue c (fld w 0 4) s + slotValue c (fld w 4 4) s)
    | 2 => sat19 (slotValue c (fld w 0 4) s - slotValue c (fld w 4 4) s)
    | _ => slotValue c (fld w 0 4) s

/-- The reference of a fast path that starts in cycle t (R146, R189). -/
def reference (c t : Nat) (s : State) : Int :=
  let w := s.live c 1
  if (s.cell c).fallback then (s.live c 0x20).toInt
  else
    match refSrc w with
    | 1 => cascadeValue (refIndex w) t s
    | 2 => (BitVec.ofNat 20 (posAngle (refIndex w) t s)).toInt
    | 3 => posSpeed (refIndex w) t s
    | _ => (s.live c 0x11).toInt

/-- The limits in force in Q1.19: upper, lower (R177, R181, R191). -/
def limits (c : Nat) (s : State) : Int × Int :=
  let hi := (s.live c 0x19).toInt
  let lo := (s.live c 0x1A).toInt
  let sc := fun x : Int => if (s.cell c).scaled then roundShift (x * fld (s.live c 0x1D) 0 19) 19 else x
  if hi < lo then (sc hi, sc hi) else (sc hi, sc lo)

/-- The derivative state of this sample (R175): the x of the sample and d. -/
def derivative (c : Nat) (e y : Int) (s : State) : Int × Int :=
  let k := s.cell c
  let x := if tst (s.live c 0x10) 6 then -y else e
  let Δ := if k.fresh then 0 else x - k.x1
  let raw := term Δ (s.live c 0x16) (fld (s.live c 0x17) 0 5)
  (x, sat39 (k.d + roundShift (fld (s.live c 0x18) 0 19 * (raw - k.d)) 19))

/-- The biquad output of this sample (R176); 0 while the section is not in use. -/
def biquad (c : Nat) (e : Int) (s : State) : Int :=
  let k := s.cell c
  if tst (s.live c 0x10) 5 then
    let feed := (s.live c 0x21).toInt * e + (s.live c 0x22).toInt * k.e1 + (s.live c 0x23).toInt * k.e2
    sat39 (roundShift (feed * 2 ^ 12 - (s.live c 0x24).toInt * k.s1 - (s.live c 0x25).toInt * k.s2) 17)
  else 0

/-- The feedforward term (R174). -/
def feedforward (c : Nat) (ref : Int) (s : State) : Int :=
  (s.live c 0x12).toInt * 2 ^ 12 +
    (if tst (s.live c 0x10) 4 then term ref (s.live c 0x13) (fld (s.live c 0x17) 15 5) else 0)

/-- The Almanac term of a fast path at index θ, in Q1.19, with the record of a parity error (R92, R174, R193, R196). -/
def almTerm (c θ : Nat) (s : State) : Int × State :=
  let b := s.activeBank c
  if tst (s.live c 0x30) 9 && !(s.cell c).almInvalid then readBin c b (almReadBin c b θ s) s else (0, s)

/-- The law (R171 to R178): the whole of what the fast path will write, from its y, reference and Almanac term. -/
def law (c t θ : Nat) (job : Option (Nat × Nat)) (y ref a : Int) (s : State) : FastPath :=
  let k := s.cell c
  let e := sat19 (ref - y)
  let dx := derivative c e y s
  let bq := biquad c e s
  let v := feedforward c ref s + term e (s.live c 0x14) (fld (s.live c 0x17) 10 5) + k.is + dx.2 + bq + a * 2 ^ 12
  let lim := limits c s
  let hi := lim.1 * 2 ^ 12
  let lo := lim.2 * 2 ^ 12
  let within := decide (lo ≤ v) && decide (v ≤ hi) && !decide ((s.live c 0x19).toInt < (s.live c 0x1A).toInt)
  { bank := s.activeBank c, start := t, y := y, ref := ref, e := e, u := roundShift (min (max v lo) hi) 12,
    inc := if within && !tst (s.live c 0x10) 3 then some (term e (s.live c 0x15) (fld (s.live c 0x17) 5 5)) else none,
    d := dx.2, s := bq, x := dx.1, theta := θ, inLimit := within, almBad := k.frzAlm, job := job }

/-- A fast path starts in cycle t (R145 to R149), triggered by a forward job of the drive job or by a slot. -/
def fpStart (c t : Nat) (job : Option (Nat × Nat)) (s : State) : State :=
  if !cellRuns c s || (s.cell c).fp.isSome then s
  else
    let θ := almTheta c (s.activeBank c) t s
    let a := almTerm c θ s
    let f := law c t θ job (measured c s) (reference c t s) a.1 s
    a.2.modCell c fun k => { k with fp := some f, newA := false, newB := false }

/-- A slot delivery at cycle t reaches a cell: it starts the fast path if it is its trigger (R144, R145). -/
def cellSlot (c e t : Nat) (s : State) : State :=
  let w := s.live c 0
  if inVector w then s
  else
    let isA := decide (fld w 0 4 = e)
    let isB := decide (fld w 4 4 = e)
    let s := s.modCell c fun k => { k with newA := k.newA || isA, newB := k.newB || isB }
    let fire := match inTrig w with
      | 1 => isB
      | 2 => (isA || isB) && (s.cell c).newA && (s.cell c).newB
      | _ => isA
    if fire then fpStart c t none s else s

/-- The law states after a fast path (R174 to R178), and within_seen (R187). The manual leaves open in which cycle a path sets
within_seen and whether its e enters a history that a swap has cleared while it was in flight: both come about as it
completes (log 92). -/
def fpStates (c : Nat) (f : FastPath) (s : State) : State :=
  let b := s.activeBank c
  let keep := decide (f.bank ≠ b) && decide (tst (s.param c b 0x10) 6 ≠ tst (s.param c f.bank 0x10) 6)
  let lim := (s.param c f.bank 0x1E).toNat
  s.modCell c fun k =>
    { k with fp := none, ran := true, withinSeen := k.withinSeen || decide (f.e.natAbs ≤ lim),
             is := match f.inc with | some i => sat39 (k.is + i) | none => k.is
             d := f.d, x1 := f.x, fresh := k.fresh && keep, e2 := k.e1, e1 := f.e, s2 := k.s1, s1 := f.s }

/-- CELL_OUT as the comparators see it at cycle t (R241). -/
def outAt (c t : Nat) (s : State) : Int := ((s.cell c).outs.filter (·.1 ≤ t)).foldl (fun _ d => d.2) (s.cell c).outSeen

/-- The registers a fast path writes (R150): a bus read in the same cycle still sees the old values; the output reaches the
comparators 2 cycles on (R241). -/
def fpRegisters (c : Nat) (f : FastPath) (s : State) : State :=
  let b := cellBase c
  let now := s.mt
  let seen := outAt c now s
  let s := s.modCell c fun k =>
    { k with outSeen := seen, outs := (k.outs.filter fun d => decide (now < d.1)) ++ [(now + 2, f.u)] }
  let s := (((s.keepBefore (b + 0xD)).keepBefore (b + 0xE)).keepBefore (b + 0xF)).keepBefore (b + 0x10)
  (((s.wr (b + 0xD) (ofI f.y)).wr (b + 0xE) (ofI f.ref)).wr (b + 0xF) (ofI f.e)).wr (b + 0x10) (ofI f.u)

/-- A cascade value is sent, delivered 8 cycles on (R14); values already delivered are folded into the held one. -/
def sendCascade (c : Nat) (u : Int) (s : State) : State :=
  let now := s.mt
  let v := cascadeValue c now s
  s.modCell c fun k => { k with sent := v, sends := (k.sends.filter fun d => decide (now < d.1)) ++ [(now + 8, u)] }

/-- The output goes to its destination (R150, R154), as the path's own bank has it (R149): a command to the drive whose
forward job triggered the path. -/
def fpOutput (c : Nat) (f : FastPath) (s : State) : State :=
  match outKind c f.bank s with
  | 0 => (usedChannels c f.bank s).foldl (fun t w => if s.owner 1 w = c + 1 then sendDuty w (ofI f.u) t else t) s
  | 1 => s
  | 2 => match f.job with | some (q, _) => dCommand q c f.u s | none => s
  | _ => match f.job with | some (_, d) => qCommand c d f.u s | none => s

/-- The learning update of a fast path that is not frozen, on the path's own bank (R200 to R202), which has not become invalid
since the path started (R193). -/
def fpLearn (c : Nat) (f : FastPath) (s : State) : State :=
  let bad := f.almBad || almBad c f.bank s || (decide (f.bank = s.activeBank c) && (s.cell c).frzAlm)
  if learningOn c f.bank bad s && f.inLimit then almUpdate c f.bank f.theta f.e s else s

/-- A fast path completes (R150). -/
def fpComplete (c : Nat) (s : State) : State :=
  match (s.cell c).fp with
  | none => s
  | some f => fpLearn c f (fpOutput c f (sendCascade c f.u (fpRegisters c f (fpStates c f s))))

/-- A forward result triggers the fast path of a cell whose active input word selects the vector unit (R145). -/
def vectorTrigger (c : Nat) (job : Nat × Nat) (s : State) : State :=
  if inVector (s.live c 0) then fpStart c s.mt (some job) s else s

/-- The forward job ends: i_d and i_q are delivered and trigger both fast paths (R153). A job that has been replaced while it
ran delivers nothing and triggers nothing: of it the manual says only that it produces no duties (R156, log 93). -/
def forwardEnd (t : Nat) (s : State) : State :=
  match (s.vec t).fwd with
  | none => s
  | some j =>
    let s := s.modVec t fun v => { v with fwd := none }
    if j.dead then s
    else
      let s := s.wr (0x77206 + 8 * j.q) (ofI j.x1)
      let s := (s.modCell j.d fun k => { k with vecY := j.x0 }).modCell j.q fun k => { k with vecY := j.x1 }
      vectorTrigger (max j.d j.q) (j.q, j.d) (vectorTrigger (min j.d j.q) (j.q, j.d) s)

/-- The fast-path length L of the active bank (R148). -/
def pathLength (c : Nat) (s : State) : Nat :=
  8 + (if refSrc (s.live c 1) = 0 then 0 else 2) + (if tst (s.live c 0x30) 9 then 4 else 0)

/-- FAST_PATH_COMPLETE: a cell's fast path ends (R150). -/
def execFastPathComplete (c : CellId) (s : State) : Result :=
  happens (s.fabric && (s.cell c.1).fp.isSome) (fpComplete c.1) s

/-- FORWARD_JOB_END: the forward stage's job ends (R153). -/
def execForwardJobEnd (t : Turret) (s : State) : Result := happens s.fabric (forwardEnd t.1) s

end Sys2Proof.Machine
end

