-- ==== Sys2Proof/Machine/Prot.lean ====
section
/-! DEFINITION. Comparators and the protection set (R240 to R248, R250). -/
namespace Sys2Proof.Machine

/-- Configuration word of protection entry i (R250). -/
def protCfg (i : Nat) (s : State) : Word := s.rd (0x72810 + 8 * i)

/-- A cell drives a channel named by entry i. -/
def drivesMasked (i c : Nat) (s : State) : Bool := (drivenChannels c s).any fun w => protMask i w s

/-- A start of a trip (R244): its count, the fault counter of each named channel, one Logbook record. -/
def tripStart (i : Nat) (s : State) : State :=
  let s := s.bump (0x72815 + 8 * i)
  let s := forAll 32 (fun w t => if protMask i w t then ctrAdd (3 * w + 2) 1 t else t) s
  logEvent 1 i 0 [s.rd (0x72811 + 8 * i), s.rd (0x72812 + 8 * i)] s

/-- The bit of a trip, and the first entry with its MT if no bit was set (R244 step 2). -/
def tripFlag (i t : Nat) (s : State) : State :=
  let first := decide (s.rf 0x72801 0 16 = 0)
  let s := s.wb 0x72801 i true
  if first then (s.wr 0x72802 (BitVec.ofNat 20 i)).wrWide 0x72803 3 t else s

/-- The cells that drive a named channel stop with their trip event (R244 step 3). -/
def tripStop (i : Nat) (s : State) : State :=
  forAll 32 (fun c t =>
    if stoppable c s && drivesMasked i c s then cellEvent c 6 (cellStop c 3 t) else t) s

/-- Entry i trips in this cycle (R244); start says that it did not trip in the cycle before. -/
def trip (i : Nat) (start : Bool) (s : State) : State :=
  withFreeze (fun s =>
    let t := s.mt
    let s := forAll 32 (fun w t => if protMask i w t then safeRequest w t else t) s
    let s := tripStop i (tripFlag i t s)
    let s := forAll 32 (fun c t => t.modCell c fun k => { k with frzTrip := true }) s
    if start then tripStart i s else s) s

/-- A comparator takes part in functions: enabled, owned, the reference settled (R230, R240). -/
def cmpWorks (n : Nat) (s : State) : Bool :=
  s.rb (cmpReg n) 19 && decide (s.owner 3 n ≠ 0) && s.dom 3 && s.rb 0x76001 19

/-- The comparator is being blanked: its channel must run for that (R242). -/
def cmpBlanked (n : Nat) (s : State) : Bool := (s.comp n).blanking && s.chanRuns (s.rf (cmpReg n) 7 5)

/-- Comparator n takes part in no function and is not active (R230, R240). -/
def cmpOff (n : Nat) (s : State) : State :=
  (s.wb (cmpReg n + 3) 19 false).modComp n fun c => { c with blanking := false }

/-- The comparator is active, as its STATUS shows. -/
def cmpActive (n : Nat) (s : State) : Bool := s.rb (cmpReg n + 3) 19

/-- The base threshold (R241): a cell's output counts 2 cycles after its write to CELL_OUT. -/
def cmpBase (n : Nat) (s : State) : Nat :=
  let cfg := s.rd (cmpReg n)
  if tst cfg 5 then (clampI 0 4095 (outAt (8 * (n / 16) + fld cfg 2 3) s.mt s / 2 ^ 7)).toNat
  else s.rf (cmpReg n + 1) 0 12

/-- The effective threshold (R241): the ramp falls while s of the channel is high. -/
def cmpThreshold (n : Nat) (s : State) : Nat :=
  let cfg := s.rd (cmpReg n)
  let c := s.chan (fld cfg 7 5)
  if tst cfg 6 && s.chanRuns (fld cfg 7 5) && c.s then
    cmpBase n s - s.rf (cmpReg n + 2) 0 12 * (s.mt - c.sUp / 32) / 256
  else cmpBase n s

/-- Hysteresis in microvolts (R249). -/
def cmpHyst (n : Nat) (s : State) : Nat :=
  match s.rf (cmpReg n) 12 2 with
  | 0 => 0
  | 1 => 5000
  | 2 => 10000
  | _ => 20000

/-- The comparator's state for a ball at a level in microvolts (R240); 1.8 V / 4096 to a threshold step. -/
def cmpNext (n level : Nat) (s : State) : Bool :=
  let thr := cmpThreshold n s * 1800000
  let h := cmpHyst n s * 4096
  let v := level * 4096
  if s.rb (cmpReg n) 14 then
    if cmpActive n s then decide (v ≤ thr + h) else decide (v < thr)
  else if cmpActive n s then decide (thr ≤ v + h)
  else decide (thr < v)

/-- A comparator fires (R242): its flag, the cmp event of its owner where that is a cell of its turret (R13), and the channels
that name it. -/
def cmpFire (n : Nat) (s : State) : State :=
  let s := s.wb (cmpReg n + 3) 18 true
  let o := s.owner 3 n
  let s := if 1 ≤ o ∧ o ≤ 0x20 ∧ n / 16 = (o - 1) / 8 then cellEvent (o - 1) 3 s else s
  forAll 32 (fun w t => cmpOnChan w n t) s

/-- Entry i of kind 0 meets its trip condition (R243). -/
def protActive (i : Nat) (s : State) : Bool :=
  let n := fld (protCfg i s) 12 6
  tst (protCfg i s) 19 && !tst (protCfg i s) 18 && cmpWorks n s && cmpActive n s && !cmpBlanked n s

/-- Entry i trips 5 cycles on for the present cycle (R243 to R245), once for the cycle. -/
def tripSoon (i : Nat) (s : State) : State :=
  let start := !vget false s.protWas i
  let t := s.mt + 5
  if s.sched.contains (t, .trip i false) || s.sched.contains (t, .trip i true) then s
  else (s.setProtWas (vset s.protWas i true)).at_ t (.trip i start)

/-- Every entry of kind 0 that meets its condition in this cycle trips (R243). -/
def protScan (s : State) : State := forAll 16 (fun i t => if protActive i t then tripSoon i t else t) s

/-- The scan that ends each cycle: an entry that does not meet its condition has stopped tripping (R243). -/
def protTick (s : State) : State :=
  let s := protScan s
  s.setProtWas (Vector.ofFn fun i : Fin 16 => protActive i.1 s)

/-- The comparator's state changes (R240, R242, R243). -/
def cmpChange (n level : Nat) (s : State) : State :=
  let now := cmpNext n level s
  if now = cmpActive n s then s
  else
    let s := s.wb (cmpReg n + 3) 19 now
    let s := if now && !cmpBlanked n s then cmpFire n s else s
    protScan s

/-- A blanking interval ends (R242): a comparator still active fires. -/
def blankingEnd (n : Nat) (s : State) : State :=
  let s := s.modComp n fun c => { c with blanking := false }
  if cmpWorks n s && cmpActive n s then protScan (cmpFire n s) else s

/-- The protection set's writes come from Helm0 alone while it is not locked (R247, R250). -/
def protOpen (q : Nat) (s : State) : Bool := isHelm0 q && !s.rb 0x72800 0

/-- An enabled kind-1 entry may name the slot: its sequencer entry is set up to fire (R247). -/
def slotReady (n : Nat) (s : State) : Bool :=
  s.rb (adcBase (n / 16)) 8 && s.rb (seqReg n) 19 && decide (s.rf (seqReg n + 1) 17 3 ≠ 7)

/-- A write of en = 1 that is discarded (R247): another owner holds the resource, or the slot is not set up to fire. -/
def protEnRefused (v : Word) (s : State) : Bool :=
  let n := fld v 12 6
  let o := s.owner (if tst v 18 then 2 else 3) n
  tst v 19 && ((decide (o ≠ 0) && decide (o ≠ 0x24)) || (tst v 18 && !slotReady n s))

/-- Channels that the protection set holds go to their safe state (R248). -/
def protSafe (s : State) : State := forAll 32 (fun w s => if protHolds w s then safeRequest w s else s) s

/-- A write to PROT_ENTi_CFG (R247): en = 1 claims the entry's resource for the protection set, and its channels run only
while the converters' reference is ready (R248). -/
def protCfgWrite (q i : Nat) (v : Word) (s : State) : State :=
  let a := 0x72810 + 8 * i
  let n := fld v 12 6
  let cls := if tst v 18 then 2 else 3
  if !protOpen q s then s
  else if !tst v 19 then (plainWrite a v s).setProtWas (vset s.protWas i false)
  else if protEnRefused v s then s.wb 0x72801 16 true
  else protSafe (protScan (chansRecheck s ((plainWrite a v s).setOwner cls n 0x24)))

/-- A write to PROT_LOCK: the first write after a cold reset sets the field (R6, R247). -/
def protLockWrite (q : Nat) (v : Word) (s : State) : State :=
  if isHelm0 q && !s.boot.rwsLock then
    (s.wb 0x72800 0 (tst v 0)).mapBoot fun b => { b with rwsLock := true }
  else s

/-- A write to PROT_TRIP by Helm0 clears bits, but for those of entries that trip in the same cycle (R7, R246). -/
def protTripWrite (q : Nat) (v : Word) (s : State) : State := if isHelm0 q then plainWrite 0x72801 v s else s

/-- A write to the PROT block (R247, R250). -/
def protWrite (q a : Nat) (v : Word) (s : State) : State :=
  if a = 0x72800 then protLockWrite q v s
  else if a = 0x72801 then protTripWrite q v s
  else if 0x72810 ≤ a ∧ a < 0x72890 then
    if a % 8 = 0 then protCfgWrite q ((a - 0x72810) / 8) v s
    else if protOpen q s then protSafe (plainWrite a v s)
    else s
  else s

/-- COMPARATOR_CHANGE: the ball of comparator k stands at a level in microvolts; its state changes where that crosses its
threshold (R240). -/
def execComparatorChange (k : Fin 64) (level : Nat) (s : State) : Result :=
  happens (s.fabric && cmpWorks k.1 s) (cmpChange k.1 level) s

/-- A channel has stopped, and with it a comparator's blanking (R242): a comparator still active fires. -/
def unblank (n : Nat) (s : State) : State := if cmpWorks n s && cmpActive n s && !cmpBlanked n s then cmpFire n s else s

/-- BLANKING_END: a comparator's blanking interval ends (R242). -/
def execBlankingEnd (k : Fin 64) (s : State) : Result :=
  happens (s.fabric && (s.comp k.1).blanking) (blankingEnd k.1) s

/-- PROT_TRIP_CLEAR: a write to PROT_TRIP (R246). -/
def execProtTripClear (q : Req) (v : Word) (s : State) : Result :=
  .next (withAccess q.toNat 0x72801 true (protTripWrite q.toNat v) s)

/-- PROT_ENTRY_ENABLE: a write to PROT_ENTi_CFG (R247). -/
def execProtEntryEnable (q : Req) (i : Fin 16) (v : Word) (s : State) : Result :=
  .next (withAccess q.toNat (0x72810 + 8 * i.1) true (protCfgWrite q.toNat i.1 v) s)

/-- PROT_LOCK: a write to PROT_LOCK (R247). -/
def execProtLock (q : Req) (v : Word) (s : State) : Result :=
  .next (withAccess q.toNat 0x72800 true (protLockWrite q.toNat v) s)

end Sys2Proof.Machine
end

