-- ==== Sys2Proof/Machine/Adc.lean ====
section
/-! DEFINITION. The sample sequencers, converters and result slots (R229 to R239), the ripple detectors (R197 to R199),
metering (R290) and the writes of ADC registers. -/
namespace Sys2Proof.Machine

/-- The reference has settled (R230); it reads the same in every turret. -/
def refOk (s : State) : Bool := s.dom 3 && s.rb 0x76001 19

/-- ADC_STATUSt.cfg_err is set. -/
def adcCfgErr (t : Nat) (s : State) : State := s.wb (adcBase t + 1) 16 true

/-- The pair of a turret's input is differential (R229), as triggers of this cycle see it (R239). -/
def differential (t ain : Nat) (s : State) : Bool := tst (s.before (adcBase t)) (ain / 2)

/-- Entry i may request: the sequencer and the entry enabled, the slot owned, the reference settled (R230, R233). A write acts
on triggers of later cycles (R239). -/
def entryOpen (i : Nat) (s : State) : Bool :=
  refOk s && tst (s.before (adcBase (i / 16))) 8 && tst (s.before (seqReg i)) 19 && decide (s.owner 2 i ≠ 0)

/-- A request is dropped (R235). -/
def dropRequest (t : Nat) (s : State) : State := (s.wb (adcBase t + 1) 17 true).bump (adcBase t + 3)

/-- The order of waiting requests: trigger cycle, then the protection set's entries, then entry number (R235). -/
def reqBefore (a b : ConvReq) : Bool :=
  decide (a.at_ < b.at_) ||
    (decide (a.at_ = b.at_) && ((a.prot && !b.prot) || (a.prot = b.prot && decide (a.entry < b.entry))))

/-- Put a request among those that wait. -/
def insertReq (r : ConvReq) : List ConvReq → List ConvReq
  | [] => [r]
  | x :: q => if reqBefore r x then r :: x :: q else x :: insertReq r q

/-- A request of entry i with its trigger cycle joins its converter's queue of four, or is dropped (R235). -/
def queueRequest (i at_ : Nat) (s : State) : State :=
  let t := i / 16
  let cfg := s.before (seqReg i)
  let k := 4 * t + fld cfg 17 2
  let r : ConvReq :=
    { entry := i, ain := fld cfg 13 4, diff := differential t (fld cfg 13 4) s,
      os := fld cfg 10 3, prot := decide (s.owner 2 i = 0x24), at_ := at_ }
  if (List.range 4).any fun j => (s.conv (4 * t + j)).waiting.any (·.entry = i) then dropRequest t s
  else
    let q := insertReq r (s.conv k).waiting
    let s := s.modConv k fun c => { c with waiting := q.take 4 }
    if 4 < q.length then dropRequest t s else s

/-- Entry i is triggered: an odd input on a differential pair does not fire (R233). -/
def requestBurst (i at_ : Nat) (s : State) : State :=
  let t := i / 16
  let ain := fld (s.before (seqReg i)) 13 4
  if differential t ain s && decide (ain % 2 = 1) then adcCfgErr t s else queueRequest i at_ s

/-- The trigger cycle of a fixed trigger has come. -/
def fixedDue (now : Nat) (f : Nat × Nat × Nat) : Bool := decide (f.2.2 ≤ now)

/-- A fixed trigger comes: it fires only if its channel runs, and not in the wait of R208, and if the entry still selects
it (R234). -/
def fixedTrigger (i : Nat) (f : Nat × Nat × Nat) (s : State) : State :=
  let w := s.before (seqReg i + 1)
  if trigKind w = f.1 ∧ fld w 12 5 = f.2.1 ∧ s.chanRuns f.2.1 = true ∧ (s.chan f.2.1).wait = false ∧ entryOpen i s = true then
    requestBurst i f.2.2 s
  else s

/-- A trigger cycle of entry i arrives: its interval, or the first fixed trigger that is due, which is spent whether or
not the entry requests (R234). -/
def adcTrigger (i : Nat) (s : State) : State :=
  let w := s.before (seqReg i + 1)
  if trigKind w = 5 then
    if s.mt % ((fld w 0 12 + 1) * 16) = 0 ∧ entryOpen i s = true then requestBurst i s.mt s else s
  else
    match (s.entryS i).fixed.find? (fixedDue s.mt) with
    | none => s
    | some f =>
      fixedTrigger i f (s.modEntryS i fun e => { e with fixed := e.fixed.eraseP (fixedDue s.mt) })

/-- A write of ADC_SWTRIGt triggers software entries in the next cycle, each after its delay (R234). -/
def softTrigger (t : Nat) (v : Word) (s : State) : State :=
  forAll 16 (fun e s =>
    let i := 16 * t + e
    if tst v e then s.at_ (s.mt + 1 + s.rf (seqReg i + 1) 0 12) (.software i) else s) s

/-- The trigger cycle of a software trigger comes; whether it fires is tested now (R234). -/
def softwareDue (i : Nat) (s : State) : State :=
  if trigKind (s.rd (seqReg i + 1)) = 6 ∧ entryOpen i s = true then requestBurst i s.mt s else s

/-- The converter may take an instant now, at least gap cycles after the latest (R231). -/
def instantAllowed (c : Conv) (gap now : Nat) : Bool :=
  (match c.instants.getLast? with | some x => decide (x + gap ≤ now) | none => true) &&
    decide ((c.instants.filter fun x => decide (now < x + 768)).length < 25)

/-- A sampling instant is taken. -/
def takeInstant (k : Nat) (r : ConvReq) (s : State) : State :=
  let now := s.mt
  s.modConv k fun c =>
    { c with cur := some r, busy := true,
             instants := (c.instants.filter fun x => decide (now < x + 768)) ++ [now] }

/-- The first instant of a request, late where it follows its trigger cycle (R235). -/
def firstInstant (k : Nat) (r : ConvReq) (s : State) : State :=
  let t := k / 4
  let s := (takeInstant k r s).modConv k fun c => { c with waiting := c.waiting.tail, codes := [] }
  if r.at_ < s.mt then (s.wb (adcBase t + 1) 18 true).bump (adcBase t + 2) else s

/-- A converter takes its next sampling instant where R231, R235 and R236 permit one. -/
def samplingInstant (k : Nat) (s : State) : State :=
  let c := s.conv k
  if c.busy then s
  else
    match c.cur, c.waiting with
    | some r, _ => if instantAllowed c 31 s.mt then takeInstant k r s else s
    | none, r :: _ =>
      if decide (r.at_ ≤ s.mt) && instantAllowed c 30 s.mt then firstInstant k r s else s
    | none, [] => s

/-- The slot value of a burst's sum of n codes (R237). -/
def slotResult (i : Nat) (diff : Bool) (sum : Int) (n : Nat) (s : State) : Int :=
  let raw := ofI (roundDiv (sum * (if diff then 16 else 8)) n)
  sat19 (roundShift ((raw.toInt - (s.rd (seqReg i + 2)).toInt) * (s.rd (seqReg i + 3)).toInt) 12)

/-- A slot's delivery trips the entries of kind 1 whose limits it lies outside; each such delivery is a start (R243). -/
def slotTrips (i : Nat) (v : Int) (s : State) : State :=
  forAll 16 (fun p s =>
    let cfg := protCfg p s
    let a := 0x72810 + 8 * p
    if tst cfg 19 && tst cfg 18 && decide (fld cfg 12 6 = i) &&
        (decide ((s.rd (a + 3)).toInt < v) || decide (v < (s.rd (a + 4)).toInt)) then trip p true s
    else s) s

/-- The delivery reaches the cells of the turret and their drives, in ascending order (R144, R153); a valid drive needs no
running cell (R152). -/
def slotCells (t e at_ : Nat) (s : State) : State :=
  forAll 8 (fun j s =>
    let c := 8 * t + j
    let s := cellSlot c e at_ s
    if driveValid c s then driveSlot c e at_ s else s) s

/-- One path of a cell takes a delivery of its current slot (R290): n is the number of its charge counter. The energy
accumulator keeps the 83 bits that its 40-bit counter needs. -/
def meterPath (n : Nat) (i v : Int) (dt : Nat) (q e : Int) (s : State) : (Int × Int) × State :=
  let q' := (q + i * dt) % 2 ^ 64
  let e' := (e + v * i * dt) % 2 ^ 83
  ((q', e'), (s.setCtr n ((q' / 2 ^ 24).toNat % 2 ^ 40)).setCtr (n + 1) ((e' / 2 ^ 43).toNat % 2 ^ 40))

/-- The input path of cell n meters a delivery of slot e of its turret (R290). -/
def meterIn (n e dt : Nat) (s : State) : State :=
  let w := s.rd (0x74020 + n)
  let slot := fun x => (s.rd (adcBase (n / 8) + 0xC0 + x)).toInt
  if tst w 19 && decide (fld w 11 4 = e) then
    let r := meterPath (96 + 5 * n) (slot e) (slot (fld w 15 4)) dt (s.cell n).qIn (s.cell n).eIn s
    r.2.modCell n fun k => { k with qIn := r.1.1, eIn := r.1.2 }
  else s

/-- The output path of cell n meters a delivery of slot e of its turret (R290). -/
def meterOut (n e dt : Nat) (s : State) : State :=
  let w := s.rd (0x74020 + n)
  let slot := fun x => (s.rd (adcBase (n / 8) + 0xC0 + x)).toInt
  if tst w 19 && decide (fld w 3 4 = e) then
    let r := meterPath (98 + 5 * n) (slot e) (slot (fld w 7 4)) dt (s.cell n).qOut (s.cell n).eOut s
    r.2.modCell n fun k => { k with qOut := r.1.1, eOut := r.1.2 }
  else s

/-- The cycles since a slot's previous delivery, as metering takes them (R290). -/
def slotGap (i t : Nat) (s : State) : Nat :=
  match (s.entryS i).last with
  | some l => if t - l > 2 ^ 20 then 0 else t - l
  | none => 0

/-- Metering of a delivery (R290). -/
def slotMeters (i t : Nat) (s : State) : State :=
  let dt := slotGap i t s
  let s := forAll 8 (fun j s =>
    meterOut (8 * (i / 16) + j) (i % 16) dt (meterIn (8 * (i / 16) + j) (i % 16) dt s)) s
  s.modEntryS i fun e => { e with last := some t }

/-- A detector's lock is lost (R198). -/
def rippleLost (m : Nat) (s : State) : State :=
  let a := 0x76E08 + 16 * m
  if s.rb a 19 then (s.wb a 19 false).wb a 18 true else s

/-- P of a full list of samples (R197 step 4). -/
def ripplePeriod (samples : List Nat) : Nat := (roundDiv (samples.sum : Nat) (max 1 samples.length)).toNat

/-- The phase correction of a valid crossing (R197 step 5). -/
def phaseCorrect (φ pg : Nat) : Nat :=
  let x : Int := if φ < 2 ^ 39 then φ else (φ : Int) - 2 ^ 40
  ((x - x / 2 ^ pg) % 2 ^ 40).toNat

/-- A valid crossing at cycle t with period sample p (R197 steps 4 and 5, R198): lock sets once the latest 2^avg samples, valid
and consecutive, all lie within P/64 of P. As many samples are kept as the largest avg needs. -/
def validCrossing (m t p : Nat) (s : State) : State :=
  let a := 0x76E00 + 16 * m
  let ctl := s.rd a
  let n := 2 ^ fld ctl 8 3
  let all := (s.ripple m).samples ++ [p]
  let kept := all.drop (all.length - 128)
  let samples := kept.drop (kept.length - n)
  let full := decide (samples.length = n)
  let P := ripplePeriod samples
  let near := full && samples.all fun x => decide ((x - P + (P - x)) * 64 ≤ P)
  let φ := phaseCorrect (phiAt m t s) (fld ctl 5 3)
  let s := if full then (s.wrWide (a + 6) 2 P).hwWide (a + 4) 2 (roundDiv (2 ^ 40) (max 1 P)).toNat else s
  let back := rippleInc m s * (t - s.mt) % 2 ^ 40
  let good := (s.ripple m).good + 1
  let s := s.modRipple m fun r =>
    { r with samples := kept, good := min good 128, bad := 0, phi := (φ + 2 ^ 40 - back) % 2 ^ 40 }
  if near && decide (n ≤ good) then s.wb (a + 8) 19 true else s

/-- A crossing with an invalid sample (R198). -/
def invalidCrossing (m : Nat) (s : State) : State :=
  let bad := (s.ripple m).bad + 1
  let s := s.modRipple m fun r => { r with good := 0, bad := min bad 4 }
  if 4 ≤ bad then rippleLost m s else s

/-- A crossing at cycle t (R197 step 3). -/
def rippleCrossing (m t : Nat) (s : State) : State :=
  let last := (s.ripple m).last
  let s := s.modRipple m fun r => { r with last := some t }
  match last with
  | none => s
  | some l =>
    let p := t - l
    let a := 0x76E00 + 16 * m
    if (s.rd (a + 2)).toNat * 64 ≤ p ∧ p ≤ (s.rd (a + 3)).toNat * 64 then validCrossing m t p s
    else invalidCrossing m s

/-- A detector in measure mode takes a delivery of its slot (R197 steps 1 and 2). -/
def rippleSample (m t : Nat) (x : Int) (s : State) : State :=
  let ctl := s.rd (0x76E00 + 16 * m)
  let h := (s.ripple m).h + roundShift (x - (s.ripple m).h) (fld ctl 11 3 + 8)
  let y := if tst ctl 4 then -(x - h) else x - h
  let hyst : Int := (s.rf (0x76E01 + 16 * m) 0 19 : Nat)
  let cross := (s.ripple m).armed && decide (hyst ≤ y)
  let s := s.modRipple m fun r => { r with h := h, armed := decide (y ≤ -hyst) || (r.armed && !cross) }
  if cross then rippleCrossing m t s else s

/-- The delivery reaches the turret's two ripple detectors (R197). -/
def slotRipples (i t : Nat) (x : Int) (s : State) : State :=
  withFreeze (forAll 2 fun j s =>
    let m := 2 * (i / 16) + j
    let ctl := s.rd (0x76E00 + 16 * m)
    if tst ctl 19 && !tst ctl 18 && decide (fld ctl 14 4 = i % 16) then rippleSample m t x s else s) s

/-- Slot i is delivered: the reference is settled and the slot has an owner (R230, R238). -/
def slotLives (i : Nat) (s : State) : Bool := refOk s && decide (s.owner 2 i ≠ 0)

/-- The register of result slot i takes a value (R237). -/
def slotWrite (i : Nat) (v : Int) (s : State) : State := s.wr (adcBase (i / 16) + 0xC0 + i % 16) (ofI v)

/-- A slot value is delivered in this cycle, t (R237), where its slot still lives: to its register, the protection set, the
cells, the ripple detectors and the meters. -/
def deliverSlot (i t : Nat) (v : Int) (s : State) : State :=
  if slotLives i s then
    slotMeters i t (slotRipples i t v (slotCells (i / 16) (i % 16) t (slotTrips i v (slotWrite i v s))))
  else s

/-- A code of a conversion, held to its range (R232). -/
def codeOf (diff : Bool) (code : Int) : Int := if diff then clampI (-32768) 32767 code else clampI 0 65535 code

/-- A code at either end of its range (R232). -/
def overrange (diff : Bool) (code : Int) : Bool :=
  if diff then decide (code = -32768) || decide (code = 32767) else decide (code = 0) || decide (code = 65535)

/-- A burst is complete: its slot value is formed now and delivered 2 cycles on (R237). -/
def burstEnd (k : Nat) (r : ConvReq) (codes : List Int) (s : State) : State :=
  let v := slotResult r.entry r.diff codes.sum (2 ^ r.os) s
  let s := s.modConv k fun c => { c with cur := none, codes := [] }
  if slotLives r.entry s then s.at_ (s.mt + 2) (.slot r.entry v) else s

/-- A conversion ends with a code (R231, R232, R237). -/
def conversionEnd (k : Nat) (code : Int) (s : State) : State :=
  match (s.conv k).cur with
  | none => s
  | some r =>
    let x := codeOf r.diff code
    let codes := (s.conv k).codes ++ [x]
    let s := s.modConv k fun c => { c with busy := false, codes := codes }
    let s := if overrange r.diff x then ctrAdd (256 + 16 * (k / 4) + r.ain) 1 s else s
    if codes.length = 2 ^ r.os then burstEnd k r codes s else s

/-- No crossing for 2 × PMAX × 64 cycles ends a detector's lock (R198). -/
def rippleTimedOut (m : Nat) (s : State) : Bool :=
  let a := 0x76E00 + 16 * m
  s.rb a 19 && !s.rb a 18 && s.rb (a + 8) 19 &&
    (match (s.ripple m).last with
     | some l => decide (l + 2 * (s.rd (a + 3)).toNat * 64 ≤ s.mt)
     | none => false)

/-- A write to ADC_RDm_CTRL (R197, R198): enabling starts the phase at 0 with INC 0; a fixed detector is locked while it
is enabled, and a lock that ends is lost. Enabling also clears the mean, the armed state and the samples, and a change from
fixed to measure mode keeps them: the manual names the phase and INC alone (log 94). That such a change, and disabling, end
lock at once and set lost is the model's choice too, since R198 names other causes alone (log 94). -/
def rippleCtrlWrite (m : Nat) (v : Word) (s : State) : State :=
  let a := 0x76E00 + 16 * m
  let on := s.rb a 19
  let was := s.rb a 18
  let s := plainWrite a v s
  let s :=
    if tst v 19 && !on then
      ((s.wr (a + 4) 0).wr (a + 5) 0).modRipple m fun _ =>
        { h := 0, armed := false, last := none, samples := [], good := 0, bad := 0, phi := 0 }
    else s
  if tst v 19 then
    if tst v 18 then s.wb (a + 8) 19 true
    else if !on || was then rippleLost m s
    else s
  else rippleLost m s

/-- The protection set holds the sequencer settings of turret t after its lock (R247). -/
def turretHeld (t : Nat) (s : State) : List Nat :=
  if s.rb 0x72800 0 then
    ((List.range 16).filter fun p =>
      let cfg := protCfg p s
      tst cfg 19 && tst cfg 18 && decide (fld cfg 12 6 / 16 = t)).map fun p => s.rf (seqReg (fld (protCfg p s) 12 6)) 13 4
  else []

/-- A write to ADC_CTRLt (R247): held bits keep their values and set cfg_err. -/
def adcCtrlWrite (t : Nat) (v : Word) (s : State) : State :=
  let a := adcBase t
  let held := turretHeld t s
  let old := s.rd a
  let keepEn := !held.isEmpty && tst old 8 && !tst v 8
  let pairs := (List.range 8).filter fun p => held.any (· / 2 = p) && tst old p != tst v p
  let v' := pairs.foldl (fun w p => putBit w p (tst old p)) (if keepEn then putBit v 8 true else v)
  let s := plainWrite a v' (s.keepBefore a)
  if keepEn || !pairs.isEmpty then adcCfgErr t s else s

/-- A write to an entry's or a comparator's registers is taken (R247): a resource of the protection set takes Helm0's
writes until the lock and none after it. -/
def adcOpen (q cls n : Nat) (s : State) : Bool :=
  decide (s.owner cls n ≠ 0x24) || (isHelm0 q && !s.rb 0x72800 0)

/-- A write to an entry's registers: a reserved value acts as the reset value (R239). The reserved trigger kind stays in TRIG,
where R247 tests it (log 95). An entry enabled without its slot is a conflict (R99). -/
def seqCfgWrite (i a : Nat) (v : Word) (s : State) : State :=
  let cfg := decide (a = seqReg i)
  let bad := if cfg then decide (5 ≤ fld v 10 3) else decide (a = seqReg i + 1) && decide (fld v 17 3 = 7)
  let v' := if bad && cfg then putFld v 10 3 0 else v
  let s := if cfg && tst v 19 && !s.rb a 19 then needOwner 2 i s else s
  let s := plainWrite a v' (s.keepBefore a)
  if bad then adcCfgErr (i / 16) s else s

/-- A write to an ADC register (R199, R239, R247, R249). -/
def adcWrite (q a : Nat) (v : Word) (s : State) : State :=
  let t := (a - 0x76000) / 0x100
  let o := a % 0x100
  if !isSystem q then s
  else if 0x76E00 ≤ a ∧ a < 0x76E80 then
    if a % 16 = 0 then withFreeze (rippleCtrlWrite ((a - 0x76E00) / 16) v) s else plainWrite a v s
  else if 4 ≤ t then s
  else if o = 0 then adcCtrlWrite t v s
  else if o = 4 then softTrigger t v s
  else if 0x40 ≤ o ∧ o < 0x80 then
    let i := 16 * t + (o - 0x40) / 4
    if adcOpen q 2 i s then seqCfgWrite i a v s else s
  else if 0x80 ≤ o ∧ o < 0xC0 then
    let n := 16 * t + (o - 0x80) / 4
    if adcOpen q 3 n s then
      let s := if a = cmpReg n ∧ tst v 19 = true ∧ s.rb a 19 = false then needOwner 3 n s else s
      let s := plainWrite a v s
      protScan (if s.rb (cmpReg n) 19 then s else cmpOff n s)
    else s
  else plainWrite a v s

/-- The reference settles (R230). -/
def referenceSettled (s : State) : State := protScan (forAll 4 (fun t s => s.wb (adcBase t + 1) 19 true) s)

/-- ADC_TRIGGER: the trigger cycle of an entry arrives (R234). -/
def execAdcTrigger (t : Turret) (e : Fin 16) (s : State) : Result :=
  happens (s.fabric && s.clocked 3) (adcTrigger (16 * t.1 + e.1)) s

/-- ADC_SOFTWARE_TRIGGER: a write of ADC_SWTRIGt (R234). -/
def execAdcSoftwareTrigger (q : Req) (t : Turret) (v : Word) (s : State) : Result :=
  .next (withAccess q.toNat (adcBase t.1 + 4) true (adcWrite q.toNat (adcBase t.1 + 4) v) s)

/-- SAMPLING_INSTANT: a converter takes a sampling instant (R235, R236). -/
def execSamplingInstant (k : Fin 16) (s : State) : Result := happens (s.fabric && s.clocked 3) (samplingInstant k.1) s

/-- CONVERSION_END: a conversion ends (R231, R237). -/
def execConversionEnd (k : Fin 16) (code : Int) (s : State) : Result :=
  happens (s.fabric && s.clocked 3 && (s.conv k.1).busy) (conversionEnd k.1 code) s

/-- RIPPLE_LOCK_TIMEOUT: a detector has seen no crossing for too long (R198). -/
def execRippleLockTimeout (m : Fin 8) (s : State) : Result :=
  happens (s.fabric && s.clocked 3 && rippleTimedOut m.1 s) (withFreeze (rippleLost m.1)) s

/-- REFERENCE_SETTLED: the reference settles while the ANALOG domain is ready (R230). -/
def execReferenceSettled (s : State) : Result := happens (s.clocked 3 && !refOk s) referenceSettled s

end Sys2Proof.Machine
end

