-- ==== Sys2Proof/Machine/Pos.lean ====
section
/-! DEFINITION. Position interfaces and encoder emulation (R251 to R263). Accepted levels are A, B, Z, U, V, W from bit 0
up. -/
namespace Sys2Proof.Machine

/-- The Hall sector of accepted levels, U the most significant (R254). -/
def hallSector (lv : BitVec 6) : Option Nat :=
  match (lv.getLsbD 3, lv.getLsbD 4, lv.getLsbD 5) with
  | (false, false, true) => some 0
  | (false, true, true) => some 1
  | (false, true, false) => some 2
  | (true, true, false) => some 3
  | (true, false, false) => some 4
  | (true, false, true) => some 5
  | _ => none

/-- STATUS.uvw of accepted levels. -/
def uvwOf (lv : BitVec 6) : Nat := 4 * (lv.getLsbD 3).toNat + 2 * (lv.getLsbD 4).toNat + (lv.getLsbD 5).toNat

/-- The centre of a Hall sector (R254). -/
def sectorCentre (k : Nat) : Nat := (roundDiv ((2 * k + 1) * 2 ^ 20 : Nat) 12).toNat % 2 ^ 20

/-- The raw angle of a count (R256). -/
def countAngle (n : Nat) (s : State) : Nat := (s.posn n).count * 2 ^ 20 / posSteps n s % 2 ^ 20

/-- The speed register takes the speed of cycle t (R258, R259). -/
def keepSpeed (n t : Nat) (s : State) : State := s.wr (posBase n + 9) (ofI (posSpeed n t s))

/-- The speed becomes invalid, and no earlier edge counts (R253, R254, R259). -/
def speedInvalid (n t : Nat) (s : State) : State :=
  let a := posBase n + 0xC
  (((keepSpeed n t s).wb a 19 false).wb a 18 false).modPos n fun p => { p with run := 0, lastEdge := none }

/-- One of the four error flags is set (R261): bit 14 q_err, 13 hall_err, 12 z_err, 11 ssi_err. -/
def posError (n bit : Nat) (s : State) : State := (s.wb (posBase n + 0xC) bit true).bump (posBase n + 0xD)

/-- An error between two edges: the next edge has none before it that counts (R259). -/
def edgeVoid (n : Nat) (s : State) : State := s.modPos n fun p => { p with run := 0 }

/-- The turn count moves with the raw angle (R257): up says that the angle increases. -/
def countTurn (n old new : Nat) (up : Bool) (s : State) : State :=
  let a := posBase n + 0xA
  let t := ofWords [s.rd a, s.rd (a + 1)]
  if up && decide (2 ^ 19 ≤ old) && decide (new < 2 ^ 19) then s.wrWide a 2 ((t + 1) % 2 ^ 40)
  else if !up && decide (old < 2 ^ 19) && decide (2 ^ 19 ≤ new) then s.wrWide a 2 ((t + 2 ^ 40 - 1) % 2 ^ 40)
  else s

/-- An interval ends at cycle now in direction d, with the speed of its step (R258, R259): used where the edge before it
had the same direction and no error lies between, discarded after a change of direction, where the speed of this cycle is
held whether or not it is valid. -/
def edgeInterval (n now : Nat) (d : Bool) (speed : Nat → Bool → Int) (s : State) : State :=
  let a := posBase n
  let p := s.posn n
  let T := sinceEdge n now s
  let s := if p.run = 0 ∨ p.lastDir ≠ d then keepSpeed n now s else s
  let turned := posDir n s != d
  let s := s.modPos n fun p => { p with lastEdge := some now, lastDir := d, run := if p.lastDir = d then 2 else 1 }
  if p.run = 0 then (((s.wb (a + 0xC) 17 d).wb (a + 0xC) 19 false).wb (a + 0xC) 18 turned).modPos n fun p => { p with run := 1 }
  else if p.lastDir = d then
    let s := (s.wr (a + 9) (ofI (sat19 (speed T d)))).wrWide (a + 0xE) 2 T
    (((s.wb (a + 0xC) 17 d).wb (a + 0xC) 19 true).wb (a + 0xC) 18 false).modPos n fun p => { p with period := T }
  else (s.wb (a + 0xC) 17 d).wb (a + 0xC) 18 true

/-- An edge of cycle now takes the raw angle to a new value; up says that the angle increases (R256 to R259). -/
def angleEdge (n now new : Nat) (up : Bool) (speed : Nat → Bool → Int) (s : State) : State :=
  let old := (s.posn n).raw
  let d := if posMode n s = 0 then up else up != s.rb (posBase n) 13
  let s := countTurn n old new up (s.modPos n fun p => { p with raw := new })
  edgeInterval n now d speed s

/-- The decoder counts up when A leads B (R253). -/
def countsUp (was lv : BitVec 6) : Bool :=
  if was.getLsbD 0 != lv.getLsbD 0 then lv.getLsbD 0 != lv.getLsbD 1 else lv.getLsbD 0 == lv.getLsbD 1

/-- A change of A or B (R253). -/
def quadEdge (n now : Nat) (was lv : BitVec 6) (s : State) : State :=
  let da := was.getLsbD 0 != lv.getLsbD 0
  let db := was.getLsbD 1 != lv.getLsbD 1
  if da && db then speedInvalid n now (posError n 14 s)
  else if da || db then
    let up := countsUp was lv != s.rb (posBase n) 13
    let st := posSteps n s
    let s := s.modPos n fun p => { p with count := (if up then p.count + 1 else p.count + st - 1) % st }
    angleEdge n now (countAngle n s) up (fun T d => stepSpeed n T d s) s
  else s

/-- A rising edge of Z (R253). -/
def indexEdge (n : Nat) (was lv : BitVec 6) (s : State) : State :=
  let zm := s.rf (posBase n) 14 2
  if was.getLsbD 2 || !lv.getLsbD 2 || (decide (zm ≠ 1) && decide (zm ≠ 2)) then s
  else
    let p := s.posn n
    let ok := decide (p.count ≤ 1) || decide (p.count + 1 = posSteps n s)
    let s := if p.zSeen && !ok then edgeVoid n (posError n 12 s) else s
    let s := if zm = 1 || !p.zSeen then s.modPos n fun p => { p with count := 0, raw := 0 } else s
    (s.modPos n fun p => { p with zSeen := true }).wb (posBase n + 0xC) 16 true

/-- The Hall state is invalid or skips a sector (R254). -/
def hallError (n t : Nat) (s : State) : State := speedInvalid n t ((posError n 13 s).wb (posBase n + 0xC) 16 false)

/-- A change of the Hall state (R254). -/
def hallEdge (n now : Nat) (was lv : BitVec 6) (s : State) : State :=
  let ok := s.rb (posBase n + 0xC) 16
  match hallSector lv, hallSector was with
  | none, _ => if uvwOf was = uvwOf lv then s else hallError n now s
  | some k, w =>
    if !ok then (s.modPos n fun p => { p with raw := sectorCentre k }).wb (posBase n + 0xC) 16 true
    else
      match w with
      | none => s
      | some j =>
        let at_ := fun i : Nat => (roundDiv (i * 2 ^ 20 : Nat) 6).toNat % 2 ^ 20
        if j = k then s
        else if k = (j + 1) % 6 then angleEdge n now (at_ k) true (fun T d => stepSpeed n T d s) s
        else if j = (k + 1) % 6 then angleEdge n now (at_ j) false (fun T d => stepSpeed n T d s) s
        else hallError n now s

/-- Levels accepted in the edge cycle now act in the cycle after it (R252). -/
def positionEdge (n now : Nat) (lv : BitVec 6) (s : State) : State :=
  let was := (s.posn n).lv
  let s := (s.modPos n fun p => { p with lv := lv }).wf (posBase n + 0xC) 8 3 (uvwOf lv)
  if !posWorks n s then s
  else
    match posMode n s with
    | 0 => indexEdge n was lv (quadEdge n now was lv s)
    | 1 => hallEdge n now was lv s
    | _ => s

/-- Gray code to binary (R255). -/
def grayValue (v : Nat) : Nat := (List.range 20).foldl (fun a k => Nat.xor a (v / 2 ^ (k + 1))) v

/-- b of POS_n_SSI (R261). -/
def ssiBits (n : Nat) (s : State) : Nat := s.rf (posBase n + 4) 14 5

/-- The shortest frame interval (R255). -/
def ssiMinimum (n : Nat) (s : State) : Nat := 2 * (ssiBits n s + 1) * s.rf (posBase n + 4) 6 8 + 64

/-- A frame is due in this cycle (R255). -/
def ssiDue (n : Nat) (s : State) : Bool :=
  let per := (s.rd (posBase n + 5)).toNat
  posWorks n s && decide (posMode n s = 2) && decide (per ≠ 0) && decide (s.mt % per = 0)

/-- A frame starts, is skipped, or cannot start (R255). -/
def ssiStart (n : Nat) (qnb : Bool) (s : State) : State :=
  if (s.rd (posBase n + 5)).toNat < ssiMinimum n s then s.wb (posBase n + 0xC) 15 true
  else if !qnb then edgeVoid n (posError n 11 s)
  else s.modPos n fun p => { p with ssiBusy := some s.mt }

/-- The speed of an SSI frame of step Δ in a direction (R258): the signed quotient is rounded. -/
def ssiSpeed (n : Nat) (Δ : Int) (T : Nat) (up : Bool) (s : State) : Int :=
  roundDiv ((if up then 1 else -1) * (Δ.natAbs * 2 ^ s.rf (posBase n) 8 5 : Nat)) T

/-- A decoded position updates the values (R255 to R259). -/
def ssiValue (n start pos : Nat) (s : State) : State :=
  let raw : Nat := pos * 2 ^ (20 - ssiBits n s) % 2 ^ 20
  let s := s.wb (posBase n + 0xC) 16 true
  match (s.posn n).ssiOld with
  | none => s.modPos n fun p => { p with ssiOld := some raw, raw := raw, lastEdge := some start, run := 0 }
  | some old =>
    let u : Nat := (raw + 2 ^ 20 - old) % 2 ^ 20
    let Δ : Int := if u < 2 ^ 19 then u else (u : Int) - 2 ^ 20
    let up := decide (0 < Δ)
    let d := if Δ = 0 then (s.posn n).lastDir else up != s.rb (posBase n) 13
    let s := s.modPos n fun p => { p with ssiOld := some raw, raw := raw }
    if Δ = 0 then (edgeInterval n start d (fun _ _ => 0) s).wr (posBase n + 9) 0
    else
      let s := countTurn n old raw up s
      edgeInterval n start d (fun T d => ssiSpeed n Δ T d s) s

/-- A frame ends (R255); an interface that has lost its pads takes no position (R251). -/
def ssiEnd (n : Nat) (data : Word) (s : State) : State :=
  match (s.posn n).ssiBusy with
  | none => s
  | some start =>
    let v := data.toNat % 2 ^ ssiBits n s
    let pos := if s.rb (posBase n + 4) 19 then grayValue v % 2 ^ ssiBits n s else v
    let t := s.modPos n fun p => { p with ssiBusy := none }
    if posWorks n s then ssiValue n start pos t else t

/-- The speed timeout comes in cycle t (R258). -/
def speedTimedOut (n t : Nat) (s : State) : Bool :=
  let tmo := fld (s.before (posBase n + 3)) 0 16
  posWorks n s && decide (tmo ≠ 0) && (s.posn n).lastEdge.isSome && decide (tmo * 16384 ≤ sinceEdge n t s)

/-- The speed becomes 0 and invalid (R258), unless an edge has come in the same cycle t. -/
def speedTimeout (n t : Nat) (s : State) : State :=
  let a := posBase n
  if speedTimedOut n t s then ((s.wr (a + 9) 0).wb (a + 0xC) 19 false).wb (a + 0xC) 18 false else s

/-- What a position interface's inputs do once their cycle is over: edges first, so that an edge and the timeout of one cycle
count as the edge (R252, R258). -/
def posEvents (due : List Ev) (s : State) : State :=
  let s := due.foldl (fun t e => match e with | .edge n lv c => withFreeze (positionEdge n c lv) t | _ => t) s
  due.foldl (fun t e => match e with | .slow n c => withFreeze (speedTimeout n c) t | _ => t) s

/-- Enabling an interface (R253 to R255, R260). -/
def posEnable (n : Nat) (s : State) : State :=
  let a := posBase n
  let s := (s.wr (a + 9) 0).wr (a + 0xC) (s.rd (a + 0xC) &&& 0x28700#20)
  let s := s.modPos n fun p =>
    { p with zSeen := false, lastEdge := none, run := 0, ssiOld := none, ssiBusy := none }
  match posMode n s with
  | 0 => (s.modPos n fun p => { p with raw := countAngle n s }).wb (a + 0xC) 16 (decide (s.rf a 14 2 = 0))
  | 1 =>
    match hallSector (s.posn n).lv with
    | some k => (s.modPos n fun p => { p with raw := sectorCentre k }).wb (a + 0xC) 16 true
    | none => hallError n s.mt s
  | _ => s.wb (a + 0xC) 16 false

/-- A write to POS_n_CTRL (R260, R261): while enabled it may change en alone. -/
def posCtrlWrite (n : Nat) (v : Word) (s : State) : State :=
  let a := posBase n
  if s.rb a 19 then
    if fld v 4 15 ≠ s.rf a 4 15 then s.wb (a + 0xC) 15 true
    else if tst v 19 then s
    else (s.wb a 19 false).modPos n fun p => { p with ssiBusy := none }
  else
    let m := if fld v 17 2 = 3 then putFld v 17 2 0 else v
    let m := if fld m 14 2 = 3 then putFld m 14 2 0 else m
    let s := plainWrite a m s
    let s := if tst v 19 then posEnable n (needPads 0x31 (posPads n s) s) else s
    if m = v then s else s.wb (a + 0xC) 15 true

/-- A write to POS_n_TURNS0 (R257). -/
def turnsWrite (n : Nat) (v : Word) (s : State) : State :=
  if v = 0 then (s.wr (posBase n + 0xA) 0).wr (posBase n + 0xB) 0 else s

/-- A write to POS_n_SSI: reserved field values act as the reset values (R261). -/
def ssiWrite (n : Nat) (v : Word) (s : State) : State :=
  let m := if fld v 14 5 = 0 ∨ 20 < fld v 14 5 then putFld v 14 5 0x14 else v
  let m := if fld m 6 8 < 0x1F then putFld m 6 8 0x1F else m
  let s := plainWrite (posBase n + 4) m s
  if m = v then s else s.wb (posBase n + 0xC) 15 true

/-- A write to a register of an interface (R257, R260, R261); LINES, OFS and TMO act one cycle later. -/
def posRegWrite (n o : Nat) (v : Word) (s : State) : State :=
  let a := posBase n
  if o = 0 then posCtrlWrite n v s
  else if o = 1 then
    let s := s.keepBefore (a + 1)
    if fld v 0 16 = 0 then (s.wr (a + 1) 1).wb (a + 0xC) 15 true else plainWrite (a + 1) v s
  else if o = 2 ∨ o = 3 then plainWrite (a + o) v (s.keepBefore (a + o))
  else if o = 4 then ssiWrite n v s
  else if o = 0xA then turnsWrite n v s
  else plainWrite (a + o) v s

/-- Base address of the registers of emulation output m (R263). -/
def emuBase (m : Nat) : Nat := 0x77100 + 0x10 * m

/-- A write to a register of an emulation output (R262, R263). -/
def emuWrite (m o : Nat) (v : Word) (s : State) : State :=
  let a := emuBase m
  let s := if o = 0 ∧ tst v 19 = true ∧ s.rb a 19 = false then needPads 0x32 [82 + 3 * m, 83 + 3 * m, 84 + 3 * m] s else s
  if o = 0 ∧ fld v 17 2 = 3 then (plainWrite a (putFld v 17 2 0) s).wb (a + 3) 18 true
  else if o = 1 ∧ fld v 0 16 = 0 then (s.wr (a + 1) 1).wb (a + 3) 18 true
  else plainWrite (a + o) v s

/-- A write to the POS, EMU and VEC registers (R261, R263, R268); VEC registers are taken at a boundary. -/
def posWrite (q a : Nat) (v : Word) (s : State) : State :=
  if a < 0x770C0 then withFreeze (posRegWrite ((a - 0x77000) / 0x40) (a % 0x40) v) s
  else if 0x77100 ≤ a ∧ a < 0x77120 then emuWrite ((a - 0x77100) / 0x10) (a % 0x10) v s
  else if 0x77200 ≤ a ∧ a < 0x77300 then if isSystem q then plainWrite a v s else s
  else s

/-- The steps per turn of an emulation output. -/
def emuSteps (m : Nat) (s : State) : Nat := 4 * s.rf (emuBase m + 1) 0 16

/-- The target count of an emulation output (R262). -/
def emuTarget (m : Nat) (s : State) : Nat :=
  posAngle (s.rf (emuBase m) 17 2) s.mt s * emuSteps m s / 2 ^ 20

/-- The output count moves one step towards its target, the shorter way (R262). -/
def emuStep (m : Nat) (s : State) : State :=
  let st := emuSteps m s
  let c := s.rf (emuBase m + 3) 0 18 % st
  let d := (emuTarget m s + st - c) % st
  if d = 0 then s
  else
    let up := decide (2 * d ≤ st)
    let c' := (if up then c + 1 else c + st - 1) % st
    let left := if up then d - 1 else st - d - 1
    let s := (s.wf (emuBase m + 3) 0 18 c').modEmu m fun e => { e with last := some s.mt }
    if 1 < left then s.wb (emuBase m + 3) 19 true else s

/-- The output is enabled and its source has an angle (R262). -/
def emuOn (m : Nat) (s : State) : Bool := s.rb (emuBase m) 19 && s.rb (posBase (s.rf (emuBase m) 17 2) + 0xC) 16

/-- The output may step in this cycle: at most once in minedge cycles, of which 0 acts as 1 (R262). -/
def emuReady (m : Nat) (s : State) : Bool :=
  match (s.emu m).last with
  | some t => decide (t + max 1 (s.rf (emuBase m + 2) 0 12) ≤ s.mt)
  | none => true

/-- In each cycle the levels follow inv while the output tracks its source, and hold otherwise; from its first enabling the
EMU block drives its pads (R30, R262). -/
def emuTick (m : Nat) (s : State) : State :=
  let on := s.rb (emuBase m) 19
  let inv := s.rb (emuBase m) 16
  if emuOn m s then s.modEmu m fun e => { e with inv := inv, used := true }
  else if on then s.modEmu m fun e => { e with used := true }
  else s

/-- An interface that works has done so in this cycle (R251). -/
def posTick (n : Nat) (s : State) : State :=
  let now := s.mt
  if posWorks n s then s.modPos n fun p => { p with worked := now } else s

/-- The levels of EMUmA, EMUmB and EMUmZ (R262). -/
def emuLevels (m : Nat) (s : State) : Bool × Bool × Bool :=
  let c := s.rf (emuBase m + 3) 0 18
  let b := decide (2 ≤ c % 4)
  (decide (c % 4 = 1) || decide (c % 4 = 2), b != (s.emu m).inv, decide (c = 0))

/-- The levels of an interface as its filters last accepted them. -/
def acceptedLevels (n : Nat) (s : State) : BitVec 6 :=
  s.sched.foldl (fun lv e => match e.2 with | .edge m x _ => if m = n then x else lv | _ => lv) (s.posn n).lv

/-- The filters let an interface's inputs change to new levels now (R252): an input that changes has shown its new level for
filt + 1 consecutive cycles, so that its change before lies at least so far back. -/
def filterPasses (n : Nat) (lv : BitVec 6) (s : State) : Bool :=
  (List.range 6).all fun k =>
    lv.getLsbD k == (acceptedLevels n s).getLsbD k ||
      (match vget none (s.posn n).changed k with
       | some t => decide (t + s.rf (posBase n) 4 4 + 1 ≤ s.mt)
       | none => true)

/-- The filters accept new levels in this cycle, the edge cycle (R252). -/
def acceptLevels (n : Nat) (lv : BitVec 6) (s : State) : State :=
  let old := acceptedLevels n s
  let now := s.mt
  let s := s.modPos n fun p =>
    { p with changed := Vector.ofFn fun k =>
        if lv.getLsbD k.1 != old.getLsbD k.1 then some now else vget none p.changed k.1 }
  s.at_ (now + 1) (.edge n lv now)

/-- POSITION_EDGE: the inputs of an interface are accepted at new levels, which act in the next cycle (R252 to R259). -/
def execPositionEdge (n : Fin 3) (lv : BitVec 6) (s : State) : Result :=
  happens (s.fabric && filterPasses n.1 lv s) (acceptLevels n.1 lv) s

/-- SPEED_TIMEOUT: no edge for tmo × 16 384 cycles (R258). -/
def execSpeedTimeout (n : Fin 3) (s : State) : Result :=
  happens (s.fabric && speedTimedOut n.1 s.mt s) (fun s => s.at_ (s.mt + 1) (.slow n.1 s.mt)) s

/-- SSI_FRAME_START: a frame is due; qnb is the level of QnB (R255). -/
def execSsiFrameStart (n : Fin 3) (qnb : Bool) (s : State) : Result :=
  happens (s.fabric && ssiDue n.1 s) (ssiStart n.1 qnb) s

/-- SSI_FRAME_END: a frame ends with the bits sampled (R255). -/
def execSsiFrameEnd (n : Fin 3) (data : Word) (s : State) : Result :=
  happens s.fabric (withFreeze (ssiEnd n.1 data)) s

/-- TURNS_CLEAR: a write to POS_n_TURNS0 (R257). -/
def execTurnsClear (q : Req) (n : Fin 3) (v : Word) (s : State) : Result :=
  .next (withAccess q.toNat (posBase n.1 + 0xA) true (turnsWrite n.1 v) s)

/-- POS_CTRL_WRITE: a write to POS_n_CTRL (R260). -/
def execPosCtrlWrite (q : Req) (n : Fin 3) (v : Word) (s : State) : Result :=
  .next (withAccess q.toNat (posBase n.1) true (withFreeze (posCtrlWrite n.1 v)) s)

/-- EMU_STEP: an emulation output may step (R262). -/
def execEmuStep (m : Fin 2) (s : State) : Result :=
  happens (s.fabric && emuOn m.1 s && emuReady m.1 s) (emuStep m.1) s

end Sys2Proof.Machine
end

