-- ==== Sys2Proof/Machine/Claim.lean ====
section
/-! DEFINITION. Pads and their hold (R27 to R36) and the claim table (R97 to R100). -/
namespace Sys2Proof.Machine

/-- The block whose function is the primary one of pad p (R27, R97); 0 for the GPIO pads, which have none. -/
def padBlock (p : Nat) : Nat :=
  if p < 64 then 0x30
  else if p < 82 then 0x31
  else if p < 88 then 0x32
  else if p < 114 then 0x33
  else if p < 226 then 0x34
  else if p < 233 then 0x35
  else if p < 250 then 0x36
  else if p < 256 then 0x37
  else if p < 261 then 0x38
  else if p < 267 then 0x39
  else if p < 269 then 0x3A
  else 0

/-- Software I/O is permitted on pad p (R27). -/
def padSoft (p : Nat) : Bool :=
  decide (p < 226) || (decide (256 ≤ p) && decide (p ≤ 260)) || decide (267 ≤ p)

/-- A pad register value with reserved fields at their reset values (R28). -/
def padLegal (p : Nat) (v : Word) : Word :=
  let v := if 2 ≤ fld v 0 2 ∨ (fld v 0 2 = 1 ∧ padSoft p = false) then putFld v 0 2 0 else v
  if fld v 10 2 = 3 then putFld v 10 2 (fld (regReset (padReg p)) 10 2) else v

/-- The pad register takes a value; reserved values set BUS_CONFLICT.cfg_err (R28). -/
def padPut (p : Nat) (v : Word) (s : State) : State :=
  let m := padLegal p v
  let s := plainWrite (padReg p) m s
  if m = v then s else busCfgErr s

/-- The software owner's write; selecting a primary function whose block does not own the pad is a conflict (R29). The
manual does not say at which moment that case is recorded: this write records it, and a claim or a release does not
(log 88). -/
def padSoftWrite (p : Nat) (v : Word) (s : State) : State :=
  let was := s.rf (padReg p) 0 2
  let s := padPut p v s
  if was ≠ 0 ∧ s.rf (padReg p) 0 2 = 0 ∧ padBlock p ≠ 0 then conflict (some p) s else s

/-- A write to BUS_PADp (R29). -/
def padWrite (q p : Nat) (v : Word) (s : State) : State :=
  let o := s.owner 0 p
  if o ≠ 0 ∧ ownerCode q = o then padSoftWrite p v s
  else if (isHelm0 q || isHelm1 q) ∧ 0x30 ≤ o ∧ o ≤ 0x3A then
    padPut p ((s.rd (padReg p) &&& ~~~ 0x00F80#20) ||| (v &&& 0x00F80#20)) s
  else conflict (some p) s

/-- HIRQ is driven low (R370): an enabled interrupt stands and IFACE is powered. -/
def hirqLow (s : State) : Bool := s.rf 0x100003 0 11 &&& s.rf 0x100004 0 11 != 0 && s.dom 5

/-- The level of a boolean output: 1 low, 2 high. -/
def levelOf (b : Bool) : Nat := if b then 2 else 1

/-- IFACE runs the scanner: it is ready, in RUN, DOZE or SLATE (R62, R342). -/
def scannerOn (s : State) : Bool := s.ifaceOn 5 && decide (s.pstate ≤ 2) && s.rb 0x71800 0

/-- The column that the scan under way drives low (R342): each for its dwell periods of REFCLK, in ascending order. -/
def scannedColumn (s : State) : Option Nat :=
  let c := (s.mt - s.key.scanAt) / (18750 * max 1 (s.rf 0x71801 12 3))
  if scannerOn s && s.key.scanning && decide (c < s.rf 0x71801 15 5) then some c else none

/-- Frames run (R358), in every state in which IFACE drives Cupola (R62). -/
def framesRun (s : State) : Bool :=
  s.ifaceOn 6 && decide (s.pstate ≤ 2) && s.rb 0x71C00 0 && s.rb 0x71C02 19

/-- The common whose slot it is (R357): each in turn for slot REFCLK periods. -/
def activeCommon (s : State) : Nat := min 15 ((s.mt - s.cup.frameAt) / (18750 * max 1 (s.rf 0x71C00 4 8)))

/-- The level n / 5 of VLCD as a pad level: VSS is the low level. -/
def vlcdLevel (n : Nat) : Nat := if n = 0 then 1 else 4 + n

/-- The level of COM and SEG pads while frames run (R357): the active common stands at 5/5 against a dot that is on at 0 and one
that is off at 2/5, every other common at 1/5; a frame of the other polarity takes the complements. R357 gives the six levels
and not which waveform takes which (log 102). -/
def cupLevel (p : Nat) (s : State) : Nat :=
  let c := activeCommon s
  let n :=
    if p < 130 then (if p - 114 = c then 5 else 1)
    else if (lookup zeroWord s.cup.latch (0x71C40 + (p - 130))).getLsbD c then 0 else 2
  vlcdLevel (if s.cup.polarity then 5 - n else n)

/-- The level of QnA with an SSI encoder (R255): it falls at a frame's start, toggles every half cycles for b + 1 clock
periods and rests high. -/
def ssiClock (n : Nat) (s : State) : Nat :=
  match (s.posn n).ssiBusy with
  | some t =>
    let k := (s.mt - t) / max 1 (s.rf (posBase n + 4) 6 8)
    if k < 2 * (ssiBits n s + 1) then levelOf (k % 2 == 1) else 2
  | none => 2

/-- What the block that owns pad p drives on it: 1 low, 2 high, 3 not driven, 4 + n the level n / 5 of VLCD. -/
def blockLevel (p : Nat) (s : State) : Nat :=
  if p < 64 then levelOf (if p % 2 = 0 then (s.chan (p / 2)).hi else (s.chan (p / 2)).lo)
  else if p < 82 then
    if (p - 64) % 6 = 0 ∧ posWorks ((p - 64) / 6) s = true ∧ posMode ((p - 64) / 6) s = 2 then ssiClock ((p - 64) / 6) s else 3
  else if p < 88 then
    let x := emuLevels ((p - 82) / 3) s
    if (s.emu ((p - 82) / 3)).used = false then 3
    else levelOf (if (p - 82) % 3 = 0 then x.1 else if (p - 82) % 3 = 1 then x.2.1 else x.2.2)
  else if 88 ≤ p ∧ p < 106 then (if scannedColumn s = some (p - 88) then 1 else 3)
  else if 114 ≤ p ∧ p < 226 then (if framesRun s then cupLevel p s else 1)
  else if p = 232 then (if hirqLow s then 1 else 3)
  else if 242 ≤ p ∧ p < 250 then levelOf (s.rb 0x71402 (p - 242))
  else if p = 262 then 2
  else 3

/-- An open-drain pad drives low only (R28); the primary functions of the PWM, COM and SEG pads set this themselves. -/
def openDrain (p : Nat) (r : Word) (lv : Nat) : Nat :=
  if lv = 2 ∧ tst r 12 = true ∧ 64 ≤ p ∧ ¬ (114 ≤ p ∧ p < 226) then 3 else lv

/-- What pad p drives in a powered device (R28 to R30). -/
def padPowered (p : Nat) (s : State) : Nat :=
  let r := s.rd (padReg p)
  let o := s.owner 0 p
  let idle := if (114 ≤ p ∧ p < 226) ∨ (242 ≤ p ∧ p < 250) then 1 else 3
  if fld r 0 2 = 1 then
    if 0x21 ≤ o ∧ o ≤ 0x23 then
      if !tst r 13 || (tst r 12 && tst r 14) then 3 else levelOf (tst r 14)
    else idle
  else if o = padBlock p ∧ o ≠ 0 then openDrain p r (blockLevel p s)
  else idle

/-- What pad p drives: nothing without power (R31); in HOLD, Keep drives every keyboard column low (R36, R351). -/
def padDrive (p : Nat) (s : State) : Nat :=
  if s.pwr.off then 3
  else if s.pstate = 3 ∧ 88 ≤ p ∧ p < 106 then 1
  else padPowered p s

/-- The level at pad p: the latched one while its group is held (R33): 1 low, 2 high, 3 not driven. -/
def padLevel (p : Nat) (s : State) : Nat :=
  let h := lookup zeroAt s.pwr.padHeld p
  if h = 0 then padDrive p s else h

/-- The pads of each group of PWR_PADHOLD. -/
def padGroup (g : Nat) : List Nat :=
  let span := fun lo hi : Nat => (List.range (hi + 1 - lo)).map (lo + ·)
  match g with
  | 0 => span 0 63
  | 1 => span 64 81
  | 2 => span 82 87
  | 3 => span 226 232
  | 4 => span 233 249
  | 5 => span 250 255
  | 6 => span 256 260
  | 7 => span 261 266
  | 8 => span 267 268
  | 9 => span 269 284
  | 10 => span 114 225
  | _ => []

/-- The domain of a pad group's block: 2 FABRIC, 5 IFACE. -/
def groupDom (g : Nat) : Nat := if g < 3 then 2 else 5

/-- Software I/O owns pad p (R29, R33): fn selects it, and a Helm core or the host has claimed the pad. -/
def softOwned (p : Nat) (s : State) : Bool :=
  decide (s.rf (padReg p) 0 2 = 1) && decide (0x21 ≤ s.owner 0 p) && decide (s.owner 0 p ≤ 0x23)

/-- The level pad p of group g latches (R33, R36): the table's for every pad of the group, whoever owns it, but for one that
software I/O owns. -/
def holdLevel (g p : Nat) (s : State) : Nat :=
  if softOwned p s then padDrive p s
  else
    match g with
    | 0 =>
      let lv := safeLevels (s.chan (p / 2))
      levelOf (if p % 2 = 0 then lv.1 else lv.2)
    | 6 => 3
    | 7 => if p = 262 then 2 else padDrive p s
    | 10 => 1
    | _ => padDrive p s

/-- A pad group is held (R33): its pads latch their levels, and its bit is set. -/
def holdGroup (g : Nat) (s : State) : State :=
  let m := (padGroup g).foldl (fun m p => update zeroAt m p (if lookup zeroAt m p = 0 then holdLevel g p s else lookup zeroAt m p))
    s.pwr.padHeld
  (s.mapPwr fun x => { x with padHeld := m }).wb 0x70820 g true

/-- The groups of a domain are held (R33). -/
def holdDomain (d : Nat) (s : State) : State := forAll 11 (fun g s => if groupDom g = d then holdGroup g s else s) s

/-- A held group is released (R34). -/
def releaseGroup (g : Nat) (s : State) : State :=
  let m := (padGroup g).foldl (fun m p => update zeroAt m p 0) s.pwr.padHeld
  (s.mapPwr fun x => { x with padHeld := m }).wb 0x70820 g false

/-- A write to PWR_PADHOLD (R34): a release while the group's domain is off is ignored, and one in the cycle of a new hold
leaves the group held (R7). -/
def padHoldWrite (v : Word) (s : State) : State :=
  forAll 11 (fun g s =>
    if tst v g && s.dom (groupDom g) && !tst (s.setNow 0x70820) g then releaseGroup g s else s) s

/-- The number of resources of a claim class (R97). -/
def classSize (cls : Nat) : Nat :=
  match cls with
  | 0 => 285
  | 1 => 32
  | 2 => 64
  | 3 => 64
  | 4 => 32
  | _ => 0

/-- The duty of a channel comes from its new owner (R209). -/
def dutySource (w : Nat) (s : State) : State :=
  let o := s.owner 1 w
  if 0x21 ≤ o ∧ o ≤ 0x23 then sendDuty w (s.rd (chanBase w + 8)) s
  else if 1 ≤ o ∧ o ≤ 0x20 ∧ outKind (o - 1) (s.activeBank (o - 1)) s = 0 then
    sendDuty w (s.rd (cellBase (o - 1) + 0x10)) s
  else s

/-- The cells whose Almanac span holds bank j are tested again (R193). -/
def almRetest (j : Nat) (s : State) : State :=
  forAll 8 (fun k s =>
    let c := 8 * (j / 8) + k
    let b := s.activeBank c
    let first := 8 * (c / 8) + almFirst c b s
    if first ≤ j ∧ j < first + almSpan c b s then almTest c false s else s) s

/-- The claim table takes an owner for a resource, with what the change does (R99, R193, R209, R227, R240). -/
def changeOwner (cls idx code : Nat) (s : State) : State :=
  match cls with
  | 1 =>
    let s := (if code = 0 then safeRequest idx s else s).setOwner 1 idx code
    dutySource idx (if code ≠ 0 ∧ chanInvalid idx s = true then chanCfgErr idx s else s)
  | 3 =>
    let t := s.setOwner 3 idx code
    if code = 0 then cmpOff idx t else chansRecheck s t
  | 4 => almRetest idx (s.setOwner 4 idx code)
  | _ => s.setOwner cls idx code

/-- The status of a claim-table command (R98). -/
def claimStatus (op cls idx code : Nat) (s : State) : Nat :=
  let o := s.owner cls idx
  if classSize cls ≤ idx then 4
  else
    match op with
    | 1 => if o = 0 ∨ o = code then 0 else 1
    | 2 => if o = 0x24 then 3 else if o ≠ 0 ∧ o = code then 0 else 2
    | _ => 0

/-- A claim-table command: its status and the table after it (R98). -/
def claimCommand (op cls idx code : Nat) (s : State) : Nat × State :=
  let st := claimStatus op cls idx code s
  let s :=
    if st ≠ 0 then s
    else if op = 1 then (if s.owner cls idx = code then s else changeOwner cls idx code s)
    else if op = 2 then changeOwner cls idx 0 s
    else s
  (st, s)

/-- A Helm core's claim command: its status, and the table and the core's BUS_CLAIM_RESULT after it (R98). -/
def claimBy (h op cls idx code : Nat) (s : State) : Nat × State :=
  let r := claimCommand op cls idx code s
  let owner := if r.1 = 4 then 0 else r.2.owner cls idx
  (r.1, r.2.mapBus fun b => { b with result := vset b.result h (BitVec.ofNat 20 (r.1 * 65536 + owner)) })

/-- The owner code is no reserved one (R97). -/
def ownerKnown (o : Nat) : Bool := decide (o ≤ 0x24) || (decide (0x30 ≤ o) && decide (o ≤ 0x3A))

/-- A command word with reserved values at their reset values (R100). -/
def claimLegal (v : Word) : Word :=
  let v := if fld v 18 2 = 3 then putFld v 18 2 0 else v
  let v := if 4 < fld v 15 3 then putFld v 15 3 0 else v
  if ownerKnown (fld v 0 6) then v else putFld v 0 6 0

/-- A Helm core's command word: its status, and the state after it; reserved values act as their reset values and set cfg_err
(R98, R100). -/
def claimDo (h : Nat) (v : Word) (s : State) : Nat × State :=
  let m := claimLegal v
  claimBy h (fld m 18 2) (fld m 15 3) (fld m 6 9) (fld m 0 6) (if m = v then s else busCfgErr s)

/-- A write to BUS_CLAIM_CMD by a Helm core with its own requester code (R98). -/
def claimWrite (q : Nat) (v : Word) (s : State) : State :=
  if !isHelm0 q && !isHelm1 q then s else (claimDo (q - 0x20) v s).2

/-- PAD_HOLD_RELEASE: a write to PWR_PADHOLD (R34). -/
def execPadHoldRelease (q : Req) (v : Word) (s : State) : Result :=
  .next (withAccess q.toNat 0x70820 true (padHoldWrite v) s)

/-- PAD_WRITE: a write to BUS_PADp (R29). -/
def execPadWrite (q : Req) (p : Fin 285) (v : Word) (s : State) : Result :=
  .next (withAccess q.toNat (padReg p.1) true (padWrite q.toNat p.1 v) s)

/-- BUS_CLAIM: a claim command, the op field of v standing as claim (R98). -/
def execBusClaim (q : Req) (v : Word) (s : State) : Result :=
  .next (withAccess q.toNat 0x70C00 true (claimWrite q.toNat (putFld v 18 2 1)) s)

/-- BUS_RELEASE: a release command, the op field of v standing as release (R98). -/
def execBusRelease (q : Req) (v : Word) (s : State) : Result :=
  .next (withAccess q.toNat 0x70C00 true (claimWrite q.toNat (putFld v 18 2 2)) s)

/-- BUS_QUERY: a query command, the op field of v standing as query (R98). -/
def execBusQuery (q : Req) (v : Word) (s : State) : Result :=
  .next (withAccess q.toNat 0x70C00 true (claimWrite q.toNat (putFld v 18 2 0)) s)

end Sys2Proof.Machine
end

