-- ==== Sys2Proof/Machine/SxtQueue.lean ====
section
/-! DEFINITION. Sextant's two request queues (R316 to R318): submits, submits that wait for power, and places freed by
reads. -/
namespace Sys2Proof.Machine

/-- SXT and the memory that the queues need are ready (R62, R317). -/
def sxtReady (s : State) : Bool := s.dom 1 && (s.dom 4 || decide (s.pstate = 2))

/-- The requests in a queue: those not completed and those whose completion word is not yet read (R316). -/
def sxtCount (bulk : Bool) (s : State) : Nat :=
  if bulk then s.sxt.q1.length + s.sxt.done1.length else s.sxt.q0.length + s.sxt.done0.length

/-- A request enters a queue of eight, or is discarded (R316). -/
def sxtEnqueue (bulk : Bool) (a : Word) (s : State) : State :=
  if 8 ≤ sxtCount bulk s then (s.wb 0x72000 17 true).bump 0x72007
  else s.mapSxt fun x => if bulk then { x with q1 := x.q1 ++ [a] } else { x with q0 := x.q0 ++ [a] }

/-- A submit: carried out at once, or held with its requester q until SXT and MEM are ready (R317). -/
def sxtSubmit (q : Nat) (bulk : Bool) (a : Word) (s : State) : State :=
  if sxtReady s then sxtEnqueue bulk a s else s.mapSxt fun x => { x with stalled := x.stalled ++ [(q, bulk, a)] }

/-- A write of requester q to an address is a submit that is held, so that it stalls q (R317). -/
def submitHeld (q a : Nat) (s : State) : Bool :=
  s.sxt.stalled.any fun x => decide (x.1 = q) && decide (a = if x.2.1 then 0x72002 else 0x72001)

/-- The submit that stalled Helm1 for an SXT_EVAL is carried out: whether it was refused (R405). -/
def evalOutcome (refused : Bool) (s : State) : State :=
  s.mapHostif fun h =>
    { h with waits := h.waits.map fun w =>
        match w.2 with | .eval t none => (w.1, .eval t (some refused)) | _ => w }

/-- Held submits proceed once both domains are ready (R317). -/
def sxtResume (s : State) : State :=
  if sxtReady s then
    s.sxt.stalled.foldl (fun t x =>
      let u := sxtEnqueue x.2.1 x.2.2 t
      if x.1 = 0x21 then evalOutcome (decide (8 ≤ sxtCount x.2.1 t)) u else u) (s.mapSxt fun x => { x with stalled := [] })
  else s

/-- The calculator personality is active (R323): SXT_CALC_CTRL.en is 1 or the exam lock is set. -/
def calcActive (s : State) : Bool := s.rb 0x72008 0 || s.rb 0x71822 0

/-- SXT_STATUS.failed (R336). -/
def sxtFailed (s : State) : Bool := s.rb 0x72000 19

/-- A stop for a state entry holds the operation under way (R321, R334). -/
def sxtStopped (s : State) : Bool :=
  s.sxt.stopReq && (!s.dom 1 || (match s.pwr.entry with | some e => decide (e.target = 3) | none => false))

/-- Sextant works: powered (in SLATE with its own memory), out of its start-up self-test, not stopped for an entry (R62,
R321, R337). -/
def sxtUp (s : State) : Bool :=
  sxtReady s && !s.pwr.off && !s.pwr.inReset && s.rb 0x72017 19 && !sxtStopped s

/-- A function code of the calculator (R324). -/
def calcCode (c : Nat) : Bool :=
  (decide (0x10 ≤ c) && decide (c ≤ 0x2A)) || (decide (0x30 ≤ c) && decide (c ≤ 0x33)) ||
    [0x46, 0x47, 0x49, 0x4A, 0x4B, 0x4C, 0x50, 0x51, 0x52, 0x53, 0x54, 0x55, 0x57, 0x58, 0x59, 0x5A, 0x5B, 0x5C, 0x60,
      0x6A].contains c || (decide (0x70 ≤ c) && decide (c ≤ 0x7F))

/-- The function code of a key (R323): its word of the key map, after 2nd the upper code. -/
def keyCode (second : Bool) (k : Nat) (s : State) : Nat :=
  let w := s.rdMem (0x3D000 + k)
  if fld w 16 4 ≠ 0 then 0 else if second then fld w 8 8 else fld w 0 8

/-- The function of the first key that has one, and the keys after it; 2nd holds for the first key only (R323, R324). -/
def calcScan (second : Bool) (s : State) : List Nat → Option (Nat × List Nat)
  | [] => none
  | k :: ks => if calcCode (keyCode second k s) then some (keyCode second k s, ks) else calcScan false s ks

/-- The calculator works: active, Sextant up and not failed (R323, R336). -/
def calcUp (s : State) : Bool := calcActive s && sxtUp s && !sxtFailed s && s.sxt.mchk.isNone && !s.rb 0x72011 0

/-- A key of the map is read: its word's parity is checked (R91). -/
def keyRead (k : Nat) (s : State) : State :=
  if s.badParity.contains (0x3D000 + k) then recordParity (0x3D000 + k) 0x22 s else s

/-- The first presses that have no function, and the presses after them; 2nd holds for the first key only (R323, R324). -/
def idlePresses (second : Bool) (s : State) : List Nat → List Nat × List Nat
  | [] => ([], [])
  | k :: ks =>
    if calcCode (keyCode second k s) then ([], k :: ks)
    else
      let r := idlePresses false s ks
      (k :: r.1, r.2)

/-- Presses without a function at the head of the calculator's queue do nothing, and leave it as soon as the calculator works
(R323, R350). -/
def calcTrim (s : State) : State :=
  if !calcUp s then s
  else
    let r := idlePresses s.calculator.second s s.key.calcQ
    let t := (r.1.foldl (fun t k => keyRead k t) s).mapKey fun x => { x with calcQ := r.2 }
    if r.1.isEmpty then t else t.mapCalc fun c => { c with second := false }

/-- A read of SXT_DONEq: the completion word, removed from its queue (R320). -/
def sxtDone (bulk : Bool) (s : State) : Word × State :=
  match (if bulk then s.sxt.done1 else s.sxt.done0) with
  | [] => (0, s)
  | w :: r => (w.1, s.mapSxt fun x => if bulk then { x with done1 := r } else { x with done0 := r })

/-- A submit is a write that R317 governs while SXT or MEM is retained. -/
def submitAccess (q a : Nat) (eff : State → State) (s : State) : State :=
  if s.dead then s
  else if s.pstate ≤ 1 then (if q < 0x20 then recordFault a q true s else eff s) else withAccess q a true eff s

/-- SXT_SUBMIT_INTERACTIVE: a write to SXT_SUBMIT0 (R316, R317). -/
def execSxtSubmitInteractive (q : Req) (a : Word) (s : State) : Result :=
  .next (submitAccess q.toNat 0x72001 (sxtSubmit q.toNat false a) s)

/-- SXT_SUBMIT_BULK: a write to SXT_SUBMIT1 (R316, R317). -/
def execSxtSubmitBulk (q : Req) (a : Word) (s : State) : Result :=
  .next (submitAccess q.toNat 0x72002 (sxtSubmit q.toNat true a) s)

/-- SXT_DONE_READ: a read of SXT_DONE0 or SXT_DONE1 (R320). -/
def execSxtDoneRead (q : Req) (bulk : Bool) (s : State) : Result :=
  .next (withAccess q.toNat (if bulk then 0x72004 else 0x72003) false (fun s => (sxtDone bulk s).2) s)

end Sys2Proof.Machine
end

