-- ==== Sys2Proof/Machine/KeyPath.lean ====
section
/-! DEFINITION. What a latched event delivers (R80): the paths of reported key changes (R346, R347, R350) and accepted
presence changes (R413), and the host window (R367). -/
namespace Sys2Proof.Machine

/-- The host window is served (R367): IFACE is powered, and HOSTIF owns HSCLK, HCS_N, HIO0 and HIO1 (R29). A stopped
clock restarts for the access (R64, R89). -/
def windowOn (s : State) : Bool :=
  s.dom 5 && decide (s.pstate ≤ 2) && !s.dead && (List.range 4).all fun k => padOf 0x35 (226 + k) s

/-- The exam lock is set (R353). -/
def examLock (s : State) : Bool := s.rb 0x71822 0

/-- KEY_LOCK.armable (R353). -/
def armable (s : State) : Bool := let n := s.rf 0x71823 0 4; decide (1 ≤ n) && decide (n ≤ 8)

/-- The host paths are open (R350). -/
def hostPaths (s : State) : Bool := !examLock s && (!calcActive s || s.rb 0x71800 5)

/-- The wake key (R350). -/
def wakeKey (s : State) : Nat := s.rf 0x71821 0 8

/-- A change enters the change FIFO, or is dropped (R346, R347). -/
def fifoPush (e : Nat) (s : State) : State :=
  if !s.rb 0x71800 2 then s
  else if 32 ≤ s.key.fifo.length then ((s.wb 0x71802 18 true).bump 0x71824).mapKey fun k => { k with gap := true }
  else
    s.mapKey fun k =>
      { k with fifo := k.fifo ++ [BitVec.ofNat 20 (0x80000 + e + (if k.gap then 0x8000 else 0))], gap := false }

/-- A press enters the calculator's queue, or is dropped (R350). -/
def calcPush (k : Nat) (s : State) : State :=
  let s := calcTrim s
  if 8 ≤ s.key.calcQ.length then s.bump 0x71825 else calcTrim (s.mapKey fun x => { x with calcQ := x.calcQ ++ [k] })

/-- A reported change as one number, for an event that Keep latches: its entry e, whether its host paths are open, whether
the calculator takes it, and its key. -/
def changeCode (e : Nat) (open_ toCalc : Bool) (k : Nat) : Nat :=
  e + 2 ^ 20 * open_.toNat + 2 ^ 21 * toCalc.toNat + 2 ^ 22 * k

/-- A reported change sets its flag and goes to the paths that are open to it (R346, R350). -/
def keyChange (x : Nat) (s : State) : State :=
  let s := s.wb 0x71802 19 true
  let s := if x.testBit 20 then hwIrq 3 (fifoPush (x % 2 ^ 20) s) else s
  if x.testBit 21 then calcPush (x / 2 ^ 22) s else s

/-- A reported change waits for a replay (R80). -/
def keyHold (x : Nat) (s : State) : State := s.mapKey fun k => { k with held := k.held ++ [x] }

/-- The waiting changes are queued in their order (R80, R344). -/
def keyReplay (s : State) : State := s.key.held.foldl (fun t x => keyChange x t) (s.mapKey fun k => { k with held := [] })

/-- An accepted presence change sets its flag (R413); x is twice the slot, plus 1 for present, which Helm1 then has to
discover. -/
def presChange (x : Nat) (s : State) : State :=
  let n := x / 2
  if x % 2 = 1 then (s.wb 0x71401 n true).mapTl fun t => { t with queue := t.queue ++ [n] } else s.wb 0x71401 (8 + n) true

end Sys2Proof.Machine
end

