-- ==== Sys2Proof/Machine/Clock.lean ====
section
/-! DEFINITION. REFCLK, the Meridian loop, domain sources and master time (R39 to R58). Sources: 0 REF, 1 MERIDIAN,
2 COAST; domains: 0 Helm, 1 Sextant, 2 peripheral bus. -/
namespace Sys2Proof.Machine

/-- CLK_STATUS.ref_ok. -/
def clkRefOk (s : State) : Bool := s.rb 0x70400 6
/-- CLK_STATUS.lock. -/
def clkLock (s : State) : Bool := s.rb 0x70400 5
/-- CLK_STATUS.coast. -/
def clkCoast (s : State) : Bool := s.rb 0x70400 4

/-- The source of MT (R54). -/
def mtSrc (s : State) : Nat :=
  if s.clk.fabOn then (if s.clk.fabMer then 0 else 2) else if s.clk.frozen then 2 else 1

/-- CLK_STATUS as it reads (R39, R54, R56). band is low in SLATE alone; that it stays low through a wake out of SLATE until the
state leaves SLATE with the first instruction is the model's choice (log 98). -/
def clkStatus (s : State) : Word :=
  putFld (putBit (s.rd 0x70400) 7 (decide (s.pstate = 2))) 8 2 (mtSrc s)

/-- An accepted switch is in progress (R46). -/
def clkBusy (s : State) : Bool := s.clk.switchTo.toList.any (·.isSome)

/-- CLK_SWITCH.fab_src (R43, R56): a powered fabric that does not count yet is to run on MERIDIAN where the loop is locked. -/
def fabSrc (s : State) : Nat :=
  if s.dom 2 || s.pwr.fabPower then (if (if s.clk.fabOn then s.clk.fabMer else clkLock s) then 1 else 2) else 0

/-- CLK_SWITCH as it reads (R56). -/
def clkSwitch (s : State) : Word :=
  let src := fun i => vget 0 s.clk.src i
  putFld (putFld (putFld (putFld (putBit (s.rd 0x70401) 7 (clkBusy s)) 14 2 (src 0)) 12 2 (src 1)) 10 2 (src 2)) 8 2 (fabSrc s)

/-- The request bit of a switchable domain. -/
def reqBit (i : Nat) : Nat := 2 - i

/-- A domain takes a source; no switch of it is pending any more. -/
def setSource (i src : Nat) (s : State) : State :=
  s.mapClk fun c => { c with src := vset c.src i src, switchTo := vset c.switchTo i none }

/-- A request for a domain is refused; its request bit keeps its last accepted value (R45). -/
def refuseSwitch (i old : Nat) (s : State) : State :=
  ((s.wb 0x70401 (reqBit i) (decide (old = 1))).wb 0x70401 6 true).bump 0x70402

/-- One domain's part of a write to CLK_SWITCH (R44, R45): a pending switch holds its target, plus 2 where the request bit
was 1 before. A domain whose switch is pending counts as on neither source, so that its request is refused while busy. -/
def requestSource (i : Nat) (busy : Bool) (want old : Nat) (s : State) : State :=
  if vget 0 s.clk.src i = want ∧ (vget none s.clk.switchTo i).isNone = true then s.wb 0x70401 (reqBit i) (decide (want = 1))
  else if busy || !(if want = 1 then clkLock s else clkRefOk s) then refuseSwitch i old s
  else
    (s.wb 0x70401 (reqBit i) (decide (want = 1))).mapClk fun c =>
      { c with switchTo := vset c.switchTo i (some (want + 2 * old)) }

/-- A write to CLK_SWITCH (R44, R45). -/
def clkSwitchWrite (v : Word) (s : State) : State :=
  let busy := clkBusy s
  let t := clearBits 0x70401 (v &&& 0x00040#20) s
  forAll 3 (fun i t => requestSource i busy (fld v (reqBit i) 1) (s.rf 0x70401 (reqBit i) 1) t) t

/-- The pending switches to a source complete (R46). -/
def completeSwitches (src : Nat) (s : State) : State :=
  forAll 3 (fun i s =>
    match vget none s.clk.switchTo i with
    | some x => if x % 2 = src then setSource i src s else s
    | none => s) s

/-- A switch to a source is pending. -/
def switchPending (src : Nat) (s : State) : Bool :=
  (List.range 3).any fun i => match vget none s.clk.switchTo i with | some x => decide (x % 2 = src) | none => false

/-- An alignment point of the fabric (R40), which no clock tests while the fabric does not count. -/
def aligned (s : State) : Bool := !s.clk.fabOn || decide (s.clk.fabMt % 48 = 0)

/-- The target source's next aligned edge (R46): an alignment point for MERIDIAN, otherwise an edge of REFCLK. -/
def switchComplete (s : State) : State :=
  if switchPending 1 s && aligned s then completeSwitches 1 s else completeSwitches 0 s

/-- A domain goes to COAST; a pending switch of it is refused (R47, R48). -/
def toCoast (i : Nat) (s : State) : State :=
  let s := match vget none s.clk.switchTo i with
    | some x => refuseSwitch i (x / 2) s
    | none => s
  setSource i 2 s

/-- REFCLK qualifies (R42); a frozen Keep count runs on from this edge (R53). -/
def refQualified (s : State) : State :=
  (s.wb 0x70400 6 true).mapClk fun c =>
    { c with frozen := false, keepMt := if c.frozen then (c.keepMt + 18750) % 2 ^ 60 else c.keepMt }

/-- The loop runs: in every state but HOLD and OFF, and during a wake (R76, R81). -/
def loopRuns (s : State) : Bool := !s.pwr.off && (decide (s.pstate ≠ 3) || s.pwr.wake.isSome)

/-- Qualification fails before lock (R42): a domain on REF, or on its way there, moves to COAST. -/
def qualificationFail (s : State) : State :=
  let s := s.wb 0x70400 6 false
  forAll 3 (fun i s =>
    let toRef := match vget none s.clk.switchTo i with | some x => decide (x % 2 = 0) | none => false
    if decide (vget 0 s.clk.src i = 0) || toRef then (toCoast i s).wb 0x70400 4 true else s) s

/-- ANALOG leaves retention, above 2.9 V of VDDA33 (R73, R435). -/
def analogReady (s : State) : State := if s.pwr.analogSupply then s.wb 0x70800 9 true else s

/-- The loop of a wake has locked or failed to; a prompt wake releases ANALOG with FABRIC, once the fabric counts (R81). -/
def loopSettled (s : State) : State :=
  let s := s.mapPwr fun p => { p with lockDue := false }
  if s.pwr.analogDue && s.clk.fabOn then analogReady (s.mapPwr fun p => { p with analogDue := false }) else s

/-- The main oscillator locks (R50): in SLATE Sextant moves to the loop output (R51, R76). A fabric that counts on COAST
returns to MERIDIAN at its next alignment point. -/
def clkLocked (s : State) : State :=
  let s := withFreeze (fun s => (s.wb 0x70400 5 true).wb 0x70400 4 false) s
  let s := forAll 32 (fun c s => s.modCell c fun k => { k with loss := false }) s
  loopSettled (if s.pstate = 2 then setSource 1 1 s else s)

/-- The fabric counter takes Keep's count and runs on, on MERIDIAN where the loop is locked, at an edge of REFCLK (R53). -/
def counterRuns (s : State) : State :=
  let lock := clkLock s
  s.mapClk fun c => { c with fabMt := c.keepMt, fabOn := true, fabMer := lock, edge := c.keepMt % 18750 }

/-- The fabric counter is loaded with Keep's count, and FABRIC is ready (R53). -/
def fabricLoad (s : State) : State :=
  let s := (counterRuns s).wb 0x70800 8 true
  if s.pwr.lockDue then s else loopSettled s

/-- Keep takes the fabric counter's value, frozen where REFCLK is not qualified (R53). -/
def handOver (s : State) : State :=
  let lost := !clkRefOk s
  if s.clk.fabOn then
    s.mapClk fun c => { c with keepMt := c.fabMt, fabOn := false, frozen := c.frozen || lost }
  else s

/-- What every declaration of reference loss records (R48 steps 2 and 3, R51, R53). -/
def lossRecord (mt : Nat) (s : State) : State :=
  let s := ((s.wb 0x70400 6 false).wb 0x70400 5 false).wb 0x70400 4 true
  let s := ((s.wb 0x70400 3 true).bump 0x70403).wrWide 0x70404 3 mt
  s.mapClk fun c => { c with frozen := true, fabMer := false }

/-- The reference-loss action of each enabled cell (R49); a reserved one acts as continue. A cell that stops and starts
again during one loss stays scaled, and a cell enabled during the loss is not scaled: the manual leaves both open (log 87).
A stop is no freeze of learning (R203); the cause of one that has stopped in this very cycle follows R190. -/
def lossActions (s : State) : State :=
  forAll 32 (fun c s =>
    if !stoppable c s then s
    else
      match s.rf (cellBase c) 1 2 with
      | 1 => if s.rb (cellBase c) 0 then s.modCell c fun k => { k with loss := true } else s
      | 2 => cellStop c 1 s
      | _ => s) s

/-- A reference loss in RUN or DOZE (R47 to R49): clock state, records, cell actions and the NMI. -/
def referenceLoss (s : State) : State :=
  let s := forAll 3 (fun i s => toCoast i s) s
  let s := lossActions (withFreeze (lossRecord s.mt) s)
  raiseNmiAll (logEvent 3 0 0 [s.rd 0x70403] s)

/-- A reference loss in SLATE or HOLD (R51): R48 without its steps 4 and 5. -/
def quietLoss (s : State) : State :=
  let s := forAll 3 (fun i s => toCoast i s) s
  lossRecord s.clk.keepMt s

/-- The change of performance level that is under way has its divisors in force (R66). -/
def levelDone (s : State) : Bool :=
  match s.clk.levelBusy with
  | some x => decide (x = (s.clk.coreLevel, s.clk.sxtLevel))
  | none => false

/-- A write to PWR_PL (R66): while a change is under way it waits, in place of any request that waited. -/
def plWrite (v : Word) (s : State) : State :=
  let x := (fld v 0 2, fld v 2 2)
  let s := plainWrite 0x70804 v s
  if s.clk.levelBusy.isSome then s.mapClk fun c => { c with levelNext := some x }
  else if x = (s.clk.coreLevel, s.clk.sxtLevel) then s
  else (s.mapClk fun c => { c with levelBusy := some x }).wb 0x70804 4 true

/-- A divisor changes (R66): first that of a domain whose level falls, then that of a domain whose level rises. Level 0 is
the highest. -/
def divisorChange (s : State) : State :=
  match s.clk.levelBusy with
  | none => s
  | some x =>
    let falls := decide (s.clk.coreLevel < x.1) || decide (s.clk.sxtLevel < x.2)
    s.mapClk fun c =>
      { c with coreLevel := if falls then max c.coreLevel x.1 else x.1,
               sxtLevel := if falls then max c.sxtLevel x.2 else x.2 }

/-- A change of level is complete, and a waiting one begins (R66). -/
def plComplete (s : State) : State :=
  match s.clk.levelNext with
  | some x =>
    if x = (s.clk.coreLevel, s.clk.sxtLevel) then
      (s.mapClk fun c => { c with levelBusy := none, levelNext := none }).wb 0x70804 4 false
    else s.mapClk fun c => { c with levelBusy := some x, levelNext := none }
  | none => (s.mapClk fun c => { c with levelBusy := none }).wb 0x70804 4 false

/-- Words of MT as a reader with its own holding register sees them (R55): word 0 holds words 1 and 2. -/
def mtHold (key : Nat) (s : State) : State :=
  s.mapClk fun c => { c with hold := update zeroAt c.hold key (s.mt / 2 ^ 20) }

/-- The key of a reader's holding register: 0 and 1 the Helm cores, 2 the host, 3 + c the sequencer of cell c. -/
def readerKey (r : MtReader) : Nat :=
  match r with
  | .helm h => h.1
  | .host => 2
  | .cell c => 3 + c.1

/-- Word k of MT from a holding register (R55). -/
def mtHeld (key k : Nat) (s : State) : Word := wordOf (lookup zeroAt s.clk.hold key) (k - 1)

/-- MT_LOW_READ: a read of the low word of MT (R55, R167). -/
def execMtLowRead (r : MtReader) (s : State) : Result :=
  let open_ := match r with
    | .helm _ => decide (s.pstate ≤ 1) && !s.dead
    | .host => windowOn s
    | .cell _ => s.fabric
  happens open_ (fun s => if r = .host then hostShown (wordOf s.mt 0) (mtHold (readerKey r) s) else mtHold (readerKey r) s) s

/-- REFCLK_QUALIFIED: eight consecutive edges lie in the window (R42). -/
def execRefclkQualified (s : State) : Result := happens (loopRuns s && !clkRefOk s) refQualified s

/-- QUALIFICATION_FAIL: an edge is outside the window or missing before lock (R42). -/
def execQualificationFail (s : State) : Result := happens (clkRefOk s && !clkLock s) qualificationFail s

/-- LOCK: the main oscillator locks (R42, R50). -/
def execLock (s : State) : Result := happens (loopRuns s && clkRefOk s && !clkLock s) clkLocked s

/-- REFERENCE_LOSS: a missing or early edge while locked in RUN or DOZE (R48). -/
def execReferenceLoss (s : State) : Result :=
  happens (!s.pwr.off && decide (s.pstate ≤ 1) && clkLock s) referenceLoss s

/-- REFERENCE_LOSS_SLATE_HOLD: a missing or early edge in SLATE, a missing edge in HOLD (R51). -/
def execReferenceLossSlateHold (s : State) : Result :=
  happens (!s.dead && ((decide (s.pstate = 2) && clkLock s) || decide (s.pstate = 3))) quietLoss s

/-- CLK_SWITCH_WRITE: a write to CLK_SWITCH (R44, R45). -/
def execClkSwitchWrite (q : Req) (v : Word) (s : State) : Result :=
  .next (withAccess q.toNat 0x70401 true (clkSwitchWrite v) s)

/-- CLOCK_SWITCH_COMPLETE: a pending switch reaches its target's next aligned edge (R46). -/
def execClockSwitchComplete (s : State) : Result := happens (clkBusy s) switchComplete s

/-- DIVISOR_CHANGE: an ordered change of divisor takes effect at the alignment point (R41, R66). -/
def execDivisorChange (s : State) : Result :=
  happens (s.clk.levelBusy.isSome && aligned s) divisorChange s

/-- PL_CHANGE: a write to PWR_PL (R66). -/
def execPlChange (q : Req) (v : Word) (s : State) : Result := .next (withAccess q.toNat 0x70804 true (plWrite v) s)

end Sys2Proof.Machine
end

