-- ==== Sys2Proof/Machine/HostCore.lean ====
section
/-! DEFINITION. Replies of the packet service and the receive FIFO (R370 to R382), as the state entries of Power.lean need
them. -/
namespace Sys2Proof.Machine

/-- The words of a reply (R375): headers, status word, data and CRC. -/
def replyWords (p : Packet) (st det : Nat) (data : List Word) : List Word :=
  let ws := [BitVec.ofNat 20 (p.ver % 16 * 65536 + p.stream % 4 * 16384 + p.seq % 64 * 256 + p.op % 256),
             BitVec.ofNat 20 ((data.length + 1) % 256 * 4096 + p.tag % 4096),
             BitVec.ofNat 20 (st % 256 * 4096 + det % 4096)] ++ data
  ws ++ [BitVec.ofNat 20 (crc16 ws)]

/-- The stream of a packet stops (R379). -/
def stopStream (p : Packet) (s : State) : State :=
  if s.rb 0x71003 (10 + p.stream) then s
  else
    hwIrq 2 ((s.wb 0x71003 (10 + p.stream) true).mapHostif fun h => { h with stopSeq := vset h.stopSeq p.stream p.seq })

/-- A reply of stream st has still to be placed. -/
def replyDue (st : Nat) (s : State) : Bool := s.host.replies.any fun x => decide (x.1 = st)

/-- A reply of stream st has been placed: the stream is active while packets of it are taken and not yet replied (R368). -/
def replied (st : Nat) (s : State) : State :=
  s.wb 0x71003 (6 + st)
    (replyDue st s || (s.host.taken.any fun x => decide (x.stream = st)) || s.host.waits.any fun w => decide (w.1.stream = st))

/-- Helm1 replies to a packet (R375); a status other than OK and SKIPPED stops its stream (R379). -/
def respond (p : Packet) (st det : Nat) (data : List Word) (s : State) : State :=
  let s := s.mapHostif fun h => { h with replies := h.replies ++ [(p.stream, replyWords p st det data)] }
  if st ≤ 1 then s else stopStream p s

/-- Words enter the receive FIFO (R371); HW_IRQ.rx marks its passage from empty. -/
def rxPush (ws : List Word) (s : State) : State :=
  let empty := s.host.rx.isEmpty && !ws.isEmpty
  let s := s.mapHostif fun h => { h with rx := h.rx ++ ws }
  if empty then hwIrq 0 s else s

/-- Helm1 posts a code to the host: dmsg and the doorbell (R385, R447). -/
def postHost (code : Nat) (s : State) : State := hwIrq 7 (s.wf 0x71004 8 8 code)

/-- The STATE packet that waits for an entry's outcome, if any. -/
def statePacket (s : State) : Option Packet :=
  (s.host.waits.find? fun w => decide (w.2 = .state)).map (·.1)

/-- HOSTIF places a staged reply once the entry it announces is done: where the FIFO has room and no other reply is placed in
part (R382). With it the STATE packet has replied, and its stream may go on (R378). -/
def placeStaged (s : State) : State :=
  match s.host.staged with
  | some ws =>
    if (statePacket s).isNone && !s.host.placing && decide (s.host.rx.length + ws.length ≤ 64) then
      let s := rxPush ws (s.mapHostif fun h => { h with staged := none })
      match (s.host.waits.find? fun w => decide (w.2 = .staged)).map (·.1) with
      | some p => replied p.stream (s.mapHostif fun h => { h with waits := h.waits.filter fun w => decide (w.2 ≠ .staged) })
      | none => s
    else s
  | none => s

/-- The entry failed: the staged reply is discarded, and Helm1 replies itself (R382). -/
def stateFailed (st det : Nat) (s : State) : State :=
  match statePacket s with
  | some p =>
    respond p st det []
      (s.mapHostif fun h => { h with staged := none, waits := h.waits.filter fun w => decide (w.2 ≠ .state) })
  | none => s

/-- The entry is done: HOSTIF has the packet's reply to place (R382). -/
def stateDone (s : State) : State :=
  s.mapHostif fun h => { h with waits := h.waits.map fun w => if w.2 = .state then (w.1, .staged) else w }

end Sys2Proof.Machine
end

