-- ==== Sys2Proof/Machine/Irq.lean ====
section
/-! DEFINITION. Interrupt lines (R127, R128), levels that follow the flags of their sources. -/
namespace Sys2Proof.Machine

/-- A mask of bits stands in a register. -/
def anyBit (a m : Nat) (s : State) : Bool := (s.rd a).toNat &&& m != 0

/-- Line 6 of the keyboard (R356). -/
def irqKey (s : State) : Bool := anyBit 0x71802 0x02000 s || (s.rb 0x71800 1 && anyBit 0x71802 0xCC000 s)

/-- Line 13 of the protection set (R244). -/
def irqProt (s : State) : Bool := decide (s.rf 0x72801 0 16 ≠ 0)

/-- Line 17 of the converters (R249). -/
def irqAdc (s : State) : Bool :=
  (List.range 4).any (fun t => anyBit (adcBase t + 1) 0x30000 s) ||
    (List.range 8).any fun m => s.rb (0x76E08 + 16 * m) 18

/-- Line 16 of the position interfaces and emulation outputs (R260). -/
def irqPos (s : State) : Bool :=
  (List.range 3).any (fun n => anyBit (posBase n + 0xC) 0x0F800 s) ||
    (List.range 2).any fun m => anyBit (emuBase m + 3) 0xC0000 s

/-- The line of cell c (R162, R188): an enabled event, a sequencer fault, or a following error whose
firing had the action interrupt. -/
def irqCell (c : Nat) (s : State) : Bool :=
  let b := cellBase c
  (s.rd (b + 2)).toNat &&& (s.rd (b + 4)).toNat != 0 || s.rb (b + 1) 13 ||
    (s.rb (b + 2) 2 && (s.cell c).feIrq)

/-- A line whose block has no flag in the manual (PD ports, SMB, UART, GPIO): its level is free. UNVERIFIED, log 31. -/
def irqFree (n : Nat) (s : State) : Bool := Config.freeBool (s.freeCtr + n)

/-- Line n is asserted (R128). -/
def irqLine (n : Nat) (s : State) : Bool :=
  match n with
  | 0 => !s.host.tx.isEmpty || s.rb 0x71004 19 || s.rb 0x71006 16 || s.rb 0x71003 5
  | 1 => anyBit 0x71401 0x0FFFF s || anyBit 0x71400 0x00C00 s
  | 6 => irqKey s
  | 7 => s.rb 0x71C02 17 || (s.rb 0x71C00 1 && s.rb 0x71C02 18)
  | 8 => !s.sxt.done0.isEmpty || anyBit 0x72000 0x30000 s
  | 9 => !s.sxt.done1.isEmpty
  | 10 => s.rb 0x70800 5
  | 11 => s.rb 0x70400 2 || s.rb 0x70401 6
  | 12 => anyBit 0x70C10 0xC0000 s || s.rb 0x70C13 19 || s.rb 0x70C16 19
  | 13 => irqProt s
  | 14 => s.rb 0x74001 16 || (s.rb 0x74001 17 && s.rb 0x74000 3)
  | 15 => anyBit 0x7E001 0x70000 s
  | 16 => irqPos s
  | 17 => irqAdc s
  | n =>
    if 32 ≤ n ∧ n < 64 then irqCell (n - 32) s
    else if (2 ≤ n ∧ n ≤ 5) ∨ n = 18 ∨ n = 19 then irqFree n s
    else false

/-- SYS_IRQCFGc_n (R127). -/
def irqCfg (h n : Nat) : Nat := 0x70100 + 0x80 * h + n

/-- The line is pending and enabled for a Helm core (R125). -/
def irqEnabled (h n : Nat) (s : State) : Bool := s.rb (irqCfg h n) 3 && irqLine n s

/-- The line that the core would take (R125): the highest level whose level + 1 exceeds ipl, then the lowest number. -/
def irqChoice (h : Nat) (s : State) : Option Nat :=
  let ipl := fld (s.proc h).status 8 4
  let better := fun (best : Option Nat) (n : Nat) =>
    if irqEnabled h n s && decide (ipl < s.rf (irqCfg h n) 0 3 + 1) then
      match best with
      | some b => if s.rf (irqCfg h b) 0 3 < s.rf (irqCfg h n) 0 3 then some n else some b
      | none => some n
    else best
  (List.range 64).foldl better none

end Sys2Proof.Machine
end

