-- ==== Sys2Proof/Machine/Power.lean ====
section
/-! DEFINITION. Votes, domains, state entries, the KN4000 handshake, standing orders and wake (R59 to R84). -/
namespace Sys2Proof.Machine

/-- A Helm core is not stopped, as hardware client 0 sees it (R72); a wake from DOZE needs MEM again (R81). -/
def helmClient (s : State) : Bool :=
  (!helmStopped s || (match s.pwr.wake with | some w => decide (w.fromState = 1) | none => false)) &&
    (decide ((s.proc 0).run ≠ .stopped) || decide ((s.proc 1).run ≠ .stopped))

/-- Any cell is enabled, or a software-owned channel has PWM_CTRL.en = 1 (R72). -/
def loopClient (s : State) : Bool :=
  (List.range 32).any fun i =>
    s.rb (cellBase i) 0 || (decide (0x21 ≤ s.owner 1 i) && decide (s.owner 1 i ≤ 0x23) && s.rb (chanBase i) 15)

/-- The Logbook is armed (R72, R305): LOG_CTRL.ev_en or LOG_TRACE_CTRL.arm is 1. -/
def logClient (s : State) : Bool := s.rb 0x7E000 19 || s.rb 0x7E01A 19

/-- A Sextant queue is non-empty, or a submit waits (R72, R317). -/
def sxtClient (s : State) : Bool :=
  decide (0 < sxtCount false s) || decide (0 < sxtCount true s) || !s.sxt.stalled.isEmpty

/-- The hardware clients' votes on domain d, bit k for client k (R72). -/
def hwVotes (d : Nat) (s : State) : Nat :=
  let bit := fun (k : Nat) (ds : List Nat) (b : Bool) => if ds.contains d && b then 2 ^ k else 0
  bit 0 [4] (helmClient s) + bit 1 [5] (s.rb 0x70801 2) + bit 2 [1, 4] (sxtClient s) + bit 3 [2, 3] (loopClient s) +
    bit 4 [2, 4] (logClient s) + bit 5 [1, 5] (calcActive s) + bit 6 [5] (decide (s.rf 0x71402 0 8 ≠ 0)) +
    bit 7 [5] (s.ports.toList.any (·.attached))

/-- PWR_VOTEd_LO of domain d (R83). -/
def voteReg (d : Nat) : Nat := 0x70810 + 2 * (d - 1)

/-- The hardware clients' votes on domain d: as they stand (R72), or as they were frozen (R75). -/
def hwVoted (d : Nat) (s : State) : Nat :=
  if s.pwr.frozenVotes && (decide (d = 1) || decide (4 ≤ d)) then vget 0 s.pwr.frozenHw d else hwVotes d s

/-- PWR_VOTEd_LO as it reads (R72, R75). -/
def voteLow (d : Nat) (s : State) : Word := putFld (s.rd (voteReg d)) 0 8 (hwVoted d s)

/-- Domain d holds at least one vote. -/
def hasVotes (d : Nat) (s : State) : Bool := decide (voteLow d s ≠ 0) || decide (s.rf (voteReg d + 1) 0 12 ≠ 0)

/-- Client k holds a vote in domain d. -/
def votesFor (d k : Nat) (s : State) : Bool :=
  if k < 20 then tst (voteLow d s) k else s.rb (voteReg d + 1) (k - 20)

/-- PWR_STATUS.cfg_err is set (R84). -/
def pwrCfgErr (s : State) : State := s.wb 0x70800 5 true

/-- A vote command is carried out (R72, R83, R84). -/
def voteApply (v : Word) (s : State) : State :=
  let d := fld v 8 3
  let k := fld v 0 5
  if 6 ≤ d then pwrCfgErr s
  else if k < 8 then pwrCfgErr s
  else if d = 0 then s
  else if k < 20 then s.wb (voteReg d) k (tst v 19)
  else s.wb (voteReg d + 1) (k - 20) (tst v 19)

/-- A write to PWR_VOTE_CMD: held while votes are frozen (R75). -/
def voteWrite (v : Word) (s : State) : State :=
  if s.pwr.frozenVotes then s.mapPwr fun p => { p with heldVotes := p.heldVotes ++ [v] } else voteApply v s

/-- The votes unfreeze, and held commands apply in order (R75). -/
def unfreezeVotes (s : State) : State :=
  s.pwr.heldVotes.foldl (fun t v => voteApply v t) (s.mapPwr fun p => { p with frozenVotes := false, heldVotes := [] })

/-- The load sum of R75 in µA. -/
def slateLoad (s : State) : Nat :=
  600 + (((List.range 32).filter fun k => votesFor 1 k s || votesFor 4 k s || votesFor 5 k s).map
    fun k => s.rf (0x70840 + k) 0 12).sum

/-- The converter reference is no longer settled: no comparator is active (R230, R248). The converters keep what they hold
(R62, R63) and convert no more until it settles again. -/
def analogLost (s : State) : State :=
  protSafe (forAll 64 cmpOff (withFreeze (forAll 4 fun t s => s.wb (adcBase t + 1) 19 false) s))

/-- The charge pump of Cupola is turned off, and VLCD leaves its window (R36, R358). -/
def pumpOff (s : State) : State := s.wb 0x71C02 19 false

/-- The level that the input of pad p sees: what the pad drives; otherwise what something outside drives, which is free;
otherwise what its pull holds (R27, R30, R32). Nothing outside drives the ball of a PWM channel. How an input sees a level
between VSS and VLCD is free: the manual gives no threshold (log 102). -/
def ballLevel (p : Nat) (s : State) : Bool :=
  let outside := Config.freeBool (s.freeCtr + p)
  let driven := decide (64 ≤ p) && Config.freeBool (s.freeCtr + 512 + p)
  match padLevel p s with
  | 1 => false
  | 2 => true
  | lv =>
    if driven || decide (5 ≤ lv) then outside
    else
      match s.rf (padReg p) 10 2 with
      | 1 => false
      | 2 => true
      | _ => outside

/-- The scanner stops (R351): the scan under way is given up, and the accepted states stay (R63). R351 says so of HOLD; that
it holds of retention by vote too is the model's choice (log 103). -/
def scanStops (s : State) : State := s.mapKey fun k => { k with scanning := false }

/-- Keep takes up its watch in HOLD on the rows that are high (R351). -/
def watchRows (s : State) : State :=
  let m := (List.range 8).foldl (fun m r => if ballLevel (106 + r) s then m + 2 ^ r else m) 0
  (s.mapKey fun k => { k with rows := BitVec.ofNat 8 m }).advance 1024

/-- Domain d enters retention (R33, R63, R73): its pads are held; FABRIC ends a trace in native mode (R304), and its
channels go to the safe state that their pads hold. What the fabric has under way is retained with it (R62): an effect set up
for a cycle that the fabric does not count comes in the first cycle in which it works again (log 98). -/
def retainDomain (d : Nat) (s : State) : State :=
  let s := if d = 2 ∧ s.rb 0x70801 1 = false then traceEnd s else s
  let s := if d = 2 ∨ d = 5 then holdDomain d s else s
  let s := s.wb 0x70800 (6 + d) false
  if d = 2 then forAll 32 safeRequest (s.mapPwr fun p => { p with fabPower := false })
  else if d = 3 then analogLost s
  else if d = 5 then scanStops (pumpOff s)
  else s

/-- PWR_STATUS.state changes (R83, R368); target follows. -/
def setPstate (t : Nat) (s : State) : State := hwIrq 10 ((s.wf 0x70800 17 3 t).wf 0x70800 14 3 t)

/-- PWR_RESULT takes an outcome (R75, R83). -/
def entryResult (code block load : Nat) (s : State) : State :=
  s.wr 0x70803 (BitVec.ofNat 20 (code * 65536 + block * 4096 + min load 4095))

/-- A wake source's number names one (R79). -/
def wakeKnown (src : Nat) : Bool := decide (1 ≤ src) && decide (src ≤ 0xA)

/-- A source wakes the device from state st (R79): in SLATE only the wake key does, and none while the exam lock is set. -/
def wakesFrom (src st : Nat) (s : State) : Bool :=
  match src with
  | 1 => decide (st ≠ 2) || (!examLock s && decide (wakeKey s < 144))
  | 7 => decide (st = 1) || decide (st = 2)
  | 8 => decide (st = 1)
  | 9 => decide (st = 1) || decide (st = 2)
  | _ => true

/-- A source is enabled (R79); ORDER always is. -/
def wakeEnabled (src : Nat) (s : State) : Bool := decide (src = 0xA) || s.rb 0x70806 (src - 1)

/-- The domain of a source's block is powered, as a wake from DOZE asks (R79). -/
def wakePowered (src : Nat) (s : State) : Bool :=
  match src with
  | 1 => s.dom 5
  | 7 => s.dom 5
  | 9 => s.dom 5
  | _ => true

/-- A source would wake the device from state st now (R79, R80, R82). -/
def wouldWake (src st : Nat) (s : State) : Bool := wakesFrom src st s && (decide (st ≠ 1) || wakePowered src s)

/-- What the source block does for an event that HOLD or an entry has latched (R80, R351): the row change of HOLD sets
KEY_STATUS.wake and is counted; the key changes that wait are queued; a presence change sets its flag. The manual gives the other sources
no flag, counter or data (log 22). Data is 0 where the event carries none. -/
def replayEvent (src data : Nat) (s : State) : State :=
  if src = 1 then (if data = 0 then (s.wb 0x71802 14 true).bump 0x71826 else keyReplay s)
  else if src = 6 ∧ data ≠ 0 then presChange (data - 1) s
  else s

/-- A wake begins (R81) with the MT of its first event (R82): the loop qualifies REFCLK anew on a wake out of SLATE or HOLD,
domains standing on COAST. -/
def beginWake (src count mt : Nat) (replay : List (Nat × Nat)) (s : State) : State :=
  let from_ := s.pstate
  let w : Wake := { fromState := from_, source := src, count := count, mt := mt, step := 0,
                    prompt := s.rb 0x70801 0, record := true }
  let s := (s.mapPwr fun p => { p with wake := some w, replay := replay }).wb 0x70800 13 true
  if from_ = 1 then s
  else
    let s := ((s.wb 0x70800 12 false).wb 0x70400 6 false).wb 0x70400 5 false
    let s := s.mapPwr fun p => { p with lockDue := true, analogDue := w.prompt }
    forAll 3 (fun i s => setSource i 2 s) s

/-- The event is one whose source block acts only at the replay (R80): Keep has latched it, because an entry is under way or
because the block is held in HOLD. -/
def replayed (src data from_ : Nat) : List (Nat × Nat) :=
  if (src = 1 ∧ data = 0 ∧ from_ = 3) ∨ data ≠ 0 then [(src, data)] else []

/-- An event of a wake source with the data that its replay queues (R79, R80, R82). -/
def wakeEvent (src data : Nat) (s : State) : State :=
  if !wakeKnown src || !wakeEnabled src s then s
  else
    match s.pwr.entry, s.pwr.wake with
    | some e, _ =>
      if wouldWake src e.target s then s.mapPwr fun p => { p with latched := p.latched ++ [(src, s.mt, data)] } else s
    | none, some w =>
      if wouldWake src w.fromState s then
        s.mapPwr fun p =>
          { p with wake := some { w with count := w.count + 1 }, replay := p.replay ++ replayed src data w.fromState }
      else s
    | none, none =>
      if s.pstate = 0 ∨ 4 ≤ s.pstate then s
      else if wouldWake src s.pstate s then beginWake src 1 s.mt (replayed src data s.pstate) s
      else s

/-- An event of a wake source from outside comes from its block (R79): a row change is the first fall of a row that Keep
watches in HOLD (R351), which ends the watch, or comes as an entry to HOLD is under way; the other key changes come from the
scans (R352). That one fall ends the watch of every row is the model's choice (log 103). -/
def mayCome (src : Nat) (s : State) : Bool :=
  decide (src ≠ 1) ||
    match s.pwr.entry with
    | some e => decide (e.target = 3)
    | none => decide (s.pstate = 3) && decide (s.key.rows ≠ 0)

/-- The event comes; a row change ends the watch of the rows (R351). -/
def outsideEvent (src : Nat) (s : State) : State :=
  wakeEvent src 0 (if src = 1 then s.mapKey fun k => { k with rows := 0 } else s)

/-- The entry under way would latch an event of a source (R80). -/
def latches (src : Nat) (s : State) : Bool :=
  wakeEnabled src s && (match s.pwr.entry with | some e => wouldWake src e.target s | none => false)

/-- The entry under way was asked for by a STATE packet. -/
def entryViaPacket (s : State) : Bool := match s.pwr.entry with | some e => e.viaPacket | none => false

/-- The entry is over: no entry, not busy (R76). -/
def closeEntry (s : State) : State :=
  unfreezeVotes ((s.mapPwr fun p => { p with entry := none }).wb 0x70800 13 false)

/-- Latched events start a wake from the state entered (R80). -/
def latchedWake (s : State) : State :=
  match s.pwr.latched with
  | [] => s
  | x :: r =>
    beginWake x.1 (r.length + 1) x.2.1 (((x :: r).map fun e => replayed e.1 e.2.2 s.pstate).flatten)
      (s.mapPwr fun p => { p with latched := [] })

/-- Steps 5 and 7 of R76 for what target t retains: pads held, which blanks Cupola in HOLD (R36), domains in retention,
the loop in the low band or stopped. -/
def powerDown (t : Nat) (s : State) : State :=
  let s := retainDomain 4 (retainDomain 3 (retainDomain 2 s))
  let s := if t = 3 then watchRows (retainDomain 5 (retainDomain 1 s)) else (s.wb 0x70800 7 true).wb 0x70800 11 true
  let s := (s.wb 0x70800 12 true).wb 0x70400 5 false
  if t = 3 then s.wb 0x70400 6 false else setSource 1 2 s

/-- An entry completes in target t (R76 steps 4 and 7). -/
def finishEntry (t : Nat) (s : State) : State :=
  let via := entryViaPacket s
  let s := if 2 ≤ t then powerDown t s else s
  let s := setPstate t (entryResult 1 0 (if t = 2 then s.pwr.loadSum else 0) s)
  let s := sxtResume (if via then stateDone (closeEntry s) else closeEntry s)
  latchedWake (if t ≤ 2 then placeStaged s else s)

/-- The blocks that the handshake asks for target t, ascending (R77). -/
def askedBlocks (t : Nat) : List Nat :=
  match t with
  | 1 => [12]
  | 2 => [1, 2, 3, 4, 8, 9, 10, 11, 12]
  | _ => [1, 2, 3, 4, 5, 6, 7, 8, 9, 10, 11, 12]

/-- The next block to ask. -/
def nextBlock (e : Entry) : Option Nat := (askedBlocks e.target).find? fun n => decide (e.block < n)

/-- Block n refuses for target t (R77). -/
def blockRefuses (n t : Nat) (s : State) : Bool :=
  s.rb 0x7080B n ||
    match n with
    | 1 => !s.host.tx.isEmpty
    | 2 => s.tl.disc.isSome || !s.tl.queue.isEmpty
    | 3 => s.ports.toList.any fun p => p.attached && p.pdPartner && decide (p.contract = 0)
    | 5 => !s.key.fifo.isEmpty
    | 7 => decide (t = 3) && (decide (0 < sxtCount false s) || decide (0 < sxtCount true s))
    | 8 => decide (s.rf 0x7E001 14 2 = 2)
    | 9 => (List.range 32).any fun c => s.rb (cellBase c) 0
    | _ => false

/-- Block n delays (R77); seen says so of what the state does not show. -/
def blockDelays (n : Nat) (seen : Bool) (s : State) : Bool :=
  match n with
  | 1 => seen
  | 2 => s.tl.xfer.isSome
  | 3 => seen
  | 4 => seen
  | 5 => s.key.scanning
  | 6 => seen
  | 7 => s.sxt.run.isSome
  | 8 => seen
  | 10 => s.convs.toList.any (·.busy)
  | 11 => s.procs.toList.any fun p => p.posted.any fun x => !x.performed
  | _ => false

/-- Step 1 of R76: the entry is under way; a target of RUN completes at once (R68). -/
def markEntry (t : Nat) (via : Bool) (s : State) : State :=
  let e : Entry :=
    { target := t, step := 3, native := !s.rb 0x70801 1, block := 0, stopped := [], viaPacket := via, delaying := false }
  let hw := Vector.ofFn fun d : Fin 6 => hwVotes d.1 s
  ((s.wb 0x70800 13 true).wf 0x70800 14 3 t).mapPwr fun p =>
    { p with entry := some e, frozenVotes := decide (t = 2), frozenHw := hw, latched := [] }

/-- The load sum is kept for the reply (R75, R376). -/
def checkLoad (s : State) : State :=
  let n := slateLoad s
  s.mapPwr fun p => { p with loadSum := n }

/-- An entry fails with an outcome (R75, R78, R80, R382). -/
def abortEntry (code block : Nat) (s : State) : State :=
  let sum := s.pwr.loadSum
  let via := entryViaPacket s
  let target := match s.pwr.entry with | some e => e.target | none => 0
  let s := entryResult code block (if target = 2 then sum else 0) s
  let s := closeEntry (s.wf 0x70800 14 3 s.pstate)
  let evs := s.pwr.latched
  let s := s.mapPwr fun p => { p with latched := [] }
  let s := evs.foldl (fun t x => if (replayed x.1 x.2.2 target).isEmpty then t else replayEvent x.1 x.2.2 t) s
  if !via then s else if code = 3 then stateFailed 0xF (min (sum / 16) 4095) s else stateFailed 0xE block s

/-- An entry to target t begins in RUN (R68, R75, R76). -/
def beginEntry (t : Nat) (via : Bool) (s : State) : State :=
  if t = 0 then (if via then placeStaged (stateDone (entryResult 1 0 0 s)) else entryResult 1 0 0 s)
  else if t = 2 then
    let s := checkLoad (markEntry t via s)
    if 3000 < s.pwr.loadSum then abortEntry 3 0 s else s
  else markEntry t via s

/-- No entry, wake or change of level keeps an entry waiting (R69). -/
def entryFree (s : State) : Bool :=
  decide (s.pstate = 0) && !s.rb 0x70800 13 && !s.rb 0x70804 4 && s.pwr.entry.isNone && s.pwr.wake.isNone

/-- The oldest waiting request begins once nothing keeps it (R69). -/
def startOldest (s : State) : State :=
  match s.pwr.waiting with
  | (t, via) :: r => if entryFree s then beginEntry t via (s.mapPwr fun p => { p with waiting := r }) else s
  | [] => s

/-- Waiting requests begin, each once nothing keeps it (R69): one that is done or refused at once lets the next begin. -/
def startWaiting (s : State) : State := s.pwr.waiting.foldl (fun t _ => startOldest t) s

/-- An entry is requested: it begins, or waits (R69). -/
def requestEntry (t : Nat) (via : Bool) (s : State) : State :=
  startWaiting (s.mapPwr fun p => { p with waiting := p.waiting ++ [(t, via)] })

/-- A write to PWR_ENTRY, by Helm1 alone (R67, R84). -/
def entryWrite (q : Nat) (v : Word) (s : State) : State :=
  let t := fld v 0 3
  if !isHelm1 q then pwrCfgErr s
  else if 4 ≤ t then requestEntry 0 (statePacket s).isSome (pwrCfgErr s)
  else requestEntry t (statePacket s).isSome s

/-- Every enabled cell and software channel has stopped (R76 step 3). -/
def loopsStopped (s : State) : Bool :=
  !s.fabric ||
    (List.range 32).all fun i =>
      (!s.rb (cellBase i) 0 || (s.cell i).entryHeld) &&
        (!(decide (0x21 ≤ s.owner 1 i) && decide (s.owner 1 i ≤ 0x23) && s.rb (chanBase i) 15) ||
          s.rb (chanBase i + 1) 18)

/-- The entry under way, native and waiting for its loops, may go on. -/
def entryReady (s : State) : Bool :=
  match s.pwr.entry with
  | some e => e.native && decide (e.step = 3) && (decide (e.target = 1) || loopsStopped s)
  | none => false

/-- Steps 4 and 5 of R76: the Helm cores stop; DOZE is reached. -/
def entryAdvance (s : State) : State :=
  match s.pwr.entry with
  | some e =>
    if e.target = 1 then finishEntry 1 s
    else
      let s := s.mapPwr fun p => { p with entry := some { e with step := 6 } }
      let s := holdDomain 2 s
      if e.target = 3 then pumpOff (holdDomain 5 s) else s
  | none => s

/-- The entry waits for the hand-over of MT (R76 step 6). -/
def entryHandsOver (s : State) : Bool :=
  match s.pwr.entry with
  | some e => decide (e.step = 6)
  | none => false

/-- A bus access to domain d is in flight (R73): a posted store still to be performed, or a word of host DMA. -/
def inFlight (d : Nat) (s : State) : Bool :=
  s.procs.toList.any (fun p => p.posted.any fun x => !x.performed && decide (domainOf x.addr.toNat = d)) ||
    (s.rb 0x71006 18 && decide (domainOf (s.rd 0x71005).toNat = d) &&
      (if s.rb 0x71006 17 then !s.host.tx.isEmpty else decide (s.host.rx.length < 64)))

/-- FABRIC holds no vote and is to enter retention (R53, R73). -/
def fabricLeaves (s : State) : Bool :=
  s.pwr.entry.isNone && s.pwr.wake.isNone && decide (s.pstate ≤ 1) && s.dom 2 && !hasVotes 2 s && !inFlight 2 s

/-- The present cycle is a REFCLK edge, as far as the state shows it: on MERIDIAN where MT is a multiple of 18 750 (R52); on
COAST the command stands for the edge; without a qualified REFCLK nothing is waited for (R53). -/
def atEdge (s : State) : Bool := !clkRefOk s || !s.clk.fabMer || decide (s.clk.fabMt % 18750 = s.clk.edge)

/-- The hand-over of MT to Keep (R53, R76 steps 6 and 7). -/
def mtHandover (s : State) : State :=
  match s.pwr.entry with
  | some e => finishEntry e.target (handOver s)
  | none => handOver s

/-- A block answers the handshake (R77, R78); where its refusal and its delay stand together it refuses (log 20). -/
def handshakeAsk (seen : Bool) (s : State) : State :=
  match s.pwr.entry with
  | none => s
  | some e =>
    match nextBlock e with
    | none => s
    | some n =>
      if blockRefuses n e.target s then startWaiting (abortEntry 2 n s)
      else if blockDelays n seen s then s.mapPwr fun p => { p with entry := some { e with delaying := true } }
      else
        let e' : Entry := { e with block := n, stopped := e.stopped ++ [n], delaying := false }
        if (nextBlock e').isSome then s.mapPwr fun p => { p with entry := some e' }
        else if e.target = 1 then finishEntry 1 s
        else s.mapPwr fun p => { p with entry := some { e' with step := 6 } }

/-- The block being asked has delayed too long (R77). -/
def handshakeTimeout (s : State) : State :=
  match s.pwr.entry with
  | none => s
  | some e =>
    match nextBlock e with
    | none => s
    | some n => startWaiting (abortEntry 2 n s)

/-- The block asked last delays, and is asked again (R77). -/
def delaying (s : State) : Bool :=
  match s.pwr.entry with
  | some e => e.delaying
  | none => false

/-- The handshake is asking its blocks. -/
def asking (s : State) : Bool :=
  match s.pwr.entry with
  | some e => !e.native && decide (e.step = 3)
  | none => false

/-- An unmasked key is pressed (R83, R348, R349). -/
def keyPressed (s : State) : Bool := decide (s.key.accepted &&& ~~~ s.key.withheld &&& ~~~ s.key.masked ≠ 0)

/-- PWR_COND as it reads (R71, R83). -/
def powerCond (s : State) : Word :=
  let gpio := (List.range 4).foldl (fun n k => n + (ballLevel (269 + k) s).toNat * 2 ^ k) 0
  putFld (putBit (putBit (s.rd 0x7080E) 9 (!calcActive s)) 1 (!keyPressed s && !s.pwr.keyChanged)) 5 4 gpio

/-- The conditions that rule n selects. -/
def orderConds (n : Nat) (s : State) : List Nat := (List.range 10).filter fun k => s.rb (0x70830 + 2 * n) k

/-- Rule n is complete and has not fired (R71): each condition it selects has been 1 for dwell evaluations, at least one. -/
def orderComplete (n : Nat) (s : State) : Bool :=
  s.rb (0x70831 + 2 * n) 19 && !vget false s.pwr.fired n &&
    (orderConds n s).all fun k => decide (max 1 (s.rf (0x70831 + 2 * n) 0 16) ≤ vget 0 s.pwr.dwell k)

/-- One evaluation counts each condition that it sees at 1, and a rule that sees one of its own at 0 may fire again (R71). -/
def orderDwell (cond : Word) (s : State) : State :=
  let s := forAll 10 (fun k s =>
    s.mapPwr fun p => { p with dwell := vset p.dwell k (if tst cond k then min 65536 (vget 0 p.dwell k + 1) else 0) }) s
  forAll 8 (fun n s =>
    if (orderConds n s).all (tst cond) then s else s.mapPwr fun p => { p with fired := vset p.fired n false }) s

/-- A firing takes effect (R71). -/
def orderFire (t : Nat) (s : State) : State :=
  if s.pstate = 0 ∧ t ≠ 0 then requestEntry t false s
  else if 1 ≤ s.pstate ∧ s.pstate ≤ 3 ∧ t = 0 then wakeEvent 0xA 0 s
  else s

/-- Every complete rule counts as fired; the lowest takes effect (R71). -/
def ordersFire (s : State) : State :=
  match (List.range 8).find? fun n => orderComplete n s with
  | none => s
  | some n =>
    let done := (List.range 8).filter fun k => orderComplete k s
    let t := s.rf (0x70831 + 2 * n) 16 3
    orderFire t (done.foldl (fun u k => u.mapPwr fun p => { p with fired := vset p.fired k true }) s)

/-- One evaluation of the standing orders (R70, R71): rules fire only while they are in force. -/
def ordersEvaluate (s : State) : State :=
  let s := (((orderDwell (powerCond s) s).mapPwr fun p => { p with keyChanged := false })).advance 1024
  if s.rb 0x70800 6 then ordersFire s else s

/-- The last step of a wake before its first instruction (R81). -/
def wakeLast (w : Wake) : Nat := if w.fromState = 1 then 1 else if w.prompt then 3 else 5

/-- The ready signal of a wake step (R81). -/
def wakeStepReady (w : Wake) (s : State) : Bool :=
  if w.fromState = 1 then decide (w.step = 0) && s.dom 4
  else if w.prompt then decide (w.step < 3)
  else
    match w.step with
    | 0 => true
    | 1 => clkRefOk s || !s.pwr.lockDue
    | 2 => (clkLock s || !s.pwr.lockDue) && s.clk.fabOn
    | 3 => true
    | 4 => true
    | _ => false

/-- Domains are ready, ANALOG only above 2.9 V of VDDA33 (R73, R435); submits that waited for them go on (R317). -/
def readyBits (ds : List Nat) (s : State) : State :=
  sxtResume (ds.foldl (fun t d => if d = 3 ∧ s.pwr.analogSupply = false then t else t.wb 0x70800 (6 + d) true) s)

/-- What a step of a wake out of SLATE or HOLD does (R53, R81). A prompt wake with coast at 1 powers the fabric with all logic
in its step 0 and loads its counter as it releases isolation, at which point FABRIC counts as powered up; a staged wake loads it
in step 0 (log 98). -/
def wakeEffect (w : Wake) (s : State) : State :=
  if w.fromState = 1 then s
  else if w.prompt then
    match w.step with
    | 0 => s.mapPwr fun p => { p with fabPower := true }
    | 2 =>
      let s := readyBits [1, 4, 5] s
      if clkCoast s && !s.clk.fabOn then fabricLoad s else s
    | _ => s
  else
    match w.step with
    | 0 =>
      let s := s.mapPwr fun p => { p with fabPower := true }
      if clkCoast s then counterRuns s else s
    | 4 =>
      let s := readyBits [1, 2, 3, 4, 5] s
      if clkLock s then forAll 3 (fun i s => setSource i 1 s) s else s
    | _ => s

/-- A step of the wake ends (R81). -/
def wakeStep (s : State) : State :=
  match s.pwr.wake with
  | some w =>
    if wakeStepReady w s then
      (wakeEffect w s).mapPwr fun p => { p with wake := some { w with step := w.step + 1 } }
    else s
  | none => s

/-- The wake has reached its first instruction (R81). -/
def wakeDone (s : State) : Bool :=
  match s.pwr.wake with
  | some w => decide (wakeLast w ≤ w.step) && (decide (w.fromState ≠ 1) || aligned s)
  | none => false

/-- The wake record (R82). -/
def wakeRecord (w : Wake) (s : State) : State :=
  if w.record then
    hwIrq 5 ((s.wr 0x70807 (BitVec.ofNat 20 (w.fromState * 65536 + w.source * 2048 + min w.count 2047))).wrWide 0x70808 3 w.mt)
  else s

/-- The first instruction after a wake (R80, R82, R382): the record, RUN, the replay, a staged reply. -/
def wakeComplete (s : State) : State :=
  match s.pwr.wake with
  | some w =>
    let evs := s.pwr.replay
    let s := setPstate 0 ((s.mapPwr fun p => { p with wake := none, replay := [] }).wb 0x70800 13 false)
    startWaiting (placeStaged (evs.foldl (fun t x => replayEvent x.1 x.2 t) (wakeRecord w s)))
  | none => s

/-- Domain d may leave retention now: RUN or DOZE, no entry under way, a vote held (R73, R74). -/
def mayReady (d : Nat) (s : State) : Bool :=
  !s.dom d && hasVotes d s && decide (s.pstate ≤ 1) && !s.pwr.inReset && (decide (d ≠ 3) || (s.pwr.analogSupply && !s.pwr.analogDue)) &&
    (match s.pwr.wake with | some w => decide (w.fromState = 1) | none => true)

/-- Domain d leaves retention (R73): FABRIC is ready once its counter is loaded (R53). -/
def readyDomain (d : Nat) (s : State) : State :=
  if d = 2 then
    let s := s.mapPwr fun p => { p with fabPower := true }
    if clkCoast s && !s.clk.fabOn then fabricLoad s else s
  else sxtResume (s.wb 0x70800 (6 + d) true)

/-- Domain d may enter retention now (R73, R74): no vote; the fabric has handed MT over (R53). -/
def mayRetain (d : Nat) (s : State) : Bool :=
  s.dom d && s.pwr.entry.isNone && s.pwr.wake.isNone && decide (s.pstate ≤ 1) && !s.pwr.inReset &&
    !inFlight d s && (if d = 2 then !s.clk.fabOn else !hasVotes d s)

/-- A staged wake out of SLATE or HOLD is under way (R81). -/
def inStaged (s : State) : Bool :=
  match s.pwr.wake with
  | some w => decide (w.fromState ≠ 1) && !w.prompt
  | none => false

/-- The lock-fail timeout expires (R42, R51, R53, R57). -/
def lockFail (s : State) : State :=
  let s := (s.wb 0x70400 2 true).wb 0x70400 6 false
  if s.pwr.inReset then s.wb 0x70400 4 true
  else if s.pwr.lockDue || (s.pwr.fabPower && !s.clk.fabOn) then
    let s := (s.wb 0x70400 4 true).mapPwr fun p => { p with lockDue := false }
    let s := if s.clk.fabOn || !s.pwr.fabPower then loopSettled s else if inStaged s then counterRuns s else fabricLoad s
    pendNmiAll s
  else s

/-- The fabric counter may be loaded: powered, not counting, locked or on COAST (R53). -/
def mayLoad (s : State) : Bool :=
  s.pwr.fabPower && !s.clk.fabOn && !s.pwr.inReset && (clkLock s || clkCoast s)

/-- The load; in a staged wake FABRIC is ready with the other domains' isolation (R81). -/
def counterLoad (s : State) : State := if inStaged s then counterRuns s else fabricLoad s

/-- A write to a PWR register without a row of its own (R83, R84). -/
def pwrWrite (a : Nat) (v : Word) (s : State) : State :=
  if 0x70830 ≤ a ∧ a < 0x70840 ∧ a % 2 = 1 ∧ 4 ≤ fld v 16 3 then pwrCfgErr (plainWrite a (putFld v 16 3 0) s)
  else if 0x70840 ≤ a ∧ a < 0x70848 then s
  else plainWrite a v s

/-- PL_CHANGE_COMPLETE: voltage and divisor of a change have reached their level (R66); a waiting entry begins (R69). -/
def execPlChangeComplete (s : State) : Result := happens (levelDone s) (fun s => startWaiting (plComplete s)) s

/-- LOCK_FAIL: lock is not reached within 128 REFCLK periods (R42). -/
def execLockFail (s : State) : Result := happens (loopRuns s && clkRefOk s && !clkLock s) lockFail s

/-- MT_HANDOVER: Keep takes the fabric counter's value (R53). -/
def execMtHandover (s : State) : Result :=
  happens (atEdge s && (entryHandsOver s || (fabricLeaves s && s.clk.fabOn))) mtHandover s

/-- FABRIC_COUNTER_LOAD: the fabric counter takes Keep's count (R53). -/
def execFabricCounterLoad (s : State) : Result := happens (mayLoad s) counterLoad s

/-- STATE_ENTRY: a write to PWR_ENTRY, or a complete standing order (R67, R71, R76). -/
def execStateEntry (c : EntryCause) (s : State) : Result :=
  match c with
  | .write q v => .next (withAccess q.toNat 0x70802 true (entryWrite q.toNat v) s)
  | .order n =>
    happens (s.rb 0x70800 6 && decide ((List.range 8).find? (fun k => orderComplete k s) = some n.1)) ordersFire s

/-- ENTRY_CELLS_STOPPED: cells and software channels have stopped (R76 steps 3 to 5). -/
def execEntryCellsStopped (s : State) : Result := happens (entryReady s) entryAdvance s

/-- HANDSHAKE_ASK: the next block is asked (R77). -/
def execHandshakeAsk (delays : Bool) (s : State) : Result := happens (asking s) (handshakeAsk delays) s

/-- HANDSHAKE_TIMEOUT: the block's delay outlasts PWR_HS_TIMEOUT (R77). -/
def execHandshakeTimeout (s : State) : Result := happens (asking s && delaying s) handshakeTimeout s

/-- STANDING_ORDER_EVALUATION: Keep evaluates the rules (R70, R71). -/
def execStandingOrderEvaluation (s : State) : Result :=
  happens (!s.dead) ordersEvaluate s

/-- VOTE_SET: a write to PWR_VOTE_CMD with set standing as 1 (R72). -/
def execVoteSet (q : Req) (v : Word) (s : State) : Result :=
  .next (withAccess q.toNat 0x70805 true (voteWrite (putBit v 19 true)) s)

/-- VOTE_WITHDRAW: a write to PWR_VOTE_CMD with set standing as 0 (R72). -/
def execVoteWithdraw (q : Req) (v : Word) (s : State) : Result :=
  .next (withAccess q.toNat 0x70805 true (voteWrite (putBit v 19 false)) s)

/-- DOMAIN_RETENTION_ENTRY: a domain without votes enters retention (R73). -/
def execDomainRetentionEntry (d : DomId) (s : State) : Result :=
  happens (mayRetain (d.1 + 1) s) (retainDomain (d.1 + 1)) s

/-- DOMAIN_READY: a domain with votes leaves retention (R73). -/
def execDomainReady (d : DomId) (s : State) : Result := happens (mayReady (d.1 + 1) s) (readyDomain (d.1 + 1)) s

/-- WAKE_EVENT: an event of a wake source other than an order or a brown-out (R79, R80). -/
def execWakeEvent (src : BitVec 5) (s : State) : Result :=
  happens (decide (src.toNat < 0xA) && !s.dead && mayCome src.toNat s) (outsideEvent src.toNat) s

/-- WAKE_STEP: a step of the wake ends at its ready signal (R81). -/
def execWakeStep (s : State) : Result := happens s.pwr.wake.isSome wakeStep s

/-- WAKE_COMPLETE: the first Helm instruction after a wake (R82). -/
def execWakeComplete (s : State) : Result := happens (wakeDone s) wakeComplete s

end Sys2Proof.Machine
end

