-- ==== Sys2Proof/Machine/Reset.lean ====
section
/-! DEFINITION. Resets and their release, OFF, the supplies and the OTP (R52, R57, R61, R90, R423, R430, R435, R436). -/
namespace Sys2Proof.Machine

/-- What a register holds after a reset that keeps KEEP: its Keep bits, and the reset value elsewhere. -/
def keepWord (a : Nat) (v : Word) : Word :=
  match regRow a with
  | some r => (r.reset &&& ~~~ r.keep) ||| (v &&& r.keep)
  | none => regReset a

/-- The registers after a reset that keeps KEEP. -/
def keepRegs (m : Mem) : Mem :=
  m.filterMap fun x => if keepWord x.1 x.2 = regReset x.1 then none else some (x.1, keepWord x.1 x.2)

/-- An address of Keep SRAM (R85). -/
def inKeepSram (a : Nat) : Bool := decide (0x38000 ≤ a) && decide (a < 0x3A000)

/-- The clock state of a device in reset: the fabric does not count, Keep's count goes on (R53). -/
def resetClk (keep : Nat) (frozen : Bool) : Clk :=
  { State.reset.clk with fabOn := false, keepMt := keep, frozen := frozen, fabMer := false, src := #v[2, 2, 2] }

/-- The power state of a device in reset; standing orders keep their dwell (R423). -/
def resetPwr (p : Pwr) : Pwr :=
  { State.reset.pwr with inReset := true, analogSupply := p.analogSupply, dwell := p.dwell, fired := p.fired }

/-- No domain is ready, and the loop is not locked, while reset is held (R57). -/
def holdReset (s : State) : State :=
  let s := [7, 8, 9, 10, 11].foldl (fun t b => t.wb 0x70800 b false) s
  ((s.wb 0x70400 4 false).wb 0x70400 5 false).wb 0x70400 6 false

/-- The row of a cause in the table of R423, the highest first. -/
def causeRow (code : Nat) : Nat := [0, 2, 1, 5, 4, 3].idxOf code

/-- The cause to record, and the resets to count (R423, R431): of sources of one REFCLK period the higher row counts, once. -/
def causeCount (code : Nat) (s : State) : Nat × Nat :=
  let n := s.rf 0x70001 0 12
  match s.cyc.cause with
  | some c => (if causeRow c < causeRow code then c else code, n)
  | none => (code, min (n + 1) 0xFFF)

/-- SYS_RESET_CAUSE of a reset other than a cold start (R423, R431). -/
def resetCause (x : Nat × Nat) (s : State) : State :=
  (s.wr 0x70001 (BitVec.ofNat 20 (x.1 * 2 ^ 17 + x.2))).mapCyc fun c => { c with cause := some x.1 }

/-- Every domain except KEEP is reset (R61, R90, R423). -/
def resetKeep (code : Nat) (s : State) : State :=
  let t : State :=
    { State.reset with
      pending := s.pending, freeCtr := s.freeCtr, reg := keepRegs s.reg,
      mem := s.mem.filter fun x => inKeepSram x.1, badParity := s.badParity.filter inKeepSram,
      clk := resetClk s.clk.keepMt s.clk.frozen, pwr := resetPwr s.pwr,
      boot := { State.reset.boot with otp := s.boot.otp }, policy := Policy.reset s.policy.bounds }
  resetCause (causeCount code s) (holdReset t)

/-- A cold start: every domain is reset, KEEP included (R52, R423). -/
def resetCold (s : State) : State :=
  holdReset
    { State.reset with
      pending := s.pending, freeCtr := s.freeCtr, clk := resetClk 0 false, cyc := { Cyc.reset with cause := some 0 },
      pwr := { State.reset.pwr with inReset := true, analogSupply := s.pwr.analogSupply },
      boot := { State.reset.boot with otp := s.boot.otp } }

/-- OFF: VDD33 is below its power-off threshold, and nothing runs (R62, R436). -/
def goOff (s : State) : State :=
  ((resetCold s).mapPwr fun p => { p with off := true, fabPower := false }).wf 0x70800 17 3 4

/-- A brown-out (R61): its record at once, then the reset. -/
def brownOut (s : State) : State :=
  let st := s.pstate
  let mt := s.clk.keepMt
  let s := (s.bump 0x7080D).wr 0x70807 (BitVec.ofNat 20 (st * 65536 + 0xB * 2048 + 1))
  resetKeep 2 (s.wrWide 0x70808 3 mt)

/-- Reset is released (R57): on MERIDIAN once locked, otherwise on COAST after the lock-fail timeout. -/
def release (s : State) : State :=
  let coast := !clkLock s
  let s := s.mapPwr fun p => { p with inReset := false }
  let s := forAll 3 (fun i t => setSource i (if coast then 2 else 1) t) s
  fabricLoad ((readyBits [1, 3, 4, 5] s).wb 0x70001 12 coast)

/-- Reset may be released (R57). -/
def mayRelease (s : State) : Bool := s.pwr.inReset && !s.pwr.off && (clkLock s || clkCoast s)

/-- A write to SYS_RESET by Helm0 with the key and go (R423). -/
def sysResetWrite (q : Nat) (v : Word) (s : State) : State :=
  if isHelm0 q && decide (fld v 8 12 = 0x5EA) && tst v 0 then resetKeep 3 s else s

/-- An OTP word (R430). -/
def otpWord (a : Nat) (s : State) : Nat := lookup zeroAt s.boot.otp a

/-- The key hash is in force (R426, R430). -/
def keyInForce (s : State) : Bool := decide (otpWord 148 s % 2 = 1)

/-- SYS_BOOT as it reads (R431). -/
def sysBoot (s : State) : Word := putBit (s.rd 0x70003) 16 (keyInForce s)

/-- SYS_OTP_DATA as it reads (R430). -/
def otpData (s : State) : Word := BitVec.ofNat 20 (otpWord (s.rf 0x70004 0 8) s)

/-- VDDA33 crosses 2.9 V (R435): below it ANALOG is not ready and ref_ok is 0. -/
def vddaCross (above : Bool) (s : State) : State :=
  let s := s.mapPwr fun p => { p with analogSupply := above }
  if above then
    if hasVotes 3 s && decide (s.pstate ≤ 1) && !s.pwr.inReset && s.pwr.wake.isNone && !s.pwr.analogDue then s.wb 0x70800 9 true else s
  else analogLost (s.wb 0x70800 9 false)

/-- COLD_RESET: VDD33 rises through its threshold, or the Keep supply is lost (R423). -/
def execColdReset (s : State) : Result := .next (resetCold s)

/-- PIN_RESET: RST_N is low (R423). -/
def execPinReset (s : State) : Result := happens (!s.pwr.off) (resetKeep 1) s

/-- LOCKUP_RESET: both Helm cores are in lockup (R124, R423). -/
def execLockupReset (s : State) : Result :=
  happens (decide ((s.proc 0).run = .lockup) && decide ((s.proc 1).run = .lockup)) (resetKeep 5) s

/-- SYSRESET: the JTAG instruction (R423). -/
def execSysreset (s : State) : Result := happens (!s.pwr.off) (resetKeep 4) s

/-- SOFT_RESET: a write to SYS_RESET (R423). -/
def execSoftReset (q : Req) (v : Word) (s : State) : Result :=
  .next (withAccess q.toNat 0x70002 true (sysResetWrite q.toNat v) s)

/-- BROWN_OUT: VBUCK falls below its threshold (R61). -/
def execBrownOut (s : State) : Result := happens (!s.pwr.off) brownOut s

/-- RESET_RELEASE: lock, or the lock-fail timeout, ends the reset (R57). -/
def execResetRelease (s : State) : Result := happens (mayRelease s) release s

/-- POWER_OFF: VDD33 falls through its power-off threshold (R436). -/
def execPowerOff (s : State) : Result := .next (goOff s)

/-- VDDA33_CROSSING: VDDA33 crosses 2.9 V (R435). -/
def execVdda33Crossing (above : Bool) (s : State) : Result := happens (!s.pwr.off) (vddaCross above) s

/-- OTP_ADDR_WRITE: a write to SYS_OTP_ADDR (R430). -/
def execOtpAddrWrite (q : Req) (v : Word) (s : State) : Result :=
  .next (withAccess q.toNat 0x70004 true (plainWrite 0x70004 v) s)

/-- OTP_PROG: the JTAG instruction sets 1 bits of a word (R430). -/
def execOtpProg (a : Fin 256) (v : BitVec 16) (s : State) : Result :=
  happens (!s.pwr.off)
    (fun s => s.mapBoot fun b => { b with otp := update zeroAt b.otp a.1 (lookup zeroAt b.otp a.1 ||| v.toNat) }) s

end Sys2Proof.Machine
end

