-- ==== Sys2Proof/Machine/Tl.lean ====
section
/-! DEFINITION. The Turtelink block: presence, slot power, requests and its registers (R413 to R416, R420, R422). -/
namespace Sys2Proof.Machine

/-- A submit to Sextant that waits for power stalls Helm core h (R317). -/
def helmStalled (h : Nat) (s : State) : Bool :=
  s.sxt.stalled.any fun x => decide (x.1 = 0x20 + h) || (decide (h = 1) && decide (x.1 = 0x23))

/-- Helm1 carries out firmware: it is neither stopped, stalled, in lockup nor halted by the ROM handler. -/
def helmUp (h : Nat) (s : State) : Bool :=
  !helmStopped s && !helmStalled h s && decide ((s.proc h).run ≠ .stopped) && decide ((s.proc h).run ≠ .lockup) &&
    decide ((s.proc h).run ≠ .romHalt)

/-- Helm1 serves packets and modules (R385, R424 step 6). -/
def helm1Serves (s : State) : Bool := helmUp 1 s && s.dom 5 && s.host.serving

/-- TL_STATUS.cfg_err is set (R422). -/
def tlCfgErr (s : State) : State := s.wb 0x71400 11 true

/-- The TL block is clocked, which it is not in SLATE (R62, R77). -/
def tlClocked (s : State) : Bool := s.ifaceOn 2 && decide (s.pstate ≤ 1)

/-- The TL block is clocked and its pads are not held (R33, R413). -/
def tlRuns (s : State) : Bool := tlClocked s && !s.rb 0x70820 4

/-- TL receives and sends frames: it is clocked and owns TL_DATA (R29). -/
def tlLine (s : State) : Bool := tlRuns s && padOf 0x36 233 s

/-- Channel w is in the removal masks of slot n (R420, R422). -/
def slotMask (n w : Nat) (s : State) : Bool :=
  if w < 20 then s.rb (0x71410 + 2 * n) w else s.rb (0x71411 + 2 * n) (w - 20)

/-- The removal masks of slot n hold a channel. -/
def slotMasked (n : Nat) (s : State) : Bool := (List.range 32).any fun w => slotMask n w s

/-- The flag of an accepted change: set now, or at the replay where the entry under way latches the change as the wake
event TL_PRES (R80, R413). -/
def presFlag (x : Nat) (s : State) : State := if latches 6 s then wakeEvent 6 (1 + x) s else presChange x s

/-- A slot is accepted as present (R413). -/
def presence (n : Nat) (s : State) : State := presFlag (2 * n + 1) (s.wb 0x71400 n true)

/-- A cell drives a channel of slot n. -/
def drivesSlot (n c : Nat) (s : State) : Bool := (drivenChannels c s).any fun w => slotMask n w s

/-- Channels and cells of a slot that is removed (R420). -/
def slotSafe (n : Nat) (s : State) : State :=
  if s.fabric then
    let cs := (List.range 32).filter fun c => stoppable c s && drivesSlot n c s
    let s := forAll 32 (fun w t => if slotMask n w s then safeRequest w t else t) s
    cs.foldl (fun t c => cellStop c 4 t) s
  else s

/-- A removal ends a discovery of the same slot at once (R421). -/
def cutDiscovery (n : Nat) (s : State) : State :=
  let cut := match s.tl.disc with | some d => decide (d.slot = n) | none => false
  s.mapTl fun t =>
    { t with read := vset t.read n [], disc := if cut then none else t.disc, queue := t.queue.filter (· ≠ n),
             xfer := if cut then t.xfer.map fun x => { x with disc := false } else t.xfer,
             cut := if cut then t.cut ||| BitVec.ofNat 8 (2 ^ n) else t.cut }

/-- A slot is accepted as absent (R414, R420, R421). A bus write to TL_PEN of the same cycle stands (R95). -/
def absence (n : Nat) (s : State) : State :=
  let s := s.wb 0x71400 n false
  let s := presFlag (2 * n) (if s.written 0x71402 then s else s.wb 0x71402 n false)
  cutDiscovery n (slotSafe n s)

/-- A write to TL_PEN (R414): one that sets the bit of a slot not present is ignored with cfg_err; a slot powered without its
pads is a conflict (R99). -/
def tlPen (v : Word) (s : State) : State :=
  let on := fld v 0 8
  let set := (List.range 8).filter fun n => on.testBit n && !s.rb 0x71402 n
  if (List.range 8).any fun n => on.testBit n && !s.rb 0x71400 n then tlCfgErr s
  else needPads 0x36 ((set.map fun n => [234 + n, 242 + n]).flatten) (plainWrite 0x71402 v s)

/-- A request starts (R416, R422); without TL_DATA it goes nowhere, and that is a conflict (R99). -/
def tlSend (cmd addr : Nat) (ws : List Word) (disc : Bool) (s : State) : State :=
  let hdr := BitVec.ofNat 20 (cmd % 16 * 65536 + addr % 64 * 1024 + ws.length)
  let s := (ws.zipIdx).foldl (fun t x => t.wr (0x71440 + x.2) x.1) s
  let s := s.wr 0x71404 (BitVec.ofNat 20 (0x40000 + cmd % 16 * 2 ^ 14 + addr % 64 * 256 + ws.length))
  let s := needPads 0x36 [233] s
  let crc := BitVec.ofNat 20 (crc16 (hdr :: ws))
  s.mapTl fun t => { t with xfer := some { hdr := hdr, ws := ws, crc := crc, tries := 1, waiting := false, disc := disc } }

/-- A write to TL_XFER (R422). -/
def tlXferWrite (v : Word) (s : State) : State :=
  let bad := decide (62 < fld v 0 8)
  let v := if bad then putFld v 0 8 0 else v
  let s := if bad then tlCfgErr s else s
  let s := plainWrite 0x71404 v s
  if !tst v 19 then s
  else if s.tl.xfer.isSome then tlCfgErr s
  else
    tlSend (fld v 14 4) (fld v 8 6) ((List.range (fld v 0 8)).map fun k => s.rd (0x71440 + k)) false s

/-- A write to TL_FILT (R422). -/
def tlFiltWrite (v : Word) (s : State) : State :=
  let w := if fld v 10 10 = 0 then putFld v 10 10 0x200 else v
  let w := if fld w 0 10 = 0 then putFld w 0 10 2 else w
  let s := plainWrite 0x71403 w s
  if w = v then s else tlCfgErr s

/-- A write to a TL register, by Helm1 alone (R422). -/
def tlWrite (q a : Nat) (v : Word) (s : State) : State :=
  if !isHelm1 q then tlCfgErr s
  else if a = 0x71402 then tlPen v s
  else if a = 0x71403 then tlFiltWrite v s
  else if a = 0x71404 then tlXferWrite v s
  else plainWrite a v s

/-- PRESENCE_ACCEPTED: the insertion filter of a slot ends (R413). -/
def execPresenceAccepted (n : Slot) (s : State) : Result :=
  happens (tlRuns s && padOf 0x36 (234 + n.1) s && !s.rb 0x71400 n.1) (presence n.1) s

/-- ABSENCE_ACCEPTED: the removal filter of a slot ends (R413, R420). -/
def execAbsenceAccepted (n : Slot) (s : State) : Result :=
  happens (tlRuns s && padOf 0x36 (234 + n.1) s && s.rb 0x71400 n.1) (absence n.1) s

/-- TL_PEN_WRITE: a write to TL_PEN (R414). -/
def execTlPenWrite (q : Req) (v : Word) (s : State) : Result :=
  .next (withAccess q.toNat 0x71402 true (tlWrite q.toNat 0x71402 v) s)

end Sys2Proof.Machine
end

