-- ==== Sys2Proof/Machine/Key.lean ====
section
/-! DEFINITION. The keyboard scanner, its paths and the exam lock (R342 to R356). -/
namespace Sys2Proof.Machine

/-- KEY_STATUS.cfg_err is set (R356). -/
def keyCfgErr (s : State) : State := s.wb 0x71802 13 true

/-- Keys that a scan sees (R29, R342): those of the columns it drives, where the KEY block owns the pads of column and row. -/
def scanMask (s : State) : BitVec 144 :=
  let rows := (List.range 8).foldl (fun m r => if padOf 0x33 (106 + r) s then m + 2 ^ r else m) 0
  BitVec.ofNat 144
    ((List.range (s.rf 0x71801 15 5)).foldl (fun m c => if padOf 0x33 (88 + c) s then m + rows * 2 ^ (8 * c) else m) 0)

/-- Debounce of one key (R343): its accepted state and its counter. -/
def debounce (k : Nat) (raw : BitVec 144) (need : Nat) (x : BitVec 144 × SMap Nat) : BitVec 144 × SMap Nat :=
  if raw.getLsbD k = x.1.getLsbD k then (x.1, update zeroAt x.2 k 0)
  else
    let n := lookup zeroAt x.2 k + 1
    if need ≤ n then (x.1 ^^^ BitVec.ofNat 144 (2 ^ k), update zeroAt x.2 k 0) else (x.1, update zeroAt x.2 k n)

/-- Debounce of every key that differs or counts (R343). -/
def debounceAll (raw : BitVec 144) (need : Nat) (x : BitVec 144 × SMap Nat) : BitVec 144 × SMap Nat :=
  ((List.range 144).filter fun k => raw.getLsbD k != x.1.getLsbD k || lookup zeroAt x.2 k != 0).foldl
    (fun x k => debounce k raw need x) x

/-- The rows pressed in a column. -/
def keyCol (a : BitVec 144) (c : Nat) : Nat := a.toNat / 2 ^ (8 * c) % 256

/-- The corners of the rectangles of two columns with the rows that both press (R348). -/
def rectCorners (a : BitVec 144) (c1 c2 : Nat) : List (List Nat) :=
  let rows := (List.range 8).filter fun r => (keyCol a c1).testBit r && (keyCol a c2).testBit r
  (rows.map fun r1 => (rows.filter (r1 < ·)).map fun r2 => [8 * c1 + r1, 8 * c1 + r2, 8 * c2 + r1, 8 * c2 + r2]).flatten

/-- Every complete rectangle (R348). -/
def rectangles (a : BitVec 144) : List (List Nat) :=
  let cols := (List.range 18).filter fun c => keyCol a c != 0
  (cols.map fun c1 => ((cols.filter (c1 < ·)).map fun c2 => rectCorners a c1 c2).flatten).flatten

/-- A set of keys. -/
def keySet (ks : List Nat) : BitVec 144 := ks.foldl (fun m k => m ||| BitVec.ofNat 144 (2 ^ k)) 0

/-- A rectangle's name: its lowest corner and its highest. -/
def rectName (r : List Nat) : Nat := 144 * (r.head?.getD 0) + r.getLast?.getD 0

/-- The one corner that each complete rectangle withholds (R348): the one that it has withheld since it became complete, and
of a new rectangle the highest corner that becomes accepted in this scan. -/
def withhold (rects : List (List Nat)) (old : List (Nat × Nat)) (fresh : BitVec 144) : List (Nat × Nat) :=
  rects.filterMap fun r =>
    ((old.lookup (rectName r)).or (r.filter fresh.getLsbD).max?).map fun k => (rectName r, k)

/-- Keys masked at the end of a scan (R349): accepted as pressed for longer than KEY_STUCK_TIME, in units of 0.125 s. -/
def stuckMask (acc was : BitVec 144) (since : SMap Nat) (mt time : Nat) : BitVec 144 :=
  let old := was &&& acc
  if time = 0 then old
  else
    old ||| keySet ((List.range 144).filter fun k =>
      acc.getLsbD k && decide (time * 76800000 < mt - lookup zeroAt since k))

/-- The state that a key wakes from, or would (R79, R80): an entry counts as its target. -/
def wakeView (s : State) : Nat :=
  match s.pwr.entry, s.pwr.wake with
  | some e, _ => e.target
  | none, some w => w.fromState
  | none, none => s.pstate

/-- The press of the wake key wakes the device (R352). -/
def wakePress (k : Nat) (press : Bool) (s : State) : Bool :=
  press && decide (k = wakeKey s) && !examLock s && (decide (wakeView s = 1) || decide (wakeView s = 2)) && wakeEnabled 1 s

/-- A reported change as a wake event (R352): any in DOZE, the wake key in SLATE. -/
def keyWakes (k : Nat) (press : Bool) (s : State) : State :=
  if decide (wakeView s = 1) || (decide (wakeView s = 2) && wakePress k press s) then wakeEvent 1 0 s else s

/-- More than tmo units of 0.125 s have passed since the latest press of an unlock sequence under way (R354). -/
def unlockLate (s : State) : Bool :=
  let tmo := s.rf 0x71823 4 8
  decide (tmo ≠ 0) && decide (0 < s.key.pos) && decide (tmo * 76800000 < s.mt - s.key.pressAt)

/-- A press is compared with the unlock sequence (R354); after its last key the lock waits for the end of the scan. -/
def unlockPress (k : Nat) (s : State) : State :=
  if !examLock s || decide (s.rf 0x71823 0 4 ≤ s.key.pos) then s
  else
    let p := if unlockLate s then 0 else s.key.pos
    let s := s.mapKey fun x => { x with pressAt := s.mt }
    let p := if s.rf (0x71828 + p) 0 8 = k then p + 1 else if s.rf 0x71828 0 8 = k then 1 else 0
    s.mapKey fun x => { x with pos := p }

/-- The entry under way latches the change in Keep, and the scanner acts on it at the replay (R80). -/
def keyWaits (k : Nat) (press : Bool) (s : State) : Bool :=
  latches 1 s && (decide (wakeView s = 1) || (decide (wakeView s = 2) && wakePress k press s))

/-- The press of the wake key that wakes the device is reported on the host paths, whatever route holds: while it is held the
bitmap shows it (R352). -/
def wakingSet (k : Nat) (press : Bool) (s : State) : State :=
  if press && !(wakePress k press s && !hostPaths s) then s
  else
    let b := BitVec.ofNat 144 (2 ^ k)
    s.mapKey fun x => { x with waking := if press then x.waking ||| b else x.waking &&& ~~~ b }

/-- A reported change goes where R350 sends it; behind one that waits for a replay it waits too, so that every path keeps the
order of R344 (log 103). -/
def reportChange (k : Nat) (press stuck ambig : Bool) (s : State) : State :=
  let open_ := hostPaths s || wakePress k press s
  let e := press.toNat * 2 ^ 18 + ambig.toNat * 2 ^ 17 + stuck.toNat * 2 ^ 16 + k * 128 + s.key.scan % 128
  let x := changeCode e open_ (press && calcActive s && (examLock s || decide (k ≠ wakeKey s))) k
  let s := (wakingSet k press s).mapPwr fun p => { p with keyChanged := true }
  let s := if press then unlockPress k s else s
  if keyWaits k press s then wakeEvent 1 1 (keyHold x s)
  else keyWakes k press (if s.key.held.isEmpty then keyChange x s else keyHold x s)

/-- The bitmaps of a key set in registers from a on (R345). -/
def putKeyMap (a : Nat) (m : BitVec 144) (s : State) : State := s.wrWide a 8 m.toNat

/-- The lock clears at the end of a scan in which the sequence is complete, and the bitmap shows keys from the next scan on
(R354). -/
def unlockEnd (s : State) : State :=
  if examLock s && armable s && decide (s.rf 0x71823 0 4 ≤ s.key.pos) then
    let s := ((s.wb 0x71822 0 false).wb 0x71802 15 true).bump 0x71827
    hwIrq 4 (putKeyMap 0x71808 0 (s.mapKey fun k => { k with pos := 0 }))
  else s

/-- Debounce, masking and rectangles of a scan (R343, R348, R349): the new key sets. -/
def scanSets (raw : BitVec 144) (s : State) : State :=
  let k := s.key
  let x := debounceAll (raw &&& scanMask s) (s.rf 0x71801 8 4) (k.accepted, k.deb)
  let fresh := x.1 &&& ~~~ k.accepted
  let mt := s.mt
  let since := ((List.range 144).filter fresh.getLsbD).foldl (fun m i => update zeroAt m i mt) k.since
  let masked := stuckMask x.1 k.masked since mt (s.rf 0x71820 0 12)
  let rects := if s.rb 0x71800 3 then rectangles x.1 else []
  let corners := withhold rects k.corners fresh
  let held := keySet (corners.map (·.2))
  s.mapKey fun k =>
    { k with accepted := x.1, deb := x.2, since := since, masked := masked, withheld := held, corners := corners, ambig := keySet rects.flatten,
             shown := x.1 &&& ~~~ held &&& ~~~ masked, scanning := false, scan := (k.scan + 1) % 128 }

/-- The changes between what was reported pressed and what now is (R344, R348, R349). -/
def reportAll (was : BitVec 144) (s : State) : State :=
  let k := s.key
  let rel := (List.range 144).filter fun i => was.getLsbD i && !k.shown.getLsbD i
  let prs := (List.range 144).filter fun i => k.shown.getLsbD i && !was.getLsbD i
  let s := rel.foldl (fun t i => reportChange i false (k.accepted.getLsbD i && k.masked.getLsbD i) (k.ambig.getLsbD i) t) s
  prs.foldl (fun t i => reportChange i true false (k.ambig.getLsbD i) t) s

/-- A scan ends with the rows it read (R343 to R354). -/
def scanEnd (raw : BitVec 144) (s : State) : State :=
  let was := s.key.shown
  let s := scanSets raw s
  let s := reportAll was s
  let k := s.key
  let s := putKeyMap 0x71818 k.masked (putKeyMap 0x71810 k.ambig (putKeyMap 0x71808 k.shown s))
  unlockEnd ((s.wb 0x71802 17 (decide (k.ambig ≠ 0))).wb 0x71802 16 (decide (k.masked ≠ 0)))

/-- A read of the change FIFO by one of its two readers (R347). -/
def fifoPop (host : Bool) (s : State) : Word × State :=
  if s.rb 0x71800 4 ≠ host then (0, s)
  else
    match s.key.fifo with
    | [] => (0, s)
    | e :: r => (e, s.mapKey fun k => { k with fifo := r })

/-- The exam lock is set, where a sequence stands (R353). -/
def setLock (s : State) : State :=
  if !armable s then keyCfgErr s
  else
    let n := s.key.fifo.length
    ((s.bump 0x71824 n).wb 0x71822 0 true).mapKey fun k => { k with fifo := [], pos := if examLock s then k.pos else 0, waking := 0 }

/-- KEY_STATUS as it reads (R356). -/
def keyStatus (s : State) : Word := putFld (putBit (s.rd 0x71802) 12 (examLock s)) 6 6 s.key.fifo.length

/-- A bitmap word as it reads (R345, R350): nothing for columns at or above ncol, and while the host paths are closed nothing but
a wake key that has woken the device (R352). -/
def keyMapRead (a : Nat) (s : State) : Word :=
  let n := 20 * (a - 0x71808)
  let m := if hostPaths s then s.rd a else if examLock s then 0 else BitVec.ofNat 20 (s.key.waking.toNat / 2 ^ n)
  m &&& BitVec.ofNat 20 (2 ^ (8 * s.rf 0x71801 15 5 - n) - 1)

/-- A write to KEY_CTRL (R343); each pad of the scan that the KEY block does not own is a conflict at the enable (R99). -/
def keyCtrlWrite (v : Word) (s : State) : State :=
  let start := tst v 0 && !s.rb 0x71800 0
  let s := if start then needPads 0x33 (((List.range (s.rf 0x71801 15 5)).map (88 + ·)) ++ ((List.range 8).map (106 + ·))) s else s
  let s := plainWrite 0x71800 v s
  if start then
    let s := putKeyMap 0x71818 0 (putKeyMap 0x71810 0 (putKeyMap 0x71808 0 s))
    ((s.wb 0x71802 17 false).wb 0x71802 16 false).mapKey fun k =>
      { k with accepted := 0, withheld := 0, corners := [], masked := 0, ambig := 0, shown := 0, deb := [], since := [],
               scanning := false, waking := 0 }
  else s

/-- A KEY_SCAN value with reserved fields at their reset values (R356). -/
def scanLegal (v : Word) : Word :=
  let v := if fld v 15 5 = 0 ∨ 18 < fld v 15 5 then putFld v 15 5 18 else v
  let v := if fld v 12 3 = 0 then putFld v 12 3 1 else v
  if fld v 8 4 = 0 then putFld v 8 4 4 else v

/-- A write to the unlock sequence (R355, R356): by the Helm cores while the lock is 0. -/
def unlockWrite (q a : Nat) (v : Word) (s : State) : State :=
  if !isSystem q || examLock s then keyCfgErr s
  else if a = 0x71823 ∧ 8 < fld v 0 4 then keyCfgErr (plainWrite a (putFld v 0 4 0) s)
  else plainWrite a v s

/-- A write to a KEY register (R356). -/
def keyWrite (q a : Nat) (v : Word) (s : State) : State :=
  if a = 0x71800 then keyCtrlWrite v s
  else if a = 0x71801 then
    let s' := plainWrite a (scanLegal v) s
    if scanLegal v = v then s' else keyCfgErr s'
  else if a = 0x71822 then (if tst v 1 then setLock s else s)
  else if a = 0x71823 ∨ (0x71828 ≤ a ∧ a ≤ 0x7182F) then unlockWrite q a v s
  else plainWrite a v s

/-- SCAN_START: a scan starts (R342). -/
def execScanStart (s : State) : Result :=
  happens (scannerOn s && !s.key.scanning) (fun s => s.mapKey fun k => { k with scanning := true, scanAt := s.mt }) s

/-- SCAN_END: a scan ends with the rows it read (R343). -/
def execScanEnd (raw : BitVec 144) (s : State) : Result := happens (scannerOn s && s.key.scanning) (scanEnd raw) s

/-- UNLOCK_TIMEOUT: the time between two presses of the sequence has passed (R354). -/
def execUnlockTimeout (s : State) : Result :=
  happens (examLock s && unlockLate s && s.ifaceOn 5) (fun s => s.mapKey fun k => { k with pos := 0 }) s

/-- KEY_FIFO_READ: a read of KEY_FIFO, or of HW_KEY_EVENT by the host (R347). -/
def execKeyFifoRead (host : Bool) (q : Req) (s : State) : Result :=
  if host then happens (windowOn s) (fun s => hostShown (fifoPop true s).1 (fifoPop true s).2) s
  else .next (withAccess q.toNat 0x71803 false (fun s => (fifoPop false s).2) s)

/-- LOCK_SET: a write to KEY_LOCK, or to HW_LOCK by the host (R353). -/
def execLockSet (host : Bool) (q : Req) (v : Word) (s : State) : Result :=
  if host then happens (windowOn s && tst v 0) (fun s => setLock (endFrame s)) s
  else .next (withAccess q.toNat 0x71822 true (keyWrite q.toNat 0x71822 v) s)

end Sys2Proof.Machine
end

