-- ==== Sys2Proof/Machine/Cupola.lean ====
section
/-! DEFINITION. The Cupola display: frames, image copies, the pump and the registers (R357 to R362). -/
namespace Sys2Proof.Machine

/-- CUP_STATUS.cfg_err is set (R362). -/
def cupCfgErr (s : State) : State := s.wb 0x71C02 17 true

/-- The display words as the registers hold them. -/
def displayWords (s : State) : Mem := s.reg.filter fun x => decide (0x71C40 ≤ x.1) && decide (x.1 < 0x71CA0)

/-- A frame ends and the next begins (R357, R360): polarity inverts; every second frame starts with a copy. -/
def frameEnd (s : State) : State :=
  let copies := s.cup.second && !s.rb 0x71C00 3
  let ws := displayWords s
  let s := (s.bump 0x71C03).mapCup fun c =>
    { c with frameAt := s.mt, polarity := !c.polarity, second := !c.second, latch := if copies then ws else c.latch }
  if copies then s.wb 0x71C02 18 true else s

/-- A change that lets frames run begins a frame (R357, R358). -/
def framesBegin (was : Bool) (s : State) : State :=
  if framesRun s && !was then s.mapCup fun c => { c with frameAt := s.mt } else s

/-- A write to a Cupola register (R361, R362): while the calculator is active only Sextant writes the display. -/
def cupWrite (q a : Nat) (v : Word) (s : State) : State :=
  let mine := decide (a = 0x71C00) || (decide (0x71C40 ≤ a) && decide (a < 0x71CA0))
  if mine && calcActive s && decide (q ≠ 0x22) then cupCfgErr s
  else if a = 0x71C00 then
    if fld v 4 8 = 0 then cupCfgErr (framesBegin (framesRun s) (plainWrite a (putFld v 4 8 0x14) s))
    else framesBegin (framesRun s) (plainWrite a v s)
  else if a = 0x71C01 ∧ 50 < fld v 0 6 then cupCfgErr (plainWrite a (putFld v 0 6 0x1E) s)
  else plainWrite a v s

/-- CUPOLA_FRAME: a frame ends (R357, R360). -/
def execCupolaFrame (s : State) : Result := happens (framesRun s) frameEnd s

/-- PUMP_OK_CHANGE: VLCD enters or leaves its 5 % window (R358). -/
def execPumpOkChange (ok : Bool) (s : State) : Result :=
  happens (s.ifaceOn 6 && (!ok || s.rb 0x71C00 2)) (fun s => framesBegin (framesRun s) (s.wb 0x71C02 19 ok)) s

end Sys2Proof.Machine
end

