-- ==== Sys2Proof/Machine/Dec.lean ====
section
/-! DEFINITION. Sextant numbers: their five words, rounding, exceptions, and the operations that rational arithmetic
gives exactly (R306 to R312). -/
namespace Sys2Proof.Machine

/-- A declet's three digits as a number (R306, IEEE 754-2019 densely packed decimal). -/
def decletVal (d : Nat) : Nat :=
  let a := d / 128 % 8
  let b := d / 16 % 8
  let c := d % 8
  let b2 := b % 2
  let c2 := c % 2
  let a2 := a % 2
  if d / 8 % 2 = 0 then a * 100 + b * 10 + c
  else
    match d / 2 % 4 with
    | 0 => a * 100 + b * 10 + 8 + c2
    | 1 => a * 100 + (8 + b2) * 10 + b / 2 * 2 + c2
    | 2 => (8 + a2) * 100 + b * 10 + a / 2 * 2 + c2
    | _ =>
      match d / 32 % 4 with
      | 0 => (8 + a2) * 100 + (8 + b2) * 10 + a / 2 * 2 + c2
      | 1 => (8 + a2) * 100 + (a / 2 * 2 + b2) * 10 + 8 + c2
      | 2 => a * 100 + (8 + b2) * 10 + 8 + c2
      | _ => (8 + a2) * 100 + (8 + b2) * 10 + 8 + c2

/-- The canonical declet of a number below 1000. -/
def decletOf (n : Nat) : Nat :=
  let x := n / 100 % 10
  let y := n / 10 % 10
  let z := n % 10
  let lo := fun v : Nat => v % 8
  match decide (8 ≤ x), decide (8 ≤ y), decide (8 ≤ z) with
  | false, false, false => lo x * 128 + lo y * 16 + z
  | false, false, true => lo x * 128 + lo y * 16 + 8 + z % 2
  | false, true, false => lo x * 128 + (z / 2 * 2 + y % 2) * 16 + 8 + 2 + z % 2
  | true, false, false => (z / 2 * 2 + x % 2) * 128 + lo y * 16 + 8 + 4 + z % 2
  | true, true, false => (z / 2 * 2 + x % 2) * 128 + (y % 2) * 16 + 14 + z % 2
  | true, false, true => (y / 2 * 2 + x % 2) * 128 + (2 + y % 2) * 16 + 14 + z % 2
  | false, true, true => lo x * 128 + (4 + y % 2) * 16 + 14 + z % 2
  | true, true, true => (x % 2) * 128 + (6 + y % 2) * 16 + 14 + z % 2

/-- The digits of words 1 to 4 as a number (R306). -/
def coefOf (ws : List Word) : Nat :=
  let w := fun i => (ws.getD i 0).toNat
  [4, 3, 2, 1].foldl (fun n i => n * 1000000 + decletVal (w i / 1024) * 1000 + decletVal (w i % 1024)) 0

/-- Words 1 to 4 of digits (R306). -/
def coefWords (c : Nat) : List Word :=
  (List.range 4).map fun i =>
    let g := c / 10 ^ (6 * i) % 1000000
    BitVec.ofNat 20 (decletOf (g / 1000) * 1024 + decletOf (g % 1000))

/-- A number as read (R307). -/
def decRead (ws : List Word) : Dec :=
  let w0 := ws.getD 0 0
  let x := fld w0 0 16
  let c := coefOf ws
  match fld w0 16 3 with
  | 0 => if x = 0 ∨ 19999 < x then .snan 0 else .fin (tst w0 19) c ((x : Int) - 10023)
  | 1 => .inf (tst w0 19)
  | 2 => .qnan c
  | 3 => .snan c
  | _ => .snan 0

/-- An operation's result and its flags: 16 invalid, 8 division by zero, 4 overflow, 2 underflow, 1 inexact (R309). -/
abbrev DRes := Dec × Nat

/-- The quiet NaN that an invalid operation gives (R307, R309). -/
def invalid : DRes := (.qnan 0, 16)

/-- A zero. -/
def dZero (neg : Bool) : Dec := .fin neg 0 0

/-- The number 1. -/
def dOne : Dec := .fin false 1 0

/-- Decimal digits of a number; 0 has none. -/
def digits (n : Nat) : Nat :=
  if n = 0 then 0
  else
    let k := Nat.log2 n * 30103 / 100000
    if n < 10 ^ k then k else if n < 10 ^ (k + 1) then k + 1 else k + 2

/-- A rounding mode (R308) rounds a magnitude away from zero: the kept digits are odd, the rest compared with a half. -/
def roundsUp (mode : Nat) (neg odd : Bool) (rest half : Ordering) : Bool :=
  if rest = .eq then false
  else
    match mode with
    | 1 => half != .lt
    | 2 => false
    | 3 => !neg
    | 4 => neg
    | _ => half == .gt || (half == .eq && odd)

/-- Overflow (R309). -/
def overflowed (mode : Nat) (neg : Bool) : DRes :=
  let big := match mode with | 2 => false | 3 => !neg | 4 => neg | _ => true
  (if big then .inf neg else .fin neg (10 ^ 24 - 1) 9976, 5)

/-- A number in normal form: 24 digits, or fewer at the smallest exponent. -/
def dNormal (neg : Bool) (c : Nat) (q : Int) : Dec :=
  if c = 0 then dZero neg
  else
    let k := min (24 - digits c) (q + 10022).toNat
    .fin neg (c * 10 ^ k) (q - k)

/-- The words of a number in normal form. -/
def normalWords (d : Dec) : List Word :=
  match d with
  | .fin neg c q =>
    let x : Int := if c = 0 then 10000 else q + 10023
    BitVec.ofNat 20 (neg.toNat * 2 ^ 19 + x.toNat) :: coefWords c
  | .inf neg => BitVec.ofNat 20 (neg.toNat * 2 ^ 19 + 0x10000) :: coefWords 0
  | .qnan p => 0x20000#20 :: coefWords p
  | .snan p => 0x30000#20 :: coefWords p

/-- A number as it is written: canonical and normal (R307). -/
def decWords (d : Dec) : List Word :=
  normalWords (match d with | .fin neg c q => dNormal neg c q | d => d)

/-- The value (num / den) * 10^e, not zero, rounded (R308, R309). -/
def roundRat (mode : Nat) (neg : Bool) (num den : Nat) (e : Int) : DRes :=
  let shift : Int := (digits num : Int) - digits den - 24
  let place := fun (k : Int) => if 0 ≤ k then (num, den * 10 ^ k.toNat) else (num * 10 ^ (-k).toNat, den)
  let k := if (place shift).1 / (place shift).2 < 10 ^ 24 then shift else shift + 1
  let k := if (place k).1 / (place k).2 < 10 ^ 23 then k - 1 else k
  let tiny := decide (e + k < -10022)
  let k := if tiny then -10022 - e else k
  let x := place k
  let c := x.1 / x.2
  let r := x.1 % x.2
  let up := roundsUp mode neg (c % 2 == 1) (compare r 0) (compare (2 * r) x.2)
  let c := if up then c + 1 else c
  let inexact := decide (r ≠ 0)
  let q := if c = 10 ^ 24 then k + e + 1 else k + e
  let c := if c = 10 ^ 24 then 10 ^ 23 else c
  if 9976 < q then overflowed mode neg
  else (dNormal neg c q, inexact.toNat + (if tiny && inexact then 2 else 0))

/-- A rational value rounded; zero takes the given sign. -/
def roundVal (mode : Nat) (zneg : Bool) (num : Int) (den : Nat) (e : Int) : DRes :=
  if num = 0 then (dZero zneg, 0) else roundRat mode (decide (num < 0)) num.natAbs den e

/-- A signed coefficient. -/
def sgn (neg : Bool) (c : Nat) : Int := if neg then -(c : Int) else c

/-- 10^k over 10^m as the numerator and denominator of a scale. -/
def scaled (x : Int) (k : Int) : Int × Nat := if 0 ≤ k then (x * 10 ^ k.toNat, 1) else (x, 10 ^ (-k).toNat)

/-- Whether an operand is a signalling NaN. -/
def isSnan : Dec → Bool
  | .snan _ => true
  | _ => false

/-- Whether an operand is a NaN. -/
def isNan : Dec → Bool
  | .snan _ => true
  | .qnan _ => true
  | _ => false

/-- The payload of a NaN. -/
def payload : Dec → Nat
  | .snan p => p
  | .qnan p => p
  | _ => 0

/-- The NaN rule for the operands in order, A before B (R309); none where no operand is a NaN. -/
def nanRule (xs : List Dec) : Option DRes :=
  (xs.find? isNan).map fun d => (.qnan (payload d), if xs.any isSnan then 16 else 0)

/-- A number with its sign changed. -/
def dNeg : Dec → Dec
  | .fin n c q => .fin (!n) c q
  | .inf n => .inf (!n)
  | d => d

/-- The sign of a number. -/
def dSign : Dec → Bool
  | .fin n _ _ => n
  | .inf n => n
  | _ => false

/-- A number is a zero. -/
def isZero : Dec → Bool
  | .fin _ c _ => c == 0
  | _ => false

/-- A finite number as a fraction. -/
def fracOf (neg : Bool) (c : Nat) (q : Int) : Int × Nat := scaled (sgn neg c) q

/-- The sum of two finite values given as coefficient and exponent, rounded once (R308). -/
def addFin (mode : Nat) (na : Bool) (ca : Nat) (qa : Int) (nb : Bool) (cb : Nat) (qb : Int) : DRes :=
  if ca = 0 ∧ cb = 0 then (dZero (if na = nb then na else mode == 4), 0)
  else if ca = 0 then roundVal mode false (sgn nb cb) 1 qb
  else if cb = 0 then roundVal mode false (sgn na ca) 1 qa
  else
    let q := min qa qb
    let x := sgn na ca * 10 ^ (qa - q).toNat + sgn nb cb * 10 ^ (qb - q).toNat
    roundVal mode (mode == 4) x 1 q

/-- ADD (R310, R312). -/
def dAdd (mode : Nat) (a b : Dec) : DRes :=
  match nanRule [a, b] with
  | some r => r
  | none =>
    match a, b with
    | .inf m, .inf n => if m = n then (.inf m, 0) else invalid
    | .inf m, _ => (.inf m, 0)
    | _, .inf n => (.inf n, 0)
    | .fin na ca qa, .fin nb cb qb => addFin mode na ca qa nb cb qb
    | _, _ => invalid

/-- SUB (R310, R312). -/
def dSub (mode : Nat) (a b : Dec) : DRes :=
  match nanRule [a, b] with
  | some r => r
  | none => dAdd mode a (dNeg b)

/-- a × b + c with one rounding: MUL with c a zero of the product's sign, and the sums of R313. -/
def dFma (mode : Nat) (a b c : Dec) : DRes :=
  match nanRule [a, b, c] with
  | some r => r
  | none =>
    let n := dSign a != dSign b
    match a, b, c with
    | .fin _ ca qa, .fin _ cb qb, .fin nc cc qc => addFin mode n (ca * cb) (qa + qb) nc cc qc
    | .fin _ _ _, .fin _ _ _, c => (c, 0)
    | a, b, c =>
      if isZero a || isZero b then invalid
      else
        match c with
        | .inf m => if m = n then (.inf n, 0) else invalid
        | _ => (.inf n, 0)

/-- MUL (R310, R312). -/
def dMul (mode : Nat) (a b : Dec) : DRes := dFma mode a b (dZero (dSign a != dSign b))

/-- DIV (R310, R312). -/
def dDiv (mode : Nat) (a b : Dec) : DRes :=
  match nanRule [a, b] with
  | some r => r
  | none =>
    let n := dSign a != dSign b
    match a, b with
    | .inf _, .inf _ => invalid
    | .inf _, _ => (.inf n, 0)
    | _, .inf _ => (dZero n, 0)
    | .fin _ ca qa, .fin _ cb qb =>
      if cb = 0 then (if ca = 0 then invalid else (.inf n, 8))
      else roundVal mode n (sgn n ca) cb (qa - qb)
    | _, _ => invalid

/-- A quotient of naturals rounded to the nearest integer, ties to even. -/
def nearestEven (n d : Nat) : Nat :=
  let q := n / d
  let r := n % d
  if d < 2 * r || (2 * r == d && q % 2 == 1) then q + 1 else q

/-- REM: A − B × n with n the integer nearest A/B (R310, R312). -/
def dRem (a b : Dec) : DRes :=
  match nanRule [a, b] with
  | some r => r
  | none =>
    match a, b with
    | .inf _, _ => invalid
    | a, .inf _ => (a, 0)
    | .fin na ca qa, .fin _ cb qb =>
      if cb = 0 then invalid
      else if ca = 0 then (dZero na, 0)
      else
        let q := min qa qb
        let x := ca * 10 ^ (qa - q).toNat
        let y := cb * 10 ^ (qb - q).toNat
        let r : Int := (x : Int) - (y * nearestEven x y : Nat)
        roundVal 0 na (if na then -r else r) 1 q
    | _, _ => invalid

/-- The root of a positive rational num / den * 10^(2e) as the floor of its root at k further digits and whether that
is exact. -/
def rootFloor (num den k : Nat) : Nat × Bool :=
  let x := num * 100 ^ k
  let n := Nat.sqrt (x / den)
  (n, n * n * den == x)

/-- The square root of (num / den) * 10^e, not zero, as a rounding sees it: digits enough, and a sticky half beneath. -/
def rootRat (round : Nat → Nat → Int → DRes) (num den : Nat) (e : Int) : DRes :=
  let n := if e % 2 = 0 then num else num * 10
  let e := if e % 2 = 0 then e else e - 1
  let k := 40 + (digits den - digits n) / 2 + 1
  let r := rootFloor n den k
  if r.2 then round r.1 1 (e / 2 - k) else round (2 * r.1 + 1) 2 (e / 2 - k)

/-- SQRT (R310, R312). -/
def dSqrt (mode : Nat) (a : Dec) : DRes :=
  match nanRule [a] with
  | some r => r
  | none =>
    match a with
    | .fin n 0 _ => (dZero n, 0)
    | .fin true _ _ => invalid
    | .inf true => invalid
    | .inf false => (.inf false, 0)
    | .fin false c q => rootRat (roundRat mode false) c 1 q
    | _ => invalid

/-- An integer that a finite magnitude rounds to (R308), and whether it is exact. -/
def intRound (mode : Nat) (neg : Bool) (c : Nat) (q : Int) : Nat × Bool :=
  if 0 ≤ q then (c * 10 ^ q.toNat, true)
  else
    let d := 10 ^ (-q).toNat
    let r := c % d
    let up := roundsUp mode neg (c / d % 2 == 1) (compare r 0) (compare (2 * r) d)
    (if up then c / d + 1 else c / d, r == 0)

/-- INTEGRAL (R312). -/
def dIntegral (mode : Nat) (a : Dec) : DRes :=
  match nanRule [a] with
  | some r => r
  | none =>
    match a with
    | .fin n c q =>
      if 0 ≤ q then (dNormal n c q, 0)
      else
        let r := intRound mode n c q
        (dNormal n r.1 0, (!r.2).toNat)
    | a => (a, 0)

/-- TO_INT40 (R310, R312): the 40-bit integer. -/
def dToInt (mode : Nat) (a : Dec) : Int × Nat :=
  match a with
  | .fin n c q =>
    if c = 0 then (0, 0)
    else if 13 ≤ q then (if n then (-549755813888, 16) else (549755813887, 16))
    else
      let r := intRound mode n c q
      let x := sgn n r.1
      if x < -549755813888 then (-549755813888, 16)
      else if 549755813887 < x then (549755813887, 16)
      else (x, (!r.2).toNat)
  | .inf n => (if n then -549755813888 else 549755813887, 16)
  | _ => (0, 16)

/-- FROM_INT40 (R312). -/
def dFromInt (x : Int) : Dec := dNormal (decide (x < 0)) x.natAbs 0

/-- A number as an exact natural number, where it is one. -/
def natOf (a : Dec) : Option Nat :=
  match a with
  | .fin n c q =>
    if c = 0 then some 0
    else if n then none
    else if 0 ≤ q then some (c * 10 ^ q.toNat)
    else if c % 10 ^ (min 30 (-q).toNat) = 0 then some (c / 10 ^ (min 30 (-q).toNat)) else none
  | _ => none

/-- Faithful rounding (R311): one of the two neighbours, the choice free; the exact value where it is representable. -/
def faithRat (mode : Nat) (pick : Bool) (neg : Bool) (num den : Nat) (e : Int) : DRes :=
  let lo := roundRat 2 neg num den e
  if lo.2 = 0 then lo
  else if lo.2 = 5 then overflowed mode neg
  else roundRat (if pick then 2 else if neg then 4 else 3) neg num den e

/-- Faithful rounding of a signed rational. -/
def faithVal (mode : Nat) (pick : Bool) (num : Int) (den : Nat) (e : Int) : DRes :=
  if num = 0 then (dZero false, 0) else faithRat mode pick (decide (num < 0)) num.natAbs den e

/-- Trailing factors of ten leave a coefficient. -/
def stripTens : Nat → Nat → Int → Nat × Int
  | 0, c, q => (c, q)
  | f + 1, c, q => if c % 10 = 0 ∧ c ≠ 0 then stripTens f (c / 10) (q + 1) else (c, q)

end Sys2Proof.Machine
end

