-- ==== Sys2Proof/Machine/DecFun.lean ====
section
/-! DEFINITION. The transcendental operations of Sextant (R310 to R312). A function is enclosed by a ball: an integer at
scale 10^p and a bound on its error. Its rounding is settled at the first precision at which both ends of the ball
round alike; results that are exact are found beforehand. -/
namespace Sys2Proof.Machine

/-- A real number within e of v, both at scale 10^p. -/
structure Ball where
  v : Int
  e : Nat

/-- The ball of a fraction. -/
def ballRat (p : Nat) (n : Int) (d : Nat) : Ball := ⟨n * 10 ^ p / d, 1⟩

/-- The ball of coefficient times a power of ten. -/
def ballDec (p : Nat) (x : Int) (q : Int) : Ball :=
  if 0 ≤ q + p then ⟨x * 10 ^ (q + p).toNat, 0⟩ else ⟨x / (10 ^ (-(q + p)).toNat : Nat), 1⟩

/-- The sum. -/
def ballAdd (a b : Ball) : Ball := ⟨a.v + b.v, a.e + b.e⟩

/-- The difference. -/
def ballSub (a b : Ball) : Ball := ⟨a.v - b.v, a.e + b.e⟩

/-- The product with an integer. -/
def ballScale (k : Int) (a : Ball) : Ball := ⟨k * a.v, k.natAbs * a.e⟩

/-- The quotient by a positive integer. -/
def ballDivN (k : Nat) (a : Ball) : Ball := ⟨a.v / k, a.e / k + 2⟩

/-- The product. -/
def ballMul (p : Nat) (a b : Ball) : Ball :=
  ⟨a.v * b.v / (10 ^ p : Nat), (a.v.natAbs * b.e + b.v.natAbs * a.e + a.e * b.e) / 10 ^ p + 2⟩

/-- The reciprocal of a ball that does not hold 0. -/
def ballInv (p : Nat) (a : Ball) : Ball :=
  let n := a.v.natAbs
  if n ≤ a.e then ⟨0, 100 ^ p⟩ else ⟨(100 ^ p : Nat) / a.v, 100 ^ p * a.e / (n * (n - a.e)) + 2⟩

/-- The root of a positive ball. -/
def ballSqrt (p : Nat) (a : Ball) : Ball :=
  let r := Nat.sqrt (a.v.toNat * 10 ^ p)
  if r = 0 then ⟨0, Nat.sqrt (a.e * 10 ^ p) + 1⟩ else ⟨r, a.e * 10 ^ p / r + 2⟩

/-- The Taylor sum of exp from term n on, until terms vanish; what is left is below twice the last term. -/
def expSum (p : Nat) (x : Ball) : Nat → Nat → Ball → Ball → Ball
  | 0, _, _, sum => sum
  | f + 1, n, t, sum =>
    let t := ballDivN (n + 1) (ballMul p t x)
    if t.v = 0 ∨ t.v = -1 then ⟨sum.v, sum.e + 2 * (t.v.natAbs + t.e)⟩ else expSum p x f (n + 1) t (ballAdd sum t)

/-- The sum of odd powers of x over their exponents, from 2n + 1 on; the sign alternates for atan, not for atanh. -/
def oddSum (p : Nat) (x2 : Ball) (alt : Bool) : Nat → Nat → Ball → Ball → Ball
  | 0, _, _, sum => sum
  | f + 1, n, t, sum =>
    let sum := ballAdd sum (ballDivN (2 * n + 1) t)
    let t := ballMul p t x2
    let t : Ball := if alt then ⟨-t.v, t.e⟩ else t
    if t.v = 0 ∨ t.v = -1 then ⟨sum.v, sum.e + 2 * (t.v.natAbs + t.e)⟩ else oddSum p x2 alt f (n + 1) t sum

/-- Every second Taylor term of sin or cos from t, the term of order n. -/
def trigSum (p : Nat) (x2 : Ball) : Nat → Nat → Ball → Ball → Ball
  | 0, _, _, sum => sum
  | f + 1, n, t, sum =>
    let sum := ballAdd sum t
    let m := ballDivN ((n + 1) * (n + 2)) (ballMul p t x2)
    let t : Ball := ⟨-m.v, m.e⟩
    if t.v = 0 ∨ t.v = -1 then ⟨sum.v, sum.e + 2 * (t.v.natAbs + t.e)⟩ else trigSum p x2 f (n + 2) t sum

/-- The number 1. -/
def ballOne (p : Nat) : Ball := ⟨10 ^ p, 0⟩

/-- Terms enough for every series at precision p. -/
def terms (p : Nat) : Nat := 4 * p + 100

/-- atanh of a ball within a third of 0. -/
def atanhSmall (p : Nat) (x : Ball) : Ball := oddSum p (ballMul p x x) false (terms p) 0 x ⟨0, 0⟩

/-- atan of a ball within a third of 0. -/
def atanSmall (p : Nat) (x : Ball) : Ball := oddSum p (ballMul p x x) true (terms p) 0 x ⟨0, 0⟩

/-- ln 2. -/
def ballLn2 (p : Nat) : Ball := ballScale 2 (atanhSmall p (ballRat p 1 3))

/-- ln 10. -/
def ballLn10 (p : Nat) : Ball := ballAdd (ballScale 3 (ballLn2 p)) (ballScale 2 (atanhSmall p (ballRat p 1 9)))

/-- pi. -/
def ballPi (p : Nat) : Ball :=
  ballSub (ballScale 16 (atanSmall p (ballRat p 1 5))) (ballScale 4 (atanSmall p (ballRat p 1 239)))

/-- exp. -/
def ballExp (p : Nat) (x : Ball) : Ball :=
  let l := ballLn2 p
  let k := x.v / l.v
  let r := ballSub x (ballScale k l)
  let y := expSum p r (terms p) 0 (ballOne p) (ballOne p)
  if 0 ≤ k then ⟨y.v * 2 ^ k.toNat, y.e * 2 ^ k.toNat⟩
  else ⟨y.v / (2 ^ (-k).toNat : Nat), y.e / 2 ^ (-k).toNat + 2⟩

/-- ln of a positive fraction. -/
def ballLnRat (p : Nat) (n d : Nat) : Ball :=
  let j : Int := (Nat.log2 n : Int) - Nat.log2 d
  let n' := if 0 ≤ j then n else n * 2 ^ (-j).toNat
  let d' := if 0 ≤ j then d * 2 ^ j.toNat else d
  let big := decide (3 * d' < 2 * n')
  let d' := if big then 2 * d' else d'
  let j := if big then j + 1 else j
  ballAdd (ballScale j (ballLn2 p)) (ballScale 2 (atanhSmall p (ballRat p ((n' : Int) - d') (n' + d'))))

/-- ln of a positive number. -/
def ballLn (p : Nat) (c : Nat) (q : Int) : Ball :=
  let k := digits c
  ballAdd (ballLnRat p c (10 ^ k)) (ballScale (q + k) (ballLn10 p))

/-- Halve the argument of atan. -/
def atanHalf (p : Nat) (x : Ball) : Ball :=
  ballMul p x (ballInv p (ballAdd (ballOne p) (ballSqrt p (ballAdd (ballOne p) (ballMul p x x)))))

/-- atan of a ball from -1 to 1. -/
def atanUnit (p : Nat) (x : Ball) : Ball := ballScale 4 (atanSmall p (atanHalf p (atanHalf p x)))

/-- atan of y / x for y and x not negative and not both 0, as fractions of one denominator. -/
def ballAtan2 (p : Nat) (y x : Nat) : Ball :=
  if y ≤ x then atanUnit p (ballRat p y x)
  else ballSub (ballDivN 2 (ballPi p)) (atanUnit p (ballRat p x y))

/-- sin (false) or cos (true) of an angle in radians. -/
def ballTrig (p : Nat) (cos : Bool) (x : Ball) : Ball :=
  let h := ballDivN 2 (ballPi p)
  let k := (2 * x.v + h.v) / (2 * h.v)
  let r := ballSub x (ballScale k h)
  let r2 := ballMul p r r
  let m := (k + (if cos then 1 else 0)) % 4
  let y := if m % 2 = 0 then trigSum p r2 (terms p) 1 r ⟨0, 0⟩ else trigSum p r2 (terms p) 0 (ballOne p) ⟨0, 0⟩
  if 2 ≤ m then ⟨-y.v, y.e⟩ else y

/-- The precisions at which a rounding is attempted. -/
def precisions : List Nat := [45, 90, 180, 360, 720, 1440, 2880, 5760, 11520, 23040]

/-- The rounding of an inexact value that balls enclose (R308, R311). -/
def settleBy (round : Bool → Nat → Nat → Int → DRes) (f : Nat → Ball) : List Nat → DRes
  | [] => invalid
  | p :: ps =>
    let b := f p
    let n := b.v.natAbs
    let lo := round (decide (b.v < 0)) (n - b.e) (10 ^ p) 0
    let hi := round (decide (b.v < 0)) (n + b.e) (10 ^ p) 0
    if b.e < n ∧ lo = hi ∧ lo.2 % 2 = 1 then lo else settleBy round f ps

/-- A correctly rounded value (R311). -/
def settleCr (mode : Nat) (f : Nat → Ball) : DRes := settleBy (roundRat mode) f precisions

/-- A faithfully rounded value (R311). -/
def settleF (mode : Nat) (pick : Bool) (f : Nat → Ball) : DRes := settleBy (faithRat mode pick) f precisions

/-- A value that differs from c * 10^q by less than one part in 10^60, outwards or inwards. -/
def nearby (round : Bool → Nat → Nat → Int → DRes) (neg out : Bool) (c : Nat) (q : Int) : DRes :=
  round neg (if out then c * (10 ^ 60 + 1) else c * (10 ^ 60 - 1)) (10 ^ 60) q

/-- The decimal order: the value lies in 10^(n-1) to 10^n. -/
def order (c : Nat) (q : Int) : Int := digits c + q

/-- A magnitude exceeds a natural number. -/
def exceeds (c : Nat) (q : Int) (k : Nat) : Bool :=
  if 0 ≤ q then decide (k < c * 10 ^ q.toNat) else decide (k * 10 ^ (-q).toNat < c)

/-- A value too small for the format, not zero (R309). -/
def vanishes (round : Bool → Nat → Nat → Int → DRes) (neg : Bool) : DRes := round neg 1 1 (-10100)

/-- exp of a finite number that is not zero. -/
def expFin (round : Bool → Nat → Nat → Int → DRes) (ovf : DRes) (neg : Bool) (c : Nat) (q : Int) : DRes :=
  if 6 ≤ order c q || exceeds c q 23200 then (if neg then vanishes round false else ovf)
  else if order c q < -60 then nearby round false (!neg) 1 0
  else settleBy round (fun p => ballExp p (ballDec p (sgn neg c) q)) precisions

/-- EXP (R312). -/
def dExp (mode : Nat) (a : Dec) : DRes :=
  match nanRule [a] with
  | some r => r
  | none =>
    match a with
    | .inf n => (if n then dZero false else .inf false, 0)
    | .fin n c q => if c = 0 then (dOne, 0) else expFin (roundRat mode) (overflowed mode false) n c q
    | _ => invalid

/-- The exponent of a power of ten. -/
def powerOfTen (c : Nat) (q : Int) : Option Int :=
  let x := stripTens 24 c q
  if x.1 = 1 then some x.2 else none

/-- LN and LOG10 (R310, R312). -/
def dLog (ten : Bool) (mode : Nat) (a : Dec) : DRes :=
  match nanRule [a] with
  | some r => r
  | none =>
    match a with
    | .inf n => if n then invalid else (.inf false, 0)
    | .fin n c q =>
      if c = 0 then (.inf true, 8)
      else if n then invalid
      else
        match powerOfTen c q with
        | some k =>
          if k = 0 then (dZero false, 0)
          else if ten then roundVal mode false k 1 0
          else settleCr mode fun p => ballScale k (ballLn10 p)
        | none =>
          settleCr mode fun p => if ten then ballMul p (ballLn p c q) (ballInv p (ballLn10 p)) else ballLn p c q
    | _ => invalid

/-- EXP10 (R312). -/
def dExp10 (mode : Nat) (a : Dec) : DRes :=
  match nanRule [a] with
  | some r => r
  | none =>
    match a with
    | .inf n => (if n then dZero false else .inf false, 0)
    | .fin n c q =>
      if c = 0 then (dOne, 0)
      else if exceeds c q 10100 then (if n then vanishes (roundRat mode) false else overflowed mode false)
      else
        match natOf (.fin false c q) with
        | some k => roundRat mode false 1 1 (sgn n k)
        | none =>
          if order c q < -60 then nearby (roundRat mode) false (!n) 1 0
          else settleCr mode fun p => ballExp p (ballMul p (ballDec p (sgn n c) q) (ballLn10 p))
    | _ => invalid

/-- The floor of a root by bisection below hi. -/
def rootSearch (n d : Nat) : Nat → Nat → Nat → Nat
  | 0, lo, _ => lo
  | f + 1, lo, hi =>
    let m := (lo + hi + 1) / 2
    if hi ≤ lo then lo else if m ^ d ≤ n then rootSearch n d f m hi else rootSearch n d f lo (m - 1)

/-- The exact d-th root of a natural number. -/
def rootExact (n d : Nat) : Option Nat :=
  let b := Nat.log2 n / d + 2
  let r := rootSearch n d b 0 (2 ^ b)
  if r ^ d = n then some r else none

/-- The d-th root of c * 10^q where it is a decimal: with c no multiple of 10, it is one where c is a d-th power and d divides q.
Only 1 is a d-th power of at most 24 digits for a d above 90. -/
def decRoot (c : Nat) (q : Int) (d : Nat) : Option (Nat × Int) :=
  let s := stripTens 24 c q
  if s.2 % d ≠ 0 then none
  else if s.1 = 1 then some (1, s.2 / d)
  else if 90 < d then none
  else (rootExact s.1 d).map fun x => (x, s.2 / d)

/-- A power c^m * 10^(qm) that can be a decimal of few digits, rounded exactly. One with a negative m lies up to 400 powers of ten
below 10^(qm). -/
def powExact (mode : Nat) (neg : Bool) (x : Nat × Int) (m : Int) : Option DRes :=
  if x.1 = 1 ∨ m.natAbs * digits x.1 ≤ 400 then
    let e := x.2 * m
    if 10100 < (if 0 ≤ m then e else e - 400) then some (overflowed mode neg)
    else if e < -10600 then some (vanishes (roundRat mode) neg)
    else
      let y := x.1 ^ m.natAbs
      some (if 0 ≤ m then roundRat mode neg y 1 e else roundRat mode neg 1 y e)
  else none

/-- |A|^B for finite A other than 0 and 1 and finite B other than 0. -/
def powFin (mode : Nat) (neg : Bool) (ca : Nat) (qa : Int) (nb : Bool) (cb : Nat) (qb : Int) : DRes :=
  let up := decide (0 < (ballLn 45 ca qa).v)
  let far := if up != nb then overflowed mode neg else vanishes (roundRat mode) neg
  if 30 ≤ order cb qb then far
  else
    let s := stripTens 24 cb qb
    let d := if 0 ≤ s.2 then 1 else 10 ^ (min 40 (-s.2).toNat)
    let n := if 0 ≤ s.2 then s.1 * 10 ^ s.2.toNat else s.1
    let g := Nat.gcd n d
    let exact := if s.2 < -40 then none else (decRoot ca qa (d / g)).bind fun x => powExact mode neg x (sgn nb (n / g))
    match exact with
    | some r => r
    | none =>
      let l := ballMul 90 (ballLn 90 ca qa) (ballDec 90 (sgn nb cb) qb)
      if 24000 * 10 ^ 90 < l.v.natAbs then far
      else if l.v.natAbs + l.e < 10 ^ 29 then nearby (roundRat mode) neg (up != nb) 1 0
      else
        settleBy (fun _ n d e => roundRat mode neg n d e)
          (fun p => ballExp p (ballMul (p + 40) (ballLn (p + 40) ca qa) (ballDec (p + 40) (sgn nb cb) qb) |> fun b =>
            ⟨b.v / (10 ^ 40 : Nat), b.e / 10 ^ 40 + 2⟩)) precisions

/-- An exponent is an integer, and an odd one. -/
def intKind (c : Nat) (q : Int) : Bool × Bool :=
  if c = 0 then (true, false)
  else if 0 ≤ q then (true, decide (q = 0) && c % 2 == 1)
  else
    let d := 10 ^ (min 30 (-q).toNat)
    (decide (c % d = 0), decide (c % d = 0) && c / d % 2 == 1)

/-- POW with an infinite exponent, by the IEEE pow function (R310). -/
def powInfExp (up : Bool) (a : Dec) : DRes :=
  match a with
  | .fin _ c q =>
    if c = 0 then (if up then dZero false else .inf false, if up then 0 else 0)
    else if powerOfTen c q = some 0 then (dOne, 0)
    else if (decide (0 < order c q)) = up then (.inf false, 0)
    else (dZero false, 0)
  | _ => (if up then .inf false else dZero false, 0)

/-- POW of a zero or an infinity to a finite exponent that is not zero (R310). -/
def powEdge (a : Dec) (nb odd : Bool) : DRes :=
  let n := dSign a && odd
  if isZero a != nb then (dZero n, 0) else (.inf n, if isZero a then 8 else 0)

/-- POW (R310, R312): the IEEE pow function, with 0^0 = 1, x^0 = 1 and 1^y = 1. -/
def dPow (mode : Nat) (a b : Dec) : DRes :=
  let one := match a with | .fin false c q => decide (c ≠ 0) && decide (powerOfTen c q = some 0) | _ => false
  let snan := isSnan a || isSnan b
  if !snan && (isZero b || one) then (dOne, 0)
  else
    match nanRule [a, b] with
    | some r => r
    | none =>
      match a, b with
      | a, .inf nb => powInfExp (!nb) a
      | .fin na ca qa, .fin nb cb qb =>
        let k := intKind cb qb
        if ca = 0 then powEdge a nb k.2
        else if na && !k.1 then invalid
        else if powerOfTen ca qa = some 0 then (.fin (na && k.2) 1 0, 0)
        else powFin mode (na && k.2) ca qa nb cb qb
      | a, .fin nb cb qb => powEdge a nb (intKind cb qb).2
      | _, _ => invalid

/-- A full turn in the request's unit: 360 degrees or 400 grads (R315). -/
def turnOf (unit : Nat) : Nat := if unit = 1 then 360 else 400

/-- A magnitude's part of a turn as a fraction below 1 (R311). -/
def turnPart (unit : Nat) (c : Nat) (q : Int) : Nat × Nat :=
  let m := turnOf unit
  if 0 ≤ q then (c * 10 ^ q.toNat % m, m)
  else
    let d := m * 10 ^ (-q).toNat
    (c % d, d)

/-- Twice the sine of k twelfths of a turn, where it is rational. -/
def sinTwelfth (k : Nat) : Option Int :=
  match k % 12 with
  | 0 => some 0
  | 1 => some 1
  | 3 => some 2
  | 5 => some 1
  | 6 => some 0
  | 7 => some (-1)
  | 9 => some (-2)
  | 11 => some (-1)
  | _ => none

/-- A ball with its sign changed. -/
def ballNeg (b : Ball) (neg : Bool) : Ball := if neg then ⟨-b.v, b.e⟩ else b

/-- The ball of the angle 2 pi n / d. -/
def ballTurn (p n d : Nat) : Ball := ballMul p (ballRat p (2 * n) d) (ballPi p)

/-- SIN or COS in degrees or grads of a finite number that is not zero. -/
def trigTurn (mode : Nat) (cos : Bool) (unit : Nat) (neg : Bool) (c : Nat) (q : Int) : DRes :=
  let t := turnPart unit c q
  let exact := if 12 * t.1 % t.2 = 0 then sinTwelfth (12 * t.1 / t.2 + (if cos then 3 else 0)) else none
  let flip := neg && !cos
  match exact with
  | some k => if k = 0 then (dZero flip, 0) else roundVal mode false (if flip then -k else k) 2 0
  | none => settleCr mode fun p => ballNeg (ballTrig p cos (ballTurn p t.1 t.2)) flip

/-- SIN and COS (R310 to R312). -/
def dTrig (cos : Bool) (mode unit : Nat) (a : Dec) : DRes :=
  match nanRule [a] with
  | some r => r
  | none =>
    match a with
    | .fin n c q =>
      if c = 0 then (if cos then dOne else dZero n, 0)
      else if unit = 1 ∨ unit = 2 then trigTurn mode cos unit n c q
      else if order c q < -40 then
        (if cos then nearby (roundRat mode) false false 1 0 else nearby (roundRat mode) n false c q)
      else settleCr mode fun p => ballTrig p cos (ballDec p (sgn n c) q)
    | _ => invalid

/-- A quotient of balls. -/
def ballDiv (p : Nat) (a b : Ball) : Ball := ballMul p a (ballInv p b)

/-- TAN in degrees or grads of a finite number that is not zero: exact at multiples of an eighth of a turn, with the poles
of IEEE tanPi. -/
def tanTurn (mode unit : Nat) (neg : Bool) (c : Nat) (q : Int) : DRes :=
  let t := turnPart unit c q
  let f := fun p => ballNeg (ballDiv p (ballTrig p false (ballTurn p t.1 t.2)) (ballTrig p true (ballTurn p t.1 t.2))) neg
  if 8 * t.1 % t.2 = 0 then
    match 8 * t.1 / t.2 with
    | 0 => (dZero neg, 0)
    | 4 => (dZero (!neg), 0)
    | 2 => (.inf neg, 8)
    | 6 => (.inf (!neg), 8)
    | k => (.fin (neg != (k % 4 == 3)) 1 0, 0)
  else settleCr mode f

/-- TAN (R310 to R312). -/
def dTan (mode unit : Nat) (a : Dec) : DRes :=
  match nanRule [a] with
  | some r => r
  | none =>
    match a with
    | .fin n c q =>
      if c = 0 then (dZero n, 0)
      else if unit = 1 ∨ unit = 2 then tanTurn mode unit n c q
      else if order c q < -40 then nearby (roundRat mode) n true c q
      else
        settleCr mode fun p =>
          let x := ballDec p (sgn n c) q
          ballDiv p (ballTrig p false x) (ballTrig p true x)
    | _ => invalid

/-- The angle of a part of a turn as a fraction in the unit, or as a ball in radians: k parts of den of a half turn. -/
def halfTurn (round : Bool → Nat → Nat → Int → DRes) (unit : Nat) (neg : Bool) (k den : Nat) : DRes :=
  if unit = 1 ∨ unit = 2 then round neg (k * (turnOf unit / 2)) den 0
  else settleBy round (fun p => ballNeg (ballDivN den (ballScale k (ballPi p))) neg) precisions

/-- A ball in radians brought to the unit. -/
def toUnit (p unit : Nat) (b : Ball) : Ball :=
  if unit = 1 ∨ unit = 2 then ballDiv p (ballScale (turnOf unit / 2 : Nat) b) (ballPi p) else b

/-- atan of the fraction y / x in the unit, for y and x positive; tiny says that y / x is below 10^-40. -/
def atanFrac (round : Bool → Nat → Nat → Int → DRes) (unit : Nat) (neg : Bool) (y x : Nat) : DRes :=
  if y = x then halfTurn round unit neg 1 4
  else settleBy round (fun p => ballNeg (toUnit p unit (ballAtan2 p y x)) neg) precisions

/-- A positive decimal as a fraction. -/
def natFrac (c : Nat) (q : Int) : Nat × Nat := if 0 ≤ q then (c * 10 ^ q.toNat, 1) else (c, 10 ^ (-q).toNat)

/-- ATAN (R311, R312). -/
def dAtan (mode unit : Nat) (a : Dec) : DRes :=
  match nanRule [a] with
  | some r => r
  | none =>
    match a with
    | .inf n => halfTurn (roundRat mode) unit n 1 2
    | .fin n c q =>
      if c = 0 then (dZero n, 0)
      else if order c q < -40 ∧ ¬(unit = 1 ∨ unit = 2) then nearby (roundRat mode) n false c q
      else let f := natFrac c q; atanFrac (roundRat mode) unit n f.1 f.2
    | _ => invalid

/-- asin of y / x below 1, in radians. -/
def ballAsin (p y x : Nat) : Ball :=
  let r := ballSqrt p (ballRat p ((x : Int) * x - y * y) (x * x))
  let z := ballRat p y x
  if 10 * y ≤ 7 * x then atanUnit p (ballDiv p z r)
  else ballSub (ballDivN 2 (ballPi p)) (atanUnit p (ballDiv p r z))

/-- ASIN (R310 to R312). -/
def dAsin (mode unit : Nat) (pick : Bool) (a : Dec) : DRes :=
  match nanRule [a] with
  | some r => r
  | none =>
    match a with
    | .fin n c q =>
      let f := natFrac c q
      let rnd := faithRat mode pick
      if c = 0 then (dZero n, 0)
      else if f.2 < f.1 then invalid
      else if f.1 = f.2 then halfTurn rnd unit n 1 2
      else if 2 * f.1 = f.2 then halfTurn rnd unit n 1 6
      else if order c q < -40 ∧ ¬(unit = 1 ∨ unit = 2) then nearby rnd n true c q
      else settleBy rnd (fun p => ballNeg (toUnit p unit (ballAsin p f.1 f.2)) n) precisions
    | _ => invalid

/-- ACOS (R310 to R312). -/
def dAcos (mode unit : Nat) (pick : Bool) (a : Dec) : DRes :=
  match nanRule [a] with
  | some r => r
  | none =>
    match a with
    | .fin n c q =>
      let f := natFrac c q
      let rnd := faithRat mode pick
      if c = 0 then halfTurn rnd unit false 1 2
      else if f.2 < f.1 then invalid
      else if f.1 = f.2 then (if n then halfTurn rnd unit false 1 1 else (dZero false, 0))
      else if 2 * f.1 = f.2 then halfTurn rnd unit false (if n then 2 else 1) 3
      else
        settleBy rnd (fun p =>
          toUnit p unit (ballSub (ballDivN 2 (ballPi p)) (ballNeg (ballAsin p f.1 f.2) n))) precisions
    | _ => invalid

/-- ATAN2 of finite y and x that are not both on an axis or a diagonal, x negative or not. -/
def atan2Fin (mode unit : Nat) (pick : Bool) (ny nx : Bool) (cy : Nat) (qy : Int) (cx : Nat) (qx : Int) : DRes :=
  let q := min qy qx
  let y := cy * 10 ^ (qy - q).toNat
  let x := cx * 10 ^ (qx - q).toNat
  let rnd := faithRat mode pick
  if y = x then halfTurn rnd unit ny (if nx then 3 else 1) 4
  else if !nx && decide (order cy qy + 60 < order cx qx) && !(decide (unit = 1) || decide (unit = 2)) then
    rnd ny (10 ^ 100 * cy - 1) (10 ^ 100 * cx) (qy - qx)
  else
    settleBy rnd (fun p =>
      let b := ballAtan2 p y x
      ballNeg (toUnit p unit (if nx then ballSub (ballPi p) b else b)) ny) precisions

/-- ATAN2: the angle of the point (B, A), by IEEE atan2 (R310, R312). -/
def dAtan2 (mode unit : Nat) (pick : Bool) (a b : Dec) : DRes :=
  match nanRule [a, b] with
  | some r => r
  | none =>
    let rnd := faithRat mode pick
    let ny := dSign a
    let nx := dSign b
    match a, b with
    | .inf _, .inf _ => halfTurn rnd unit ny (if nx then 3 else 1) 4
    | .inf _, _ => halfTurn rnd unit ny 1 2
    | _, .inf _ => if nx then halfTurn rnd unit ny 1 1 else (dZero ny, 0)
    | .fin _ cy qy, .fin _ cx qx =>
      if cy = 0 then (if nx then halfTurn rnd unit ny 1 1 else (dZero ny, 0))
      else if cx = 0 then halfTurn rnd unit ny 1 2
      else atan2Fin mode unit pick ny nx cy qy cx qx
    | _, _ => invalid

/-- SINH (R312). -/
def dSinh (mode : Nat) (pick : Bool) (a : Dec) : DRes :=
  match nanRule [a] with
  | some r => r
  | none =>
    match a with
    | .fin n c q =>
      let rnd := faithRat mode pick
      if c = 0 then (dZero n, 0)
      else if 6 ≤ order c q || exceeds c q 23200 then overflowed mode n
      else if order c q < -40 then nearby rnd n true c q
      else
        settleBy rnd (fun p =>
          let e := ballExp p (ballDec p c q)
          ballNeg (ballDivN 2 (ballSub e (ballInv p e))) n) precisions
    | a => (a, 0)

/-- COSH (R312). -/
def dCosh (mode : Nat) (pick : Bool) (a : Dec) : DRes :=
  match nanRule [a] with
  | some r => r
  | none =>
    match a with
    | .fin _ c q =>
      let rnd := faithRat mode pick
      if c = 0 then (dOne, 0)
      else if 6 ≤ order c q || exceeds c q 23200 then overflowed mode false
      else if order c q < -40 then nearby rnd false true 1 0
      else
        settleBy rnd (fun p =>
          let e := ballExp p (ballDec p c q)
          ballDivN 2 (ballAdd e (ballInv p e))) precisions
    | _ => (.inf false, 0)

/-- TANH (R312). -/
def dTanh (mode : Nat) (pick : Bool) (a : Dec) : DRes :=
  match nanRule [a] with
  | some r => r
  | none =>
    match a with
    | .fin n c q =>
      let rnd := faithRat mode pick
      if c = 0 then (dZero n, 0)
      else if 3 ≤ order c q then nearby rnd n false 1 0
      else if order c q < -40 then nearby rnd n false c q
      else
        settleBy rnd (fun p =>
          let e := ballExp p (ballDec p (2 * c) q)
          ballNeg (ballDiv p (ballSub e (ballOne p)) (ballAdd e (ballOne p))) n) precisions
    | a => (.fin (dSign a) 1 0, 0)

/-- ln of y plus the root of y² + s, for a fraction y = n / d and s = 1 or -1. -/
def ballArea (p : Nat) (n d : Nat) (s : Int) : Ball :=
  let r := Nat.sqrt (((n : Int) * n + s * d * d).toNat * 100 ^ p)
  let x := n * 10 ^ p + r
  let b := ballLnRat p x (d * 10 ^ p)
  ⟨b.v, b.e + 10 ^ p / (x + 1) + 2⟩

/-- ASINH (R312). -/
def dAsinh (mode : Nat) (pick : Bool) (a : Dec) : DRes :=
  match nanRule [a] with
  | some r => r
  | none =>
    match a with
    | .fin n c q =>
      let f := natFrac c q
      if c = 0 then (dZero n, 0)
      else if order c q < -40 then nearby (faithRat mode pick) n false c q
      else settleF mode pick fun p => ballNeg (ballArea p f.1 f.2 1) n
    | a => (a, 0)

/-- ACOSH (R310, R312). -/
def dAcosh (mode : Nat) (pick : Bool) (a : Dec) : DRes :=
  match nanRule [a] with
  | some r => r
  | none =>
    match a with
    | .inf n => if n then invalid else (.inf false, 0)
    | .fin n c q =>
      let f := natFrac c q
      if n || decide (f.1 < f.2) then invalid
      else if f.1 = f.2 then (dZero false, 0)
      else settleF mode pick fun p => ballArea p f.1 f.2 (-1)
    | _ => invalid

/-- ATANH (R310, R312). -/
def dAtanh (mode : Nat) (pick : Bool) (a : Dec) : DRes :=
  match nanRule [a] with
  | some r => r
  | none =>
    match a with
    | .fin n c q =>
      let f := natFrac c q
      if c = 0 then (dZero n, 0)
      else if f.2 < f.1 then invalid
      else if f.1 = f.2 then (.inf n, 8)
      else if order c q < -40 then nearby (faithRat mode pick) n true c q
      else settleF mode pick fun p => ballNeg (ballDivN 2 (ballLnRat p (f.2 + f.1) (f.2 - f.1))) n
    | _ => invalid

/-- The product of k numbers from n down. -/
def fallProd : Nat → Nat → Nat → Nat
  | 0, _, acc => acc
  | k + 1, n, acc => fallProd k (n - 1) (acc * n)

/-- A falling product divided by k! step by step, given up once it is beyond the format. -/
def binom : Nat → Nat → Nat → Nat → Option Nat
  | 0, _, _, acc => some acc
  | f + 1, n, i, acc =>
    if 34000 < Nat.log2 acc then none else binom f n (i + 1) (acc * (n - i) / (i + 1))

/-- FACT (R310 to R312). -/
def dFact (mode : Nat) (pick : Bool) (a : Dec) : DRes :=
  match nanRule [a] with
  | some r => r
  | none =>
    match a with
    | .inf false => (.inf false, 0)
    | a =>
      match natOf a with
      | none => invalid
      | some n =>
        if 3248 < n then (.inf false, 5)
        else if n ≤ 32 then roundRat mode false (fallProd n n 1) 1 0
        else faithRat mode pick false (fallProd n n 1) 1 0

/-- NCR and NPR (R310 to R312): beyond the bounds the value exceeds the format. -/
def dComb (perm : Bool) (mode : Nat) (pick : Bool) (a b : Dec) : DRes :=
  match nanRule [a, b] with
  | some r => r
  | none =>
    match natOf a, natOf b with
    | some n, some r =>
      if n < r then (dZero false, 0)
      else if perm then
        if 3250 ≤ r then overflowed mode false else faithRat mode pick false (fallProd r n 1) 1 0
      else
        let m := min r (n - r)
        if 33220 < m then overflowed mode false
        else
          match binom m n 0 1 with
          | some x => faithRat mode pick false x 1 0
          | none => overflowed mode false
    | _, _ => invalid

/-- TO_RAD and FROM_RAD (R312). -/
def dAngle (from_ : Bool) (mode unit : Nat) (a : Dec) : DRes :=
  match nanRule [a] with
  | some r => r
  | none =>
    match a with
    | .fin n c q =>
      if c = 0 then (dZero n, 0)
      else if ¬(unit = 1 ∨ unit = 2) then (dNormal n c q, 0)
      else
        let h := turnOf unit / 2
        let m := stripTens 24 c 0
        settleBy (fun neg x d _ => roundRat mode neg x d (q + m.2))
          (fun p =>
            let x := ballScale (sgn n m.1) (ballPi p)
            if from_ then ballDiv p (ballScale (sgn n m.1 * h) (ballOne p)) (ballPi p) else ballDivN h x) precisions
    | a => (a, 0)

end Sys2Proof.Machine
end

