-- ==== Sys2Proof/Machine/SxtReg.lean ====
section
/-! DEFINITION. Sextant's registers: status, queue heads, the calculator's control and patch loading (R322, R323, R338 to
R341). -/
namespace Sys2Proof.Machine

/-- SXT_STATUS.cfg_err is set (R322). -/
def sxtCfgErr (s : State) : State := s.wb 0x72000 16 true

/-- SXT_STATUS as it reads (R322). -/
def sxtStatus (s : State) : Word :=
  putFld (putFld (putBit (s.rd 0x72000) 18 (calcActive s)) 8 4 (sxtCount false s)) 4 4 (sxtCount true s)

/-- The operation under way comes from a queue: 1 interactive, 2 bulk. -/
def runsQueue (k : Nat) (s : State) : Bool := match s.sxt.run with | some o => decide (o.queue = k) | none => false

/-- Word 0 of the request at the head of a queue, whose descriptor lies at a: as it was read where the operation has started, and
as it stands where it waits (R319, R322). -/
def headWord (bulk : Bool) (a : Word) (s : State) : Word :=
  match (if runsQueue (if bulk then 2 else 1) s then s.sxt.run else if bulk then s.sxt.part else none) with
  | some o => o.word0
  | none => s.rdMem a.toNat

/-- SXT_HEADq as it reads (R318, R322). -/
def sxtHead (bulk : Bool) (s : State) : Word :=
  match (if bulk then s.sxt.q1 else s.sxt.q0) with
  | [] => 0
  | a :: _ =>
    let running := runsQueue (if bulk then 2 else 1) s
    let st := if running then (if sxtStopped s then 3 else 2) else if bulk && s.sxt.part.isSome then 3 else 1
    BitVec.ofNat 20 (st * 2 ^ 17 + fld (headWord bulk a s) 0 4)

/-- Five words of the number 0 (R307). -/
def zeroWords : List Word := decWords (dZero false)

/-- Numbers from an address on are set to 0. -/
def zeroNumbers (a n : Nat) (s : State) : State :=
  (List.range n).foldl (fun t k => t.wrMemN (a + 5 * k) zeroWords) s

/-- Memories, history, S0 and what is pending are cleared (R322). -/
def calcClear (s : State) : State :=
  let s := zeroNumbers 0x3D1A0 6 (zeroNumbers 0x3D140 16 (zeroNumbers 0x3D100 10 s))
  s.mapCalc fun c => { Calc.reset with unit := c.unit, base := c.base }

/-- A write to SXT_CALC_CTRL (R322). -/
def calcCtrlWrite (v : Word) (s : State) : State :=
  let active := calcActive s
  let s := (plainWrite 0x72008 v s).mapCalc fun c => { c with drawn := c.drawn && active }
  if !tst v 1 then s else if active then sxtCfgErr s else calcClear s

/-- Operations are held, and none is running or PARTIAL (R340). -/
def patchHeld (s : State) : Bool := s.rb 0x72011 0 && s.sxt.run.isNone && s.sxt.part.isNone

/-- SXT_PATCH_STATUS as it reads (R341). -/
def patchStatus (s : State) : Word := putBit (s.rd 0x72012) 18 (patchHeld s)

/-- The counts of a record: microwords, nanowords, matches (R339). -/
def patchCounts (r : List Word) : Nat × Nat × Nat :=
  let w := r.getD 2 0
  (fld w 13 7, fld w 8 5, fld w 3 5)

/-- The length of a record, once its word 2 stands (R339). -/
def patchLen (r : List Word) : Nat :=
  let c := patchCounts r
  5 + c.2.2 + c.1 + 7 * c.2.1

/-- The matches of a record. -/
def patchMatches (r : List Word) : List Word := (r.drop 3).take (patchCounts r).2.2

/-- The format of a record holds (R339, R340). -/
def patchFormat (r : List Word) : Bool :=
  let c := patchCounts r
  (r.drop (r.length - 2)).all (fun w => decide (fld w 16 4 = 0)) &&
  decide (r.getD 0 0 = 0x5A701#20) && decide (r.getD 1 0 ≠ 0) && decide (c.1 ≤ 64) && decide (c.2.1 ≤ 16) &&
    decide (c.2.2 ≤ 16) && decide (fld (r.getD 2 0) 0 3 = 0) &&
    (patchMatches r).all (fun m => tst m 19 && !tst m 18 && decide (fld m 12 6 < c.1)) &&
    (List.range c.2.1).all fun i => decide (fld (r.getD (3 + c.2.2 + c.1 + 7 * i + 6) 0) 8 12 = 0)

/-- The CRC of a record holds (R339). -/
def patchCrc (r : List Word) : Bool :=
  let n := r.length - 2
  decide (fld (r.getD n 0) 0 16 + 65536 * fld (r.getD (n + 1) 0) 0 16 = crc32 (r.take n))

/-- The patch RAM is cleared and every match disarmed (R340). -/
def patchClear (s : State) : State :=
  let s := s.mapSxt fun x => { x with patchMicro := [], patchNano := [] }
  (s.wrWide 0x72020 16 0).wr 0x72010 0 |>.wb 0x72012 19 false

/-- A record that passed its checks takes effect (R340). -/
def patchArm (r : List Word) (s : State) : State :=
  let c := patchCounts r
  let k := c.2.2
  let micro := ((r.drop (3 + k)).take c.1).zipIdx
  let nano := (List.range c.2.1).map fun i => (ofWords ((r.drop (3 + k + c.1 + 7 * i)).take 7), i)
  let s := s.mapSxt fun x =>
    { x with patchMicro := micro.foldl (fun m w => update zeroAt m w.2 (w.1.toNat + 1)) [],
             patchNano := nano.foldl (fun m w => update zeroAt m w.2 (w.1 + 1)) [] }
  let s := ((patchMatches r).zipIdx).foldl (fun t m => t.wr (0x72020 + m.2) m.1) s
  (s.wr 0x72010 (r.getD 1 0)).wb 0x72012 19 true

/-- The last word of a record has arrived (R340). -/
def patchCheck (r : List Word) (s : State) : State :=
  let s := s.mapSxt fun x => { x with record := none, recordDone := true }
  let s := if patchCrc r then s else s.wb 0x72012 17 true
  let s := if patchFormat r then s else s.wb 0x72012 16 true
  if patchCrc r && patchFormat r then patchArm r s else s

/-- A word of a record (R340). -/
def patchWord (v : Word) (s : State) : State :=
  let first := s.sxt.record.isNone
  let s := if first then patchClear s else s
  let r := (s.sxt.record.getD []) ++ [v]
  let s := s.mapSxt fun x => { x with record := some r }
  if 3 ≤ r.length ∧ patchLen r ≤ r.length then patchCheck r s else s

/-- A write to SXT_PATCH_DATA (R340). -/
def patchDataWrite (q : Nat) (v : Word) (s : State) : State :=
  if !isHelm0 q || !patchHeld s || s.sxt.recordDone then sxtCfgErr s else patchWord v s

/-- A write to SXT_PATCH_CTRL (R340). -/
def patchCtrlWrite (q : Nat) (v : Word) (s : State) : State :=
  if !isHelm0 q then sxtCfgErr s
  else
    let s := plainWrite 0x72011 v s
    if tst v 0 then s
    else
      let cut := s.sxt.record.isSome
      let s := s.mapSxt fun x => { x with record := none, recordDone := false }
      if cut then (patchClear s).wb 0x72012 16 true else s

/-- A write to an SXT register (R316, R322, R341). -/
def sxtWrite (q a : Nat) (v : Word) (s : State) : State :=
  if a = 0x72001 then sxtSubmit q false v s
  else if a = 0x72002 then sxtSubmit q true v s
  else if a = 0x72008 then calcCtrlWrite v s
  else if a = 0x72011 then patchCtrlWrite q v s
  else if a = 0x72013 then patchDataWrite q v s
  else plainWrite a v s

/-- PATCH_HOLD: a write of hold = 1 (R340). -/
def execPatchHold (q : Req) (s : State) : Result :=
  .next (withAccess q.toNat 0x72011 true (patchCtrlWrite q.toNat 1) s)

/-- PATCH_RELEASE: a write of hold = 0 (R340). -/
def execPatchRelease (q : Req) (s : State) : Result :=
  .next (withAccess q.toNat 0x72011 true (patchCtrlWrite q.toNat 0) s)

/-- PATCH_DATA: a write to SXT_PATCH_DATA (R340). -/
def execPatchData (q : Req) (v : Word) (s : State) : Result :=
  .next (withAccess q.toNat 0x72013 true (patchDataWrite q.toNat v) s)

/-- CALC_CLEAR: a write of SXT_CALC_CTRL.clr, en standing as it is (R322). -/
def execCalcClear (q : Req) (s : State) : Result :=
  .next (withAccess q.toNat 0x72008 true (fun s => calcCtrlWrite (putBit (s.rd 0x72008) 1 true) s) s)

end Sys2Proof.Machine
end

