-- ==== Sys2Proof/Machine/Hostif.lean ====
section
/-! DEFINITION. The host window, the packet FIFOs, the doorbells and the set-up of host DMA (R22, R365 to R372, R384,
R385). -/
namespace Sys2Proof.Machine

/-- HOSTIF_CTRL.cfg_err is set (R385). -/
def hostifCfgErr (s : State) : State := s.wb 0x71003 5 true

/-- A flag of HW_STATUS is set: bit 11 frame_err, 10 tx_ovf, 9 rx_unf, with HW_IRQ.err and its counter (R368, R385). -/
def hostError (bit ctr : Nat) (s : State) : State := hwIrq 9 ((s.wb 0x100002 bit true).bump (0x71010 + ctr))

/-- A write to HW_TX_DATA (R371). -/
def txPush (v : Word) (s : State) : State :=
  if 64 ≤ s.host.tx.length then hostError 10 12 s else s.mapHostif fun h => { h with tx := h.tx ++ [v] }

/-- The transmit FIFO holds other words; HW_IRQ.tx_empty marks its becoming empty (R368). -/
def txSet (ws : List Word) (s : State) : State :=
  let became := ws.isEmpty && !s.host.tx.isEmpty
  let s := s.mapHostif fun h => { h with tx := ws }
  if became then hwIrq 1 s else s

/-- The oldest transmit word, removed (R385). -/
def txPop (s : State) : Word × State :=
  match s.host.tx with
  | [] => (0, s)
  | w :: r => (w, txSet r s)

/-- A read of HW_RX_DATA (R371); a staged reply may then find room (R382). -/
def rxPop (s : State) : Word × State :=
  match s.host.rx with
  | [] => (0, hostError 9 13 s)
  | w :: r => (w, placeStaged (s.mapHostif fun h => { h with rx := r }))

/-- tx_flush (R372). -/
def txFlush (s : State) : State := (txSet [] s).mapHostif fun h => { h with part := [] }

/-- The oldest reply has been placed whole, or its rest is flushed. -/
def endReply (s : State) : State :=
  let t := s.mapHostif fun h => { h with replies := h.replies.drop 1, placing := false }
  match s.host.replies with
  | x :: _ => replied x.1 t
  | [] => t

/-- rx_flush (R372): the rest of a reply that has been placed in part goes too. -/
def rxFlush (s : State) : State :=
  let s := s.mapHostif fun h => { h with rx := [] }
  placeStaged (if s.host.placing then endReply s else s)

/-- ring delivers hmsg (R368). -/
def ringHost (v : Word) (s : State) : State := (s.wb 0x71004 19 true).wf 0x71004 0 8 (fld v 0 8)

/-- A write to HW_DOORBELL (R368). -/
def doorbellWrite (v : Word) (s : State) : State :=
  let s := if tst v 19 then txFlush s else s
  let s := if tst v 18 then rxFlush s else s
  if tst v 17 then ringHost v s else s

/-- A write of the host window (R366, R368, R369). -/
def windowWrite (a : Nat) (v : Word) (s : State) : State :=
  if a = 0x05 then txPush v s
  else if a = 0x09 then doorbellWrite v s
  else if a = 0x1B then (if tst v 0 then setLock s else s)
  else plainWrite (0x100000 + a) v s

/-- HW_STATUS as it reads (R368). -/
def hwStatus (s : State) : Word :=
  let c := s.rd 0x71003
  putFld (putBit (putBit (s.rd 0x100002) 19 (tst c 19)) 18 (tst c 18)) 12 4 (fld c 14 4)

/-- HW_STREAM_STATE as it reads (R368). -/
def streamState (s : State) : Word := BitVec.ofNat 20 (s.rf 0x71003 6 4 * 16 + s.rf 0x71003 10 4)

/-- HW_STATE as it reads (R368). -/
def hwState (s : State) : Word :=
  let p := s.rd 0x70800
  let r := s.rd 0x70803
  putFld (putFld (putBit (putBit (putFld (putFld 0 17 3 (fld p 17 3)) 14 3 (fld p 14 3)) 13 (tst p 13)) 12 (tst p 6)) 8 4
    (fld r 16 4)) 4 4 (fld r 12 4)

/-- A read of the host window: its value and what the read removes or holds (R55, R347, R368, R369, R371). -/
def windowRead (a : Nat) (s : State) : Word × State :=
  match a with
  | 0x01 => (putFld (s.rd 0x100001) 8 8 Config.stepping.toNat, s)
  | 0x02 => (hwStatus s, s)
  | 0x05 => (0, s)
  | 0x06 => (BitVec.ofNat 20 (64 - s.host.tx.length), s)
  | 0x07 => rxPop s
  | 0x08 => (BitVec.ofNat 20 s.host.rx.length, s)
  | 0x09 => (s.rd 0x71004 &&& 0x0FF00#20, s)
  | 0x0A => (streamState s, s)
  | 0x0B => (hwState s, s)
  | 0x0C => (s.rd 0x70807, s)
  | 0x0D => (s.rd 0x74002, s)
  | 0x0E => (wordOf s.mt 0, mtHold 2 s)
  | 0x0F => (mtHeld 2 1 s, s)
  | 0x10 => (mtHeld 2 2 s, s)
  | 0x19 => fifoPop true s
  | 0x1A => (BitVec.ofNat 20 s.key.fifo.length, s)
  | 0x1B => (BitVec.ofNat 20 ((armable s).toNat * 2 + (examLock s).toNat), s)
  | 0x1D => (s.rd 0x70001, s)
  | a => if 0x11 ≤ a ∧ a ≤ 0x18 then (keyMapRead (0x71808 + (a - 0x11)) s, s) else (s.rd (0x100000 + a), s)

/-- A packet from its words (R373, R374). -/
def packetOf (ws : List Word) : Packet :=
  let h0 := ws.getD 0 0
  let h1 := ws.getD 1 0
  let n := ws.length - 1
  { ver := fld h0 16 4, stream := fld h0 14 2, seq := fld h0 8 6, op := fld h0 0 8, tag := fld h1 0 12,
    params := (ws.take n).drop 2, crcOk := decide ((ws.getD n 0).toNat = crc16 (ws.take n)) }

/-- Helm1 takes a word into the packet it assembles; a whole packet makes its stream active (R368, R378). -/
def takeWord (w : Word) (s : State) : State :=
  let ws := s.host.part ++ [w]
  if 2 ≤ ws.length ∧ fld (ws.getD 1 0) 12 8 + 3 ≤ ws.length then
    let p := packetOf ws
    (s.mapHostif fun h => { h with part := [], taken := h.taken ++ [p] }).wb 0x71003 (6 + p.stream) true
  else s.mapHostif fun h => { h with part := ws }

/-- Helm1 reads a transmit word for its packet service (R378, R385). -/
def serviceRead (s : State) : State :=
  match s.host.tx with
  | [] => s
  | _ => let r := txPop s; takeWord r.1 r.2

/-- Helm1 places the next word of its oldest reply, where there is room (R371, R385); a staged one may follow it (R382). -/
def serviceWrite (s : State) : State :=
  match s.host.replies with
  | [] => s
  | (_, []) :: _ => placeStaged (endReply s)
  | (_, [w]) :: _ => placeStaged (endReply (rxPush [w] s))
  | (st, w :: ws) :: r => rxPush [w] (s.mapHostif fun h => { h with replies := (st, ws) :: r, placing := true })

/-- A transfer of host DMA ends (R385). -/
def dmaEnd (s : State) : State := (s.wb 0x71006 18 false).wb 0x71006 16 true

/-- A write to HOSTIF_DMA_CTRL (R385): a start during a transfer has no effect. -/
def dmaCtrlWrite (v : Word) (s : State) : State :=
  let s := plainWrite 0x71006 v s
  if !tst v 19 || s.rb 0x71006 18 then s
  else if s.rf 0x71006 0 16 = 0 then dmaEnd s
  else s.wb 0x71006 18 true

/-- A write to HOSTIF_CTRL (R385): a bit of stopped that is set anew sets HW_IRQ.stop. -/
def hostCtrlWrite (v : Word) (s : State) : State :=
  let new := fld v 10 4 &&& (15 - s.rf 0x71003 10 4)
  let s := plainWrite 0x71003 v s
  if new = 0 then s else hwIrq 2 s

/-- A write to a HOSTIF register, by Helm1 alone (R385). -/
def hostifWrite (q a : Nat) (v : Word) (s : State) : State :=
  if !isHelm1 q then hostifCfgErr s
  else if a = 0x71001 then (if 64 ≤ s.host.rx.length then hostifCfgErr s else rxPush [v] s)
  else if a = 0x71003 then hostCtrlWrite v s
  else if a = 0x71004 then hwIrq 7 (plainWrite a v s)
  else if a = 0x71006 then dmaCtrlWrite v s
  else plainWrite a v s

/-- HOSTIF_LEVEL as it reads (R385). -/
def hostLevel (s : State) : Word := BitVec.ofNat 20 ((64 - s.host.rx.length) * 256 + s.host.tx.length)

/-- The command byte of a transaction (R364): bit 7 a read, bit 5 repeat, the address below; quad, bit 6, says which lines carry
the data and nothing else. -/
def cmdRead (c : BitVec 8) : Bool := c.getLsbD 7
/-- See cmdRead. -/
def cmdRepeat (c : BitVec 8) : Bool := c.getLsbD 5
/-- See cmdRead. -/
def cmdAddr (c : BitVec 8) : Nat := c.toNat % 32

/-- A write group completes (R364 to R366): the low 20 bits of the group go to the register. -/
def hostWrite (c : BitVec 8) (v : BitVec 24) (s : State) : State := windowWrite (cmdAddr c) (v.setWidth 20) (endFrame s)

/-- The value of a read group is captured (R365): the value, whether it is a word of a FIFO, which leaves it when the group
completes, and what else the read does. -/
def capture (a : Nat) (s : State) : (Word × Bool) × State :=
  if a = 0x07 then ((s.host.rx.headD 0, !s.host.rx.isEmpty), s)
  else if a = 0x19 then (((fifoPop true s).1, s.rb 0x71800 4 && !s.key.fifo.isEmpty), s)
  else let r := windowRead a s; ((r.1, false), r.2)

/-- The group's last bit has been clocked: its word leaves HW_RX_DATA or HW_KEY_EVENT; one that found HW_RX_DATA empty sets rx_unf
(R366, R371). -/
def removeWord (a : Nat) (had : Bool) (s : State) : State :=
  if a = 0x07 then (if had then (rxPop s).2 else hostError 9 13 s)
  else if a = 0x19 ∧ had then (fifoPop true s).2
  else s

/-- A read group completes (R364 to R366): its value was captured before, in a repeat read as the group before it ended. That a
first group is captured and completes in one step is the model's (log 75). -/
def hostRead (g : HostGroup) (s : State) : State :=
  let a := cmdAddr g.cmd
  let x := if g.first then capture a s else ((match s.host.frame with | some f => f.2 | none => (0, false)), s)
  let t := hostShown x.1.1 (removeWord a x.1.2 x.2)
  if cmdRepeat g.cmd then
    let y := capture a t
    y.2.mapHostif fun h => { h with frame := some (g.cmd, y.1) }
  else t

/-- The group may come: it is a read's first one, or follows one of its own transaction in a repeat read (R364, R365). -/
def groupFits (g : HostGroup) (s : State) : Bool :=
  cmdRead g.cmd && (g.first || (match s.host.frame with | some f => decide (f.1 = g.cmd) | none => false))

/-- HOST_WRITE: a write group of the host completes (R364 to R366). -/
def execHostWrite (c : BitVec 8) (v : BitVec 24) (s : State) : Result :=
  happens (windowOn s && !cmdRead c) (hostWrite c v) s

/-- HOST_READ: a read group of the host completes (R364 to R366). -/
def execHostRead (g : HostGroup) (s : State) : Result := happens (windowOn s && groupFits g s) (hostRead g) s

/-- FRAME_ABORT: HCS_N rises inside a command byte or a group (R366). -/
def execFrameAbort (s : State) : Result := happens (windowOn s) (fun s => hostError 11 11 (endFrame s)) s

/-- TX_DATA_WRITE: a write to HW_TX_DATA (R371). -/
def execTxDataWrite (v : Word) (s : State) : Result := happens (windowOn s) (fun s => txPush v (endFrame s)) s

/-- RX_DATA_READ: a read of HW_RX_DATA (R371). -/
def execRxDataRead (s : State) : Result := happens (windowOn s) (hostRead { cmd := 0x87, first := true }) s

/-- TX_FLUSH: a write of tx_flush (R372). -/
def execTxFlush (s : State) : Result := happens (windowOn s) (fun s => txFlush (endFrame s)) s

/-- RX_FLUSH: a write of rx_flush (R372). -/
def execRxFlush (s : State) : Result := happens (windowOn s) (fun s => rxFlush (endFrame s)) s

/-- RING: a write of ring with a message (R368). -/
def execRing (v : Word) (s : State) : Result := happens (windowOn s) (fun s => ringHost v (endFrame s)) s

/-- HOSTIF_TX_READ: a read of HOSTIF_TX; Helm1 takes the word into its packet service, unless it holds 16 packets (R378,
R385). -/
def execHostifTxRead (q : Req) (s : State) : Result :=
  if isHelm1 q.toNat then happens (helm1Serves s && decide (s.host.taken.length < 16)) serviceRead s
  else .next (withAccess q.toNat 0x71000 false (fun s => (txPop s).2) s)

/-- HOSTIF_RX_WRITE: a write to HOSTIF_RX; Helm1 places the next word of a reply once there is room (R371, R385). -/
def execHostifRxWrite (q : Req) (s : State) : Result :=
  if isHelm1 q.toNat then happens (helm1Serves s && decide (s.host.rx.length < 64)) serviceWrite s
  else .next (withAccess q.toNat 0x71001 true hostifCfgErr s)

/-- DMSG_WRITE: a write to HOSTIF_DOORBELL (R385). -/
def execDmsgWrite (q : Req) (v : Word) (s : State) : Result :=
  .next (withAccess q.toNat 0x71004 true (hostifWrite q.toNat 0x71004 v) s)

/-- DMA_START: a write to HOSTIF_DMA_CTRL with start standing as 1 (R385). -/
def execDmaStart (q : Req) (v : Word) (s : State) : Result :=
  .next (withAccess q.toNat 0x71006 true (hostifWrite q.toNat 0x71006 (putBit v 19 true)) s)

end Sys2Proof.Machine
end

