-- ==== Sys2Proof/Machine/Bus.lean ====
section
/-! DEFINITION. The bus: reads and writes of any address with what they set off (R85 to R96), host DMA and the device
arbiter's grants. -/
namespace Sys2Proof.Machine

/-- A write to PWM_FLOOR: the first after a cold reset sets it (R6, R218). No host packet alters it (R383); that any other
requester's write counts as the first, Sextant's among them, is the model's reading (log 97). -/
def floorWrite (q : Nat) (v : Word) (s : State) : State :=
  if decide (q ≠ 0x23) && !s.boot.rwsFloor then (s.wr 0x73800 v).mapBoot fun b => { b with rwsFloor := true } else s

/-- A write to a register of the SYS, CLK, PWR or BUS block. -/
def coreWrite (q a : Nat) (v : Word) (s : State) : State :=
  if a = 0x70002 then sysResetWrite q v s
  else if a < 0x70400 then plainWrite a v s
  else if a = 0x70401 then clkSwitchWrite v s
  else if a < 0x70800 then plainWrite a v s
  else if a = 0x70802 then entryWrite q v s
  else if a = 0x70804 then plWrite v s
  else if a = 0x70805 then voteWrite v s
  else if a = 0x70820 then padHoldWrite v s
  else if a < 0x70C00 then pwrWrite a v s
  else if a = 0x70C00 then claimWrite q v s
  else if 0x70D00 ≤ a ∧ a < 0x70E1D then padWrite q (a - 0x70D00) v s
  else plainWrite a v s

/-- A write to a register of the FIX block (R292, R294, R297). -/
def fixWrite (q a : Nat) (v : Word) (s : State) : State :=
  if a = 0x74000 then fixCtrlWrite q v s
  else if a = 0x74005 then (if tst v 0 then fixUnpin q s else s)
  else if a = 0x74008 then fixIntWrite v s
  else plainWrite a v (s.keepBefore a)

/-- A write to a register of the LOG block (R299 to R305). -/
def logWrite (a : Nat) (v : Word) (s : State) : State :=
  if a = 0x7E000 then logCtrlWrite v s
  else if a = 0x7E00C then logSwrec v s
  else if a = 0x7E01A then traceCtrlWrite v s
  else if 0x7E010 ≤ a ∧ a < 0x7E018 ∧ fld v 16 3 = 7 then (plainWrite a (putFld v 16 3 0) s).wb 0x7E001 17 true
  else plainWrite a v s

/-- A write to a register, with what it sets off. -/
def regWrite (q a : Nat) (v : Word) (s : State) : State :=
  if a < 0x71000 then coreWrite q a v s
  else if a < 0x71400 then hostifWrite q a v s
  else if a < 0x71800 then tlWrite q a v s
  else if a < 0x71C00 then keyWrite q a v s
  else if a < 0x72000 then cupWrite q a v s
  else if a < 0x72800 then sxtWrite q a v s
  else if a < 0x73000 then protWrite q a v s
  else if a < 0x73800 then chanWrite q ((a - 0x73000) / 0x40) (a % 0x40) v s
  else if a = 0x73800 then floorWrite q v s
  else if a < 0x74000 then s
  else if a < 0x76000 then fixWrite q a v s
  else if a < 0x77000 then adcWrite q a v s
  else if a < 0x78000 then posWrite q a v s
  else if a < 0x7C000 then
    if cellWriter q then cellRegWrite ((a - 0x78000) / 0x200) ((a - 0x78000) % 0x200) v s else s
  else if a < 0x7E000 then s
  else if a < 0x7F000 then logWrite a v s
  else s

/-- When the learning update under way that names a bin writes it, where there is one. -/
def binHeld (a : Nat) (s : State) : Option Nat :=
  (s.sched.find? fun e => match e.2 with | .bin _ _ bins => bins.contains a | _ => false).map (·.1)

/-- A bin's word and parity are kept until the cycle ends, for an update that starts in it (R201). -/
def keepBin (a : Nat) (s : State) : State :=
  if s.cyc.was.any fun x => decide (x.1 = a) then s
  else
    let old := [(a, s.rdMem a)] ++ (if s.badParity.contains a then [(0x400000 + a, 1)] else [])
    s.mapCyc fun c => { c with was := old ++ c.was }

/-- A bus write of a memory word: one to a bin of a learning update under way is applied after the update's write (R201). -/
def memPut (a : Nat) (v : Word) (s : State) : State :=
  if 0x50000 ≤ a ∧ a < 0x70000 then
    match binHeld a s with
    | some t => s.at_ t (.put a v)
    | none => (keepBin a s).wrMem a v
  else s.wrMem a v

/-- A write that is carried out: memory or register. -/
def busPut (q a : Nat) (v : Word) (s : State) : State :=
  if a < 0x70000 ∨ 0x80000 ≤ a then memPut a v s else regWrite q a v s

/-- A write on the bus (R87, R88, R317). -/
def busWrite (q a : Nat) (v : Word) (s : State) : State :=
  if a = 0x72001 ∨ a = 0x72002 then submitAccess q a (regWrite q a v) s else withAccess q a true (busPut q a v) s

/-- A read that finds a wrong parity is recorded (R91). -/
def parityChecked (key q a : Nat) (s : State) : State := if s.badParity.contains key then recordParity a q s else s

/-- n words of memory from a on are read: those with a wrong parity are recorded in order (R91). -/
def parityReads (q a n : Nat) (s : State) : State :=
  ((List.range n).filter fun k => s.badParity.contains (a + k)).foldl (fun t k => recordParity (a + k) q t) s

/-- A read of memory (R90, R91). -/
def memGet (q a : Nat) (s : State) : Word × State := (s.rdMem a, parityChecked a q a s)

/-- A read of MT as a requester sees it (R55, R167): Helm cores, and Helm1 for the host (R384), read SYS_MT, a sequencer
its own CELL_MT. -/
def mtGet (key k : Nat) (s : State) : Word × State :=
  if k = 0 then (wordOf s.mt 0, mtHold key s) else (mtHeld key k s, s)

/-- A register as it reads where the read does nothing else; a reserved address reads 0 (R8, R86). -/
def plainRead (a : Nat) (s : State) : Word := if (regRow a).isSome then s.rd a else 0

/-- BUS_PADp as it reads (R27). -/
def padGet (p : Nat) (s : State) : Word × State :=
  let inp := decide (lookup zeroAt s.pwr.padHeld p = 0) && ballLevel p s
  (putBit (s.rd (padReg p)) 15 inp, s.advance 1024)

/-- The holding register of a reader of SYS_MT: a Helm core's own, or the host's. R55 gives Sextant none; that it shares the
host's is the model's choice (log 14). -/
def sysMtKey (q : Nat) : Nat := if isHelm0 q || isHelm1 q then q - 0x20 else 2

/-- A read of the SYS, CLK, PWR or BUS block. -/
def coreGet (q a : Nat) (s : State) : Word × State :=
  if a = 0x70003 then (sysBoot s, s)
  else if a = 0x70005 then (otpData s, s)
  else if a = 0x70006 then (Config.romVersion, s)
  else if 0x70010 ≤ a ∧ a ≤ 0x70012 then mtGet (sysMtKey q) (a - 0x70010) s
  else if 0x70100 ≤ a ∧ a < 0x70140 then (putBit (s.rd a) 4 (irqLine (a - 0x70100) s), s.advance 64)
  else if 0x70180 ≤ a ∧ a < 0x701C0 then (putBit (s.rd a) 4 (irqLine (a - 0x70180) s), s.advance 64)
  else if a = 0x70400 then (clkStatus s, s)
  else if a = 0x70401 then (clkSwitch s, s)
  else if a = 0x7080E then (powerCond s, s.advance 1024)
  else if 0x70810 ≤ a ∧ a < 0x7081A ∧ a % 2 = 0 then (voteLow ((a - 0x70810) / 2 + 1) s, s)
  else if a = 0x70C01 then (if isHelm0 q || isHelm1 q then (vget 0 s.bus.result (q - 0x20), s) else (0, s))
  else if 0x70D00 ≤ a ∧ a < 0x70E1D then padGet (a - 0x70D00) s
  else (plainRead a s, s)

/-- A read of the HOSTIF, KEY or SXT block. -/
def ifaceGet (a : Nat) (s : State) : Word × State :=
  if a = 0x71000 then txPop s
  else if a = 0x71002 then (hostLevel s, s)
  else if a = 0x71802 then (keyStatus s, s)
  else if a = 0x71803 then fifoPop false s
  else if 0x71808 ≤ a ∧ a < 0x71810 then (keyMapRead a s, s)
  else if a = 0x71822 then (putBit (s.rd a) 2 (armable s), s)
  else if a = 0x72000 then (sxtStatus s, s)
  else if a = 0x72003 then sxtDone false s
  else if a = 0x72004 then sxtDone true s
  else if a = 0x72005 then (sxtHead false s, s)
  else if a = 0x72006 then (sxtHead true s, s)
  else if a = 0x72012 then (patchStatus s, s)
  else (plainRead a s, s)

/-- A read of a register of cell c (R167, R168); a read of the staging window waits out a copy (R184). In the cycle of a
write the results read as before it (R150), and in a swap cycle the windows show the banks that they showed before. -/
def cellGet (q c o : Nat) (s : State) : Word × State :=
  let a := cellBase c + o
  if o = 1 then (cellStatus c s, s)
  else if o = 9 then ((s.proc (seqProc c)).pc, s)
  else if 0xD ≤ o ∧ o ≤ 0x10 then (s.before a, s)
  else if o = 0xA then (putFld (s.rd a) 0 4 (pathLength c s), s)
  else if 0x11 ≤ o ∧ o ≤ 0x13 then (if q = c then mtGet (3 + c) (o - 0x11) s else (0, s))
  else if 0x100 ≤ o then
    let swap := tst (s.before (cellBase c + 1)) 10 != s.rb (cellBase c + 1) 10
    let s := if o < 0x180 && !swap then bankCopy c s else s
    let b := if decide (o < 0x180) != swap then 1 - s.activeBank c else s.activeBank c
    (s.bankWord c b (o % 0x80), parityChecked (0x200000 + bankKey c b (o % 0x80)) q a s)
  else (plainRead a s, s)

/-- A read of a register, with what it removes, holds or pins. -/
def regGet (q a : Nat) (s : State) : Word × State :=
  if a < 0x71000 then coreGet q a s
  else if a < 0x72800 then ifaceGet a s
  else if a = 0x72802 then (putBit (s.rd a) 19 (decide (s.rf 0x72801 0 16 ≠ 0)), s)
  else if a = 0x74001 then (fixStatus s, s)
  else if a = 0x74004 then (BitVec.ofNat 20 s.fixCur, fixOpen q s)
  else if 0x74400 ≤ a ∧ a < 0x75000 then fixWindowRead q a s
  else if 0x77000 ≤ a ∧ a < 0x770C0 ∧ a % 0x40 = 8 then
    (BitVec.ofNat 20 (posAngle ((a - 0x77000) / 0x40) s.mt s), s)
  else if 0x77000 ≤ a ∧ a < 0x770C0 ∧ a % 0x40 = 9 then (ofI (posSpeed ((a - 0x77000) / 0x40) s.mt s), s)
  else if 0x78000 ≤ a ∧ a < 0x7C000 then cellGet q ((a - 0x78000) / 0x200) ((a - 0x78000) % 0x200) s
  else (plainRead a s, s)

/-- A read that is carried out. -/
def busGet (q a : Nat) (s : State) : Word × State :=
  if a < 0x70000 ∨ 0x80000 ≤ a then memGet q a s else regGet q a s

/-- A read on the bus (R87, R88): 0 where the access faults. -/
def busRead (q a : Nat) (s : State) : Word × State :=
  if s.dead then (0, s)
  else
    match reqFault q a false s with
    | some k => (0, recordFault a q k s)
    | none => busGet q a s

/-- Successive words read by a requester. -/
def busReadN (q : Nat) (a : Nat) : Nat → State → List Word × State
  | 0, s => ([], s)
  | n + 1, s =>
    let r := busRead q (a % 2 ^ 20) s
    let rest := busReadN q (a + 1) n r.2
    (r.1 :: rest.1, rest.2)

/-- Successive words written by a requester. -/
def busWriteN (q a : Nat) (ws : List Word) (s : State) : State :=
  (ws.zipIdx).foldl (fun t x => busWrite q ((a + x.2) % 2 ^ 20) x.1 t) s

/-- The requester code of a processor: the cell sequencers, the Helm cores, and Helm1's data accesses under proxy outside
the HOSTIF block (R100, R384). -/
def procReq (p a : Nat) (s : State) : Nat :=
  if 2 ≤ p then p - 2
  else if p = 1 ∧ s.rb 0x71003 4 = true ∧ ¬ (0x71000 ≤ a ∧ a < 0x71400) then 0x23
  else 0x20 + p

/-- Host DMA as the requester of a submit that is held (R317). -/
def dmaCode : Nat := 0x40

/-- Host DMA can move a word (R385): a word waits, or the receive FIFO has room, and no submit of its own stalls it (R317). -/
def dmaReady (s : State) : Bool :=
  s.ifaceOn 1 && decide (s.pstate ≤ 1) && s.rb 0x71006 18 && !(s.sxt.stalled.any fun x => decide (x.1 = dmaCode)) &&
    (if s.rb 0x71006 17 then !s.host.tx.isEmpty else decide (s.host.rx.length < 64))

/-- The registers of host DMA after one word (R385); a bus write of the same cycle to one of them stands (R95). -/
def dmaAdvance (w : Word) (s : State) : State :=
  let s := s.hwf 0x71007 0 16 (crc16Word (s.rf 0x71007 0 16) w)
  let s := (s.hw 0x71005 (s.rd 0x71005 + 1)).hwf 0x71006 0 16 (s.rf 0x71006 0 16 - 1)
  if s.rf 0x71006 0 16 = 0 then dmaEnd s else s

/-- Host DMA moves one word (R385); a faulting access ends the transfer. -/
def dmaMove (s : State) : State :=
  let a := (s.rd 0x71005).toNat
  let out := s.rb 0x71006 17
  if out && (decide (a = 0x72001) || decide (a = 0x72002)) then
    let r := txPop s
    dmaAdvance r.1 (sxtSubmit dmaCode (decide (a = 0x72002)) r.1 r.2)
  else
  match reqFault 0x23 a out s with
  | some k => dmaEnd (recordFault a 0x23 k s)
  | none =>
    if out then
      let r := txPop s
      dmaAdvance r.1 (busPut 0x23 a r.1 r.2)
    else
      let r := busGet 0x23 a s
      dmaAdvance r.1 (rxPush [r.1] r.2)

/-- The oldest posted store of a processor is still to be granted: one access is outstanding at a time (R93). -/
def storeWaits (p : Nat) (s : State) : Bool :=
  match (s.proc p).posted with
  | x :: _ => !x.performed
  | [] => false

/-- A processor's oldest posted store is performed in its grant (R95, R138). -/
def grantStore (p : Nat) (s : State) : State :=
  match (s.proc p).posted with
  | x :: r =>
    if x.performed then s
    else
      let s := s.modProc p fun k => { k with posted := { x with performed := true } :: r }
      busWrite (procReq p x.addr.toNat s) x.addr.toNat x.data s
  | [] => s

/-- Requester r of the rotation, a processor or 34 for Sextant, has an access pending: a posted store, or it is the one (x)
that waits for an access of its own. -/
def asks (x r : Nat) (s : State) : Bool := decide (r = x) || storeWaits r s

/-- The cell of turret t that its arbiter serves next: the first with a request after the cell served last (R93). -/
def nextCell (x t : Nat) (s : State) : Option Nat :=
  ((List.range 8).map fun k => 8 * t + (vget 7 s.bus.served t + 1 + k) % 8).find? fun c => asks x (seqProc c) s

/-- The cells of turret t that have a request pending; each counts once, whatever it reaches (R96). -/
def cellsWaiting (x t : Nat) (s : State) : Nat :=
  ((List.range 8).filter fun k => asks x (seqProc (8 * t + k)) s).length

/-- Position k of the rotation has a request pending. -/
def posWaits (x k : Nat) (s : State) : Bool :=
  if k < 4 then decide (0 < cellsWaiting x k s)
  else if k = 4 then asks x 0 s
  else if k = 5 then asks x 1 s
  else if k = 6 then decide (x = 34)
  else dmaReady s

/-- A turret's arbiter serves cell c: its round-robin goes on after it (R93, R96). -/
def turretServe (c : Nat) (s : State) : State := s.mapBus fun b => { b with served := vset b.served (c / 8) (c % 8) }

/-- Requester r is granted: its oldest posted store, which comes before an access of its own (R138). The answer's first part
says that it was x's own access. -/
def grantTo (x r : Nat) (s : State) : Bool × State :=
  if storeWaits r s then (false, grantStore r s) else (decide (r = x), s)

/-- The grant of position k. -/
def grantAt (x k : Nat) (s : State) : Bool × State :=
  if k < 4 then
    match nextCell x k s with
    | some c => grantTo x (seqProc c) (turretServe c s)
    | none => (false, s)
  else if k = 4 then grantTo x 0 s
  else if k = 5 then grantTo x 1 s
  else if k = 6 then grantTo x 34 s
  else (false, dmaMove s)

/-- The rotation moves to the next position with a request: a turret takes as many grants as it has cells waiting. -/
def rotate (x : Nat) (s : State) : Bool × State :=
  match ((List.range 8).map fun k => (s.bus.pos + 1 + k) % 8).find? fun k => posWaits x k s with
  | some k => grantAt x k (s.mapBus fun b => { b with pos := k, grants := if k < 4 then cellsWaiting x k s - 1 else 0 })
  | none => (false, s)

/-- One grant of the device arbiter while requester x, if it is one, waits for an access of its own (R93). -/
def arbiterGrant (x : Nat) (s : State) : Bool × State :=
  if 0 < s.bus.grants && posWaits x s.bus.pos s then
    grantAt x s.bus.pos (s.mapBus fun b => { b with grants := b.grants - 1 })
  else rotate x s

/-- Grants until requester x has had its own, at most n. -/
def grantsUntil (x : Nat) : Nat → State → State
  | 0, s => s
  | n + 1, s => let g := arbiterGrant x s; if g.1 then g.2 else grantsUntil x n g.2

/-- Requester x waits for a grant of the device arbiter: the positions before it in the rotation have theirs first (R93). There
are at most 35 of them (R94). -/
def busTurn (x : Nat) (s : State) : State := grantsUntil x 40 s

/-- A bus access of Helm core q's firmware, or of Helm1 for the host, waits for its grant (R93). -/
def fwRead (q a : Nat) (s : State) : Word × State := busRead q a (busTurn (if q = 0x20 then 0 else 1) s)
/-- See fwRead. -/
def fwWrite (q a : Nat) (v : Word) (s : State) : State := busWrite q a v (busTurn (if q = 0x20 then 0 else 1) s)

/-- Successive words read by firmware, each in a grant of its own. -/
def fwReadN (q : Nat) (a : Nat) : Nat → State → List Word × State
  | 0, s => ([], s)
  | n + 1, s =>
    let r := fwRead q (a % 2 ^ 20) s
    let rest := fwReadN q (a + 1) n r.2
    (r.1 :: rest.1, rest.2)

/-- Successive words written by firmware. -/
def fwWriteN (q a : Nat) (ws : List Word) (s : State) : State :=
  (ws.zipIdx).foldl (fun t x => fwWrite q ((a + x.2) % 2 ^ 20) x.1 t) s

/-- No requester waits for an access of its own (see asks). -/
def nobody : Nat := 99

/-- BUS_GRANT: the device arbiter grants an access (R93 to R96). -/
def execBusGrant (s : State) : Result := happens (!s.pwr.off && !s.pwr.inReset) (fun s => (arbiterGrant nobody s).2) s

/-- REGISTER_WRITE: a requester writes an address (R85 to R95). -/
def execRegisterWrite (q : Req) (a : Word) (v : Word) (s : State) : Result := .next (busWrite q.toNat a.toNat v s)

end Sys2Proof.Machine
end

