-- ==== Sys2Proof/Machine/Module.lean ====
section
/-! DEFINITION. Turtelink's firmware and its line: Helm1's requests, their answers, discovery, binding and release (R416 to
R421). -/
namespace Sys2Proof.Machine

/-- A request of Helm1: ignored with cfg_err while a transfer is in progress, or with more than 62 words (R416, R422). -/
def tlRequest (cmd addr : Nat) (ws : List Word) (s : State) : State :=
  let s := busTurn 1 s
  if s.tl.xfer.isSome || decide (62 < ws.length) then tlCfgErr s else tlSend cmd addr ws false s

/-- The discovery fails (R419). -/
def discFail (s : State) : State :=
  match s.tl.disc with
  | some d =>
    (fwWrite 0x21 0x71402 (putBit (s.rd 0x71402) d.slot false) s).mapTl fun t => { t with disc := none }
  | none => s

/-- The board entry's words for a slot (R428): current limit, masks and the claims of each class. -/
def boardSlot (n : Nat) (ws : List Word) : List Word :=
  let size := fun b : List Word =>
    let c := b.getD 3 0
    let d := b.getD 4 0
    5 + fld c 0 4 + fld c 4 4 + fld c 8 4 + fld c 12 4 + fld c 16 4 + fld d 0 4 + fld d 4 4 + fld d 8 4
  (List.range n).foldl (fun b _ => b.drop (size b)) (ws.drop 2)

/-- The number of claims of class j in a slot block (R428). -/
def boardCount (j : Nat) (b : List Word) : Nat :=
  if j ≤ 5 then fld (b.getD 3 0) (4 * (j - 1)) 4 else fld (b.getD 4 0) (4 * (j - 6)) 4

/-- The claim commands of class j in a slot block (R428). -/
def boardClaims (j : Nat) (b : List Word) : List Word :=
  let before := ((List.range (j - 1)).map fun k => boardCount (k + 1) b).sum
  ((b.drop (5 + before)).take (boardCount j b))

/-- The block of slot n of the board record; without one every word is 0. -/
def slotBlock (n : Nat) (s : State) : List Word :=
  match s.boot.board with
  | some ws => boardSlot n ws
  | none => []

/-- The descriptor passes its check (R418 step 3); a slot limit of 0 refuses every module (R428). -/
def descGood (n : Nat) (ws : List Word) (s : State) : Bool :=
  let w0 := ws.getD 0 0
  let l := ws.length
  let lim := fld ((slotBlock n s).getD 0 0) 0 16
  decide (fld w0 16 4 = 1) && decide (1 ≤ fld w0 12 4) && decide (fld w0 12 4 ≤ 8) &&
    decide (crc16 (ws.take (l - 1)) = (ws.getD (l - 1) 0).toNat) &&
    decide (lim ≠ 0) && decide (fld (ws.getD 4 0) 0 16 ≤ lim)

/-- The version chosen (R418 step 4); 0 where there is none in common. -/
def descVersion (ws : List Word) : Nat :=
  let v := min 2 (fld (ws.getD 3 0) 4 8)
  if 1 ≤ v ∧ fld (ws.getD 3 0) 12 8 ≤ v then v else 0

/-- Claims are carried out in order; those newly made are kept, and the answer says whether all were OK (R418 step 6). -/
def claimAll : List Word → List Word → State → Bool × List Word × State
  | [], made, s => (true, made, s)
  | v :: vs, made, s =>
    let s := busTurn 1 s
    let m := claimLegal v
    let free := decide (s.owner (fld m 15 3) (fld m 6 9) = 0)
    let r := claimDo 1 (putFld v 18 2 1) s
    if r.1 = 0 then claimAll vs (if free then made ++ [m] else made) r.2 else (false, made, r.2)

/-- Claims are released in order (R421). -/
def releaseAll (vs : List Word) (s : State) : State :=
  vs.foldl (fun t v => (claimDo 1 (putFld v 18 2 2) (busTurn 1 t)).2) s

/-- The mask of the channels that claims name (R428). -/
def claimMask (vs : List Word) : Nat :=
  vs.foldl (fun m v => if fld v 15 3 = 1 then m ||| 2 ^ (fld v 6 9) else m) 0

/-- Helm1 writes a firmware record (R301, R418, R421). -/
def moduleRecord (kind n : Nat) (data : List Word) (s : State) : State := logEvent kind n 0 data s

/-- Helm1 writes KEY_CTRL.nodiode (R418, R421). -/
def nodiode (b : Bool) (s : State) : State := fwWrite 0x21 0x71800 (putBit (s.rd 0x71800) 3 b) s

/-- The module is bound (R418 steps 6 and 7), or a refused claim ends its discovery (R419). -/
def bind (d : Disc) (s : State) : State :=
  let n := d.slot
  let cls := fld (d.desc.getD 0 0) 12 4
  let b := slotBlock n s
  let vs := boardClaims cls b
  let r := claimAll vs [] s
  if r.1 then
    let m := claimMask vs
    let s := fwWrite 0x21 (0x71410 + 2 * n) (b.getD 1 0 &&& BitVec.ofNat 20 m) r.2.2
    let s := fwWrite 0x21 (0x71411 + 2 * n) (b.getD 2 0 &&& BitVec.ofNat 20 (m / 2 ^ 20)) s
    let s := if cls = 1 then nodiode (!tst (d.desc.getD 5 0) 0) s else s
    let s := s.mapTl fun t =>
      { t with disc := none, claims := vset t.claims n r.2.1,
               bound := vset t.bound n (some { cls := cls, addr := n + 1, ver := d.ver, desc := d.desc }) }
    postHost (0x20 + n) (moduleRecord 0x20 n [d.desc.getD 1 0, d.desc.getD 2 0] s)
  else discFail (releaseAll r.2.1 r.2.2)

/-- Discovery sends a request to the default address, at a grant of Helm1 (R93, R418). -/
def discSend (cmd : Nat) (ws : List Word) (s : State) : State := tlSend cmd 0x3F ws true (busTurn 1 s)

/-- Discovery asks for the next words of the descriptor (R418 step 2). -/
def discRest (d : Disc) (s : State) : State :=
  let l := fld (d.desc.getD 0 0) 0 8
  let k := d.desc.length
  discSend 1 [BitVec.ofNat 20 k, BitVec.ofNat 20 (min 60 (l - k))]
    (s.mapTl fun t => { t with disc := some { d with step := 3 } })

/-- The descriptor is complete: its check, and the version (R418 steps 3 and 4). -/
def discCheck (d : Disc) (s : State) : State :=
  let v := descVersion d.desc
  if descGood d.slot d.desc s && decide (v ≠ 0) then
    discSend 2 [BitVec.ofNat 20 v] (s.mapTl fun t => { t with disc := some { d with step := 4, ver := v } })
  else discFail s

/-- Descriptor words arrive (R417, R418 step 2). -/
def discWords (d : Disc) (want : Nat) (ws : List Word) (s : State) : State :=
  let d := { d with desc := d.desc ++ ws }
  let s := s.mapTl fun t => { t with read := vset t.read d.slot d.desc }
  let l := fld (d.desc.getD 0 0) 0 8
  if ws.length ≠ want ∨ l < 8 ∨ 251 < l then discFail s
  else if d.desc.length < l then discRest d s
  else discCheck d s

/-- An answered request of the discovery (R418). -/
def discAnswer (x : Xfer) (ws : List Word) (s : State) : State :=
  match s.tl.disc with
  | none => s
  | some d =>
    match d.step with
    | 2 => discWords d 8 ws s
    | 3 => discWords d (x.ws.getD 1 0).toNat ws s
    | 4 =>
      if ws = x.ws then
        discSend 3 [BitVec.ofNat 20 (d.slot + 1)] (s.mapTl fun t => { t with disc := some { d with step := 5 } })
      else discFail s
    | _ => bind d s

/-- An unanswered request of the discovery: step 2 polls again, at most 8 times (R418, R419). -/
def discLost (s : State) : State :=
  match s.tl.disc with
  | none => s
  | some d => if d.step = 2 ∧ d.tries < 8 then s else discFail s

/-- The transfer ends with a result (R422). -/
def tlEnd (result : Nat) (ws : List Word) (s : State) : State :=
  let s := (ws.zipIdx).foldl (fun t x => t.hw (0x71440 + x.2) x.1) s
  let s := (s.wb 0x71404 18 false).hwf 0x71404 0 8 ws.length
  ((s.wf 0x71400 8 2 result).wb 0x71400 10 true).mapTl fun t => { t with xfer := none }

/-- An attempt fails (R416): it is retried twice. -/
def tlFail (result : Nat) (x : Xfer) (s : State) : State :=
  let s := s.bump 0x71405
  if x.tries < 3 then s.mapTl fun t => { t with xfer := some { x with waiting := true } }
  else
    let s := tlEnd result [] s
    if x.disc then discLost s else s

/-- The header that answers a request (R416): SET_ADDRESS is answered from the new address. -/
def answerHeader (x : Xfer) (n : Nat) : Word :=
  let addr := if fld x.hdr 16 4 = 3 then fld (x.ws.getD 0 0) 0 6 else fld x.hdr 10 6
  BitVec.ofNat 20 (fld x.hdr 16 4 * 65536 + addr * 1024 + n)

/-- The payload of an answer frame, whose words after the header end with the CRC over the others (R415, R374). -/
def framePayload (hdr : Word) (ws : List Word) : Option (List Word) :=
  match ws.getLast? with
  | none => none
  | some c => if c.toNat = crc16 (hdr :: ws.dropLast) then some ws.dropLast else none

/-- An answer frame (R415, R416): its header and the words after it; good says that each bit has its mid-bit transition. -/
def tlAnswer (hdr : Word) (ws : List Word) (good : Bool) (s : State) : State :=
  match s.tl.xfer with
  | none => s
  | some x =>
    match framePayload hdr ws with
    | none => tlFail 2 x s
    | some ds =>
      if good && decide (hdr = answerHeader x ds.length) && decide (ds.length ≤ 62) then
        let s := tlEnd 0 ds s
        if x.disc then discAnswer x ds s else s
      else tlFail 2 x s

/-- A transfer awaits an answer. -/
def tlAwaits (s : State) : Bool := match s.tl.xfer with | some x => !x.waiting | none => false

/-- The next slot to discover (R418): ascending, once an earlier module's masks are released (R420). -/
def nextSlot (s : State) : Option Nat :=
  (List.range 8).find? fun n => s.tl.queue.contains n && !slotMasked n s && !s.rb 0x71401 (8 + n)

/-- Helm1 begins to discover slot n (R418 step 1). -/
def discover (n : Nat) (s : State) : State :=
  let s := fwWrite 0x21 0x71401 (BitVec.ofNat 20 (2 ^ n)) (fwWrite 0x21 0x71402 (putBit (s.rd 0x71402) n true) s)
  s.mapTl fun t =>
    { t with queue := t.queue.filter (· ≠ n), disc := some { slot := n, step := 2, tries := 0, desc := [], ver := 0 } }

/-- Helm1 polls for the descriptor (R418 step 2). -/
def descPoll (s : State) : State :=
  match s.tl.disc with
  | some d =>
    if d.step = 2 ∧ d.tries < 8 then
      discSend 1 [0, 8] (s.mapTl fun t => { t with disc := some { d with tries := d.tries + 1 } })
    else s
  | none => s

/-- Helm1 releases a removed slot (R421). -/
def slotRelease (n : Nat) (s : State) : State :=
  let cut := s.tl.cut.getLsbD n
  let kb := match vget none s.tl.bound n with | some m => decide (m.cls = 1) | none => false
  let s := releaseAll (vget [] s.tl.claims n) s
  let s := fwWrite 0x21 (0x71411 + 2 * n) 0 (fwWrite 0x21 (0x71410 + 2 * n) 0 s)
  let s := fwWrite 0x21 0x71401 (BitVec.ofNat 20 (2 ^ (8 + n))) s
  let s := if kb then nodiode false s else s
  let s := s.mapTl fun t =>
    { t with bound := vset t.bound n none, claims := vset t.claims n [], cut := t.cut &&& ~~~ BitVec.ofNat 8 (2 ^ n) }
  postHost (0x28 + n) (if cut then s else moduleRecord 0x21 n [] s)

/-- READ_DESC: Helm1 asks for descriptor words (R416). -/
def execReadDesc (addr : BitVec 6) (off cnt : Word) (s : State) : Result :=
  happens (helm1Serves s) (tlRequest 1 addr.toNat [off, cnt]) s

/-- SET_VERSION: Helm1 sets a module's version (R416). -/
def execSetVersion (addr : BitVec 6) (v : Word) (s : State) : Result :=
  happens (helm1Serves s) (tlRequest 2 addr.toNat [v]) s

/-- SET_ADDRESS: Helm1 assigns a module address (R416). -/
def execSetAddress (addr : BitVec 6) (n : Word) (s : State) : Result :=
  happens (helm1Serves s) (tlRequest 3 addr.toNat [n]) s

/-- TL_READ: Helm1 reads class registers (R416). -/
def execTlRead (addr : BitVec 6) (off cnt : Word) (s : State) : Result :=
  happens (helm1Serves s) (tlRequest 4 addr.toNat [off, cnt]) s

/-- TL_WRITE: Helm1 writes class registers (R416). -/
def execTlWrite (addr : BitVec 6) (off : Word) (ws : List Word) (s : State) : Result :=
  happens (helm1Serves s) (tlRequest 5 addr.toNat (off :: ws)) s

/-- MODULE_STATUS: Helm1 asks for the class status word (R416). -/
def execModuleStatus (addr : BitVec 6) (s : State) : Result :=
  happens (helm1Serves s) (tlRequest 6 addr.toNat []) s

/-- TL_ANSWER: an answer frame (R416). -/
def execTlAnswer (hdr : Word) (ws : List Word) (good : Bool) (s : State) : Result :=
  happens (tlLine s && tlAwaits s) (tlAnswer hdr ws good) s

/-- TL_TIMEOUT: no answer within 100 µs (R416). -/
def execTlTimeout (s : State) : Result :=
  happens (tlClocked s && tlAwaits s) (fun s => match s.tl.xfer with | some x => tlFail 1 x s | none => s) s

/-- TL_RETRY: a failed request is sent again (R416). -/
def execTlRetry (s : State) : Result :=
  happens (tlClocked s && s.tl.xfer.isSome && !tlAwaits s)
    (fun s => s.mapTl fun t =>
      { t with xfer := t.xfer.map fun x => { x with tries := x.tries + 1, waiting := false } }) s

/-- SLOT_DISCOVERY: Helm1 begins to discover a slot (R418). -/
def execSlotDiscovery (n : Slot) (s : State) : Result :=
  happens (helm1Serves s && s.tl.disc.isNone && decide (nextSlot s = some n.1)) (discover n.1) s

/-- DESCRIPTOR_POLL: Helm1 polls at the default address (R418). -/
def execDescriptorPoll (s : State) : Result := happens (helm1Serves s && s.tl.xfer.isNone) descPoll s

/-- SLOT_RELEASE: Helm1 acts on the rm bit of a slot (R421). -/
def execSlotRelease (n : Slot) (s : State) : Result :=
  happens (helm1Serves s && s.rb 0x71401 (8 + n.1)) (slotRelease n.1) s

end Sys2Proof.Machine
end

