-- ==== Sys2Proof/Machine/SxtOps.lean ====
section
/-! DEFINITION. What each decimal opcode reads, computes and writes, the statistics sets among them (R311 to R315). -/
namespace Sys2Proof.Machine

/-- The opcode of a descriptor's word 0 (R315). -/
def descOp (d : Word) : Nat := fld d 12 8
/-- The rounding mode in force: a reserved one acts as half-even (R308). -/
def descMode (d : Word) : Nat := let m := fld d 9 3; if 5 ≤ m then 0 else m
/-- The angle unit in force: the reserved one acts as radians (R315). -/
def descUnit (d : Word) : Nat := let u := fld d 7 2; if u = 3 then 0 else u
/-- A reserved field stands in the descriptor (R308, R315). -/
def descReserved (d : Word) : Bool := decide (5 ≤ fld d 9 3) || decide (fld d 7 2 = 3)

/-- An opcode of R312. -/
def opKnown (op : Nat) : Bool :=
  [0x01, 0x02, 0x03, 0x04, 0x05, 0x06, 0x07, 0x08, 0x09, 0x0A, 0x0B, 0x0C, 0x10, 0x11, 0x12, 0x13, 0x14, 0x15, 0x16, 0x17, 0x18,
    0x19, 0x1A, 0x1B, 0x1C, 0x20, 0x21, 0x22, 0x28, 0x29, 0x2A, 0x2B, 0x2C, 0x30, 0x31, 0x32, 0x33, 0x34, 0x35, 0x36, 0x37,
    0x38].contains op

/-- The operation takes B as a number. -/
def takesB (d : Word) : Bool :=
  [0x01, 0x02, 0x03, 0x04, 0x05, 0x08, 0x16, 0x21, 0x22].contains (descOp d) ||
    ((decide (descOp d = 0x31) || decide (descOp d = 0x32)) && tst d 4)

/-- The words of A that the operation reads. -/
def wordsA (d : Word) : Nat :=
  let op := descOp d
  if !opKnown op then 0
  else if op = 0x28 then 2
  else if op = 0x30 ∨ (0x33 ≤ op ∧ op ≤ 0x36) then 0
  else 5

/-- The operation reads or writes a statistics set (R313). -/
def usesSet (d : Word) : Bool := decide (0x30 ≤ descOp d) && decide (descOp d ≤ 0x38)

/-- The operation updates a statistics set. -/
def updatesSet (d : Word) : Bool := decide (0x30 ≤ descOp d) && decide (descOp d ≤ 0x32)

/-- The address of a statistics set (R314). -/
def setAddr (d : Word) : Nat := let k := fld d 5 2; if k = 0 then 0x3D1A0 else 0x3CF00 + 0x20 * (k - 1)

/-- The numbers that an operation writes from its result address on; TO_INT40 writes a pair in place of one. -/
def resultCount (d : Word) : Nat :=
  let op := descOp d
  if updatesSet d then 0 else if 0x33 ≤ op ∧ op ≤ 0x35 then 2 else if op = 0x36 then 3 else 1

/-- The value of an operation with one number as its result (R310 to R312). -/
def opValue (op mode unit : Nat) (pick : Bool) (a b : Dec) : DRes :=
  match op with
  | 0x01 => dAdd mode a b
  | 0x02 => dSub mode a b
  | 0x03 => dMul mode a b
  | 0x04 => dDiv mode a b
  | 0x05 => dRem a b
  | 0x06 => dSqrt mode a
  | 0x07 => dMul mode a a
  | 0x08 => dPow mode a b
  | 0x09 => dExp mode a
  | 0x0A => dLog false mode a
  | 0x0B => dExp10 mode a
  | 0x0C => dLog true mode a
  | 0x10 => dTrig false mode unit a
  | 0x11 => dTrig true mode unit a
  | 0x12 => dTan mode unit a
  | 0x13 => dAsin mode unit pick a
  | 0x14 => dAcos mode unit pick a
  | 0x15 => dAtan mode unit a
  | 0x16 => dAtan2 mode unit pick a b
  | 0x17 => dSinh mode pick a
  | 0x18 => dCosh mode pick a
  | 0x19 => dTanh mode pick a
  | 0x1A => dAsinh mode pick a
  | 0x1B => dAcosh mode pick a
  | 0x1C => dAtanh mode pick a
  | 0x20 => dFact mode pick a
  | 0x21 => dComb false mode pick a b
  | 0x22 => dComb true mode pick a b
  | 0x2A => dIntegral mode a
  | 0x2B => dAngle false mode unit a
  | 0x2C => dAngle true mode unit a
  | _ => (.qnan 0, 0)

/-- A statistics set's six numbers as integers over one power of ten (1 / d of a unit); none where one is no finite
number. -/
structure StatNums where
  d : Nat
  n : Int
  x : Int
  y : Int
  xx : Int
  yy : Int
  xy : Int
  a : Int
deriving DecidableEq, Repr

/-- The exponent of a finite number's last digit, or 0. -/
def expOf : Dec → Int
  | .fin _ _ q => q
  | _ => 0

/-- A finite number as an integer over 10^e, e at most its exponent. -/
def overExp (e : Int) : Dec → Int
  | .fin n c q => sgn n (c * 10 ^ (q - e).toNat)
  | _ => 0

/-- A number is finite. -/
def isFinite : Dec → Bool
  | .fin _ _ _ => true
  | _ => false

/-- Numbers over one exponent, which is at most 0. -/
def statNums (xs : List Dec) (a : Dec) : StatNums :=
  let e := (a :: xs).foldl (fun m x => min m (expOf x)) 0
  let g := fun i => overExp e (xs.getD i (dZero false))
  { d := 10 ^ (-e).toNat, n := g 0, x := g 1, y := g 2, xx := g 3, yy := g 4, xy := g 5, a := overExp e a }

/-- N² times the sum of squared deviations over the count, in x. -/
def StatNums.q (s : StatNums) : Int := s.xx * s.n - s.x * s.x
/-- The same in y. -/
def StatNums.r (s : StatNums) : Int := s.yy * s.n - s.y * s.y
/-- The same of the products. -/
def StatNums.p (s : StatNums) : Int := s.xy * s.n - s.x * s.y

/-- A quotient of integers, faithfully rounded; no value where the divisor is 0. -/
def quotF (mode : Nat) (pick : Bool) (num den : Int) : DRes :=
  if den = 0 then invalid else faithVal mode pick (if den < 0 then -num else num) den.natAbs 0

/-- The square root of a quotient of integers, faithfully rounded (R310, R311). -/
def rootF (mode : Nat) (pick neg : Bool) (num den : Int) : DRes :=
  let num := if den < 0 then -num else num
  if den = 0 ∨ num < 0 then invalid
  else if num = 0 then (dZero false, 0)
  else rootRat (faithRat mode pick neg) num.natAbs den.natAbs 0

/-- STAT_MEAN of one variable (R310, R312). -/
def statMean (mode : Nat) (pick : Bool) (n sum : Dec) : DRes :=
  match nanRule [n, sum] with
  | some r => r
  | none =>
    if isZero n then invalid
    else if isFinite n && isFinite sum then
      let s := statNums [n, sum] (dZero false)
      quotF mode pick s.x s.n
    else dDiv mode sum n

/-- STAT_SDEV (sample) and STAT_PSDEV of one variable (R310, R312). -/
def statDev (sample : Bool) (mode : Nat) (pick : Bool) (n sum sq : Dec) : DRes :=
  match nanRule [n, sum, sq] with
  | some r => r
  | none =>
    if isFinite n && isFinite sum && isFinite sq then
      let s := statNums [n, sum, dZero false, sq] (dZero false)
      if sample then (if s.n < 2 * s.d then invalid else rootF mode pick false s.q (s.n * (s.n - s.d)))
      else rootF mode pick false s.q (s.n * s.n)
    else invalid

/-- The three results of STAT_LINREG: slope, intercept, correlation (R310, R312). -/
def statLinreg (mode : Nat) (pick : Bool) (xs : List Dec) : List DRes :=
  match nanRule xs with
  | some r => [r, r, r]
  | none =>
    if !xs.all isFinite then [invalid, invalid, invalid]
    else
      let s := statNums xs (dZero false)
      if s.q = 0 ∨ s.n = 0 then [invalid, invalid, invalid]
      else
        let r := if s.r = 0 then invalid
          else if s.p = 0 then (dZero false, 0)
          else rootF mode pick (decide (s.p < 0)) (s.p * s.p) (s.q * s.r)
        [quotF mode pick s.p s.q, quotF mode pick (s.y * s.q - s.p * s.x) (s.n * s.q), r]

/-- STAT_EST_Y and STAT_EST_X of A (R310, R312). -/
def statEst (ofX : Bool) (mode : Nat) (pick : Bool) (xs : List Dec) (a : Dec) : DRes :=
  match nanRule (a :: xs) with
  | some r => r
  | none =>
    if !(a :: xs).all isFinite then invalid
    else
      let s := statNums xs a
      let k := s.y * s.q - s.p * s.x
      if s.q = 0 ∨ s.n = 0 then invalid
      else if !ofX then quotF mode pick (k * s.d + s.p * s.a * s.n) (s.n * s.q * s.d)
      else if s.r = 0 then invalid
      else
        let num := s.a * s.n * s.q - s.d * k
        if s.p = 0 then (if num = 0 then invalid else (.inf (decide (num * (s.n * s.q) < 0)), 8))
        else quotF mode pick num (s.d * s.n * s.p)

/-- The six sums after a point enters or leaves (R313): each rounded once. -/
def statUpdate (del : Bool) (mode : Nat) (xs : List Dec) (x y : Dec) : List DRes :=
  let g := fun i => xs.getD i (dZero false)
  let lin := fun (s t : Dec) => if del then dSub mode s t else dAdd mode s t
  let pr := fun (s u v : Dec) => dFma mode (if del && !isNan u then dNeg u else u) v s
  [lin (g 0) dOne, lin (g 1) x, lin (g 2) y, pr (g 3) x x, pr (g 4) y y, pr (g 5) x y]

/-- The numbers in a list of words, five to each. -/
def numbersOf (n : Nat) (ws : List Word) : List Dec := (List.range n).map fun k => decRead ((ws.drop (5 * k)).take 5)

/-- A number to be written. -/
def outDec (a : Nat) (d : Dec) : SxtOut := { addr := a % 2 ^ 20, words := decWords d }

/-- Numbers to be written at five-word steps. -/
def outDecs (a : Nat) (ds : List Dec) : List SxtOut := ds.zipIdx.map fun x => outDec (a + 5 * x.2) x.1

/-- The flags of several results together. -/
def allFlags (rs : List DRes) : Nat := rs.foldl (fun f r => f ||| r.2) 0

/-- The value of a pair, two's complement (R5). -/
def pairInt (ws : List Word) : Int :=
  let v := ofWords (ws.take 2)
  if 2 ^ 39 ≤ v then (v : Int) - 2 ^ 40 else v

/-- A list cut into its first, second and last pairs. -/
def inPairs (xs : List SxtOut) : List (List SxtOut) := [xs.take 2, (xs.drop 2).take 2, xs.drop 4]

/-- What an operation writes, phase by phase, and its flags: ops holds the words of A, of B, and of the set (R312,
R313, R332). The phases of an update of a set are those of the worked example of R334. -/
def opPlan (d : Word) (res : Nat) (ops : List Word) (pick : Bool) : List (List SxtOut) × Nat :=
  let op := descOp d
  let mode := descMode d
  let a := decRead (ops.take 5)
  let b := decRead ((ops.drop 5).take 5)
  let xs := numbersOf 6 (ops.drop (wordsA d + (if takesB d then 5 else 0)))
  let g := fun i => xs.getD i (dZero false)
  let many := fun (rs : List DRes) => ([outDecs res (rs.map (·.1))], allFlags rs)
  match op with
  | 0x28 => ([[outDec res (dFromInt (pairInt ops))]], 0)
  | 0x29 =>
    let r := dToInt mode a
    ([[{ addr := res, words := [ofI r.1, ofI (r.1 / 2 ^ 20)] }]], r.2)
  | 0x30 => ([outDecs (setAddr d) (List.replicate 6 (dZero false))], 0)
  | 0x31 =>
    let rs := statUpdate false mode xs a (if tst d 4 then b else dZero false)
    (inPairs (outDecs (setAddr d) (rs.map (·.1))), allFlags rs)
  | 0x32 =>
    let rs := statUpdate true mode xs a (if tst d 4 then b else dZero false)
    (inPairs (outDecs (setAddr d) (rs.map (·.1))), allFlags rs)
  | 0x33 => many [statMean mode pick (g 0) (g 1), statMean mode pick (g 0) (g 2)]
  | 0x34 => many [statDev true mode pick (g 0) (g 1) (g 3), statDev true mode pick (g 0) (g 2) (g 4)]
  | 0x35 => many [statDev false mode pick (g 0) (g 1) (g 3), statDev false mode pick (g 0) (g 2) (g 4)]
  | 0x36 => many (statLinreg mode pick xs)
  | 0x37 => many [statEst false mode pick xs a]
  | 0x38 => many [statEst true mode pick xs a]
  | _ => many [opValue op mode (descUnit d) pick a b]

/-- The operation evaluates with an error bound, so that its 72-digit pass may run (R311); the exact ones do not. -/
def mayRetry (op : Nat) : Bool := !([0x05, 0x28, 0x29, 0x2A, 0x30].contains op)

end Sys2Proof.Machine
end

