-- ==== Sys2Proof/Machine/Sxt.lean ====
section
/-! DEFINITION. Sextant's service of its queues: which request is next, its start, its results and its completion word
(R318 to R321), and one meaning per decimal opcode. -/
namespace Sys2Proof.Machine

/-- Words read by Sextant, each in its grant (R93), up to the first access that faults (R319). -/
def sxtRead (a : Nat) : Nat → State → Option (List Word) × State
  | 0, s => (some [], s)
  | n + 1, s =>
    let a := a % 2 ^ 20
    match reqFault 0x22 a false s with
    | some k => (none, recordFault a 0x22 k s)
    | none =>
      let r := busGet 0x22 a (busTurn 34 s)
      let rest := sxtRead (a + 1) n r.2
      (rest.1.map fun ws => r.1 :: ws, rest.2)

/-- Words written by Sextant up to the first access that faults (R319); whether all were written. -/
def sxtWords (a : Nat) : List Word → State → Bool × State
  | [], s => (true, s)
  | w :: ws, s =>
    let a := a % 2 ^ 20
    match reqFault 0x22 a true s with
    | some k => (false, recordFault a 0x22 k s)
    | none => sxtWords (a + 1) ws (busPut 0x22 a w (busTurn 34 s))

/-- Results written in order up to the first access that faults. -/
def sxtPut : List SxtOut → State → Bool × State
  | [], s => (true, s)
  | x :: xs, s =>
    let r := sxtWords x.addr x.words s
    if r.1 then sxtPut xs r.2 else r

/-- Word 0 of the descriptor at an address, as the start of the operation will read it; 0 where it cannot be read. -/
def descWord (a : Word) (s : State) : Word :=
  if (reqFault 0x22 a.toNat false s).isSome then 0 else (busGet 0x22 a.toNat s).1

/-- Two descriptors name the same statistics set (R334). -/
def sameSet (d e : Word) : Bool := usesSet d && usesSet e && decide (fld d 5 2 = fld e 5 2)

/-- The calculator's next function and the keys after it (R318, R323). -/
def calcNext (s : State) : Option (Nat × List Nat) := calcScan s.calculator.second s s.key.calcQ

/-- An operation of higher precedence than a bulk one is ready (R318, R334). -/
def higherReady (d : Word) (closed : Bool) (s : State) : Bool :=
  !s.rb 0x72011 0 &&
    ((calcUp s && (calcNext s).isSome) ||
      (match s.sxt.q0 with | a :: _ => !(closed && sameSet d (descWord a s)) | [] => false))

/-- The request that starts next, with its queue (R318, R340): none while an operation runs, is held, or recovers. -/
def sxtNext (s : State) : Option (Nat × Word) :=
  if !sxtUp s || s.sxt.run.isSome || s.sxt.mchk.isSome || s.rb 0x72011 0 || (calcUp s && (calcNext s).isSome) then none
  else
    match s.sxt.q0, s.sxt.part, s.sxt.q1 with
    | a :: _, none, _ => some (1, a)
    | a :: _, some o, _ => if o.closed && sameSet o.word0 (descWord a s) then none else some (1, a)
    | [], some _, _ => none
    | [], none, a :: _ => some (2, a)
    | [], none, [] => none

/-- The completion word (R320). -/
def doneWord (o : SxtOp) (status flags : Nat) : Word :=
  BitVec.ofNat 20 (2 ^ 19 + status % 8 * 2 ^ 16 + flags % 32 * 2 ^ 11 + o.retry.toNat * 16 + fld o.word0 0 4)

/-- An operation completes: its completion word is placed, and its queue moves on (R319, R320). -/
def sxtComplete (o : SxtOp) (status flags : Nat) (s : State) : State :=
  let w := (doneWord o status flags, o.desc)
  s.mapSxt fun x =>
    if o.queue = 1 then { x with run := none, done0 := x.done0 ++ [w], q0 := x.q0.drop 1, stopReq := false }
    else { x with run := none, done1 := x.done1 ++ [w], q1 := x.q1.drop 1, stopReq := false }

/-- The request names S0 while the calculator is active: it ends with BADOP and changes nothing (R313). -/
def calcSet0 (d : Word) (s : State) : Bool := usesSet d && decide (fld d 5 2 = 0) && calcActive s

/-- The status of an operation from its descriptor: BADOP for an undefined opcode, and for S0 while the calculator is
active (R312, R313). -/
def opStatus (d : Word) (s : State) : Nat := if !opKnown (descOp d) || calcSet0 d s then 2 else 0

/-- The operands of an operation in the order read: A, B, the set's six numbers (R319, R332). -/
def readOperands (d a b : Word) (s : State) : Option (List Word) × State :=
  let ra := sxtRead a.toNat (wordsA d) s
  match ra.1 with
  | none => ra
  | some wa =>
    let rb := sxtRead b.toNat (if takesB d then 5 else 0) ra.2
    match rb.1 with
    | none => rb
    | some wb =>
      let rs := sxtRead (setAddr d) (if usesSet d then 30 else 0) rb.2
      (rs.1.map fun ws => wa ++ wb ++ ws, rs.2)

/-- The pending words of an operation's results (R319). -/
def pendingOuts (d res : Word) : List SxtOut :=
  (List.range (resultCount d)).map fun k => { addr := (res.toNat + 5 * k) % 2 ^ 20, words := [0x40000#20] }

/-- An operation that has been read: what it will write, flags and status (R311, R312, R319). A BADOP operation writes
quiet NaNs. -/
def planned (o : SxtOp) (res : Word) (ops : List Word) (st : Nat) (s : State) : SxtOp :=
  let p :=
    if st = 0 then opPlan o.word0 res.toNat ops (Config.freeBool (s.freeCtr + 1))
    else ([outDecs res.toNat (List.replicate (resultCount o.word0) (.qnan 0))], 0)
  { o with ops := ops, phases := p.1, flags := p.2, status := st,
           retry := decide (st = 0) && mayRetry (descOp o.word0) && Config.freeBool s.freeCtr }

/-- An operation of a queue whose descriptor lies at a. -/
def opAt (k : Nat) (a : Word) (w0 : Word) (rest : List Word) : SxtOp :=
  { queue := k, desc := a, word0 := w0, rest := rest, ops := [], phases := [], flags := 0, status := 0, retry := false, phase := 0,
    upc := 0x2000, closed := false, loop := 0, cond := 0, stack := [], portX := 0 }

/-- The base of a context record (R333). -/
def contextBase (r : Nat) : Nat := 0x3A000 + 0x100 * r

/-- The token of a safe point (R331). -/
def tokenWord (phase u : Nat) : Word := BitVec.ofNat 20 (phase % 128 * 2 ^ 13 + u % 2 ^ 13)

/-- The place of working register i in a context record: behind the operands, 13 words each, low word first. R333 names words
6 to 0xFF for both and gives no layout (log 105). -/
def regPlace (i : Nat) : Nat := 46 + 13 * i

/-- The working registers are saved into record r (R333). -/
def saveRegs (r : Nat) (s : State) : State :=
  s.wrMemN (contextBase r + regPlace 0)
    ((List.range 208).map fun j => BitVec.ofNat 20 (vget 0 s.sxt.wreg (j / 13) / 2 ^ (20 * (j % 13))))

/-- The context record of phase 0 (R332, R333): descriptor address, descriptor, operands, working registers. -/
def saveContext (o : SxtOp) (s : State) : State :=
  saveRegs o.queue (s.wrMemN (contextBase o.queue + 1) (o.desc :: o.word0 :: o.rest ++ o.ops))

/-- The safe point of phase p of an operation, dispatched by number n, of record r: its token (R331). -/
def putToken (r n p : Nat) (s : State) : State := s.wrMem (contextBase r) (tokenWord p (Config.afterSafe n p).toNat)

/-- Steps 1 and 2 of R319, and the safe point of phase 0 (R332): descriptor and operands are read, the pending words written, and
the context record and its token saved. The operation runs, or it has
ended with BADADDR, or with MCHK where Sextant has failed. -/
def sxtBegin (k : Nat) (a : Word) (s : State) : State :=
  let rd := sxtRead a.toNat 4 s
  match rd.1 with
  | none => sxtComplete (opAt k a (descWord a s) []) (if sxtFailed s then 3 else 4) 0 rd.2
  | some ws =>
    let d := ws.getD 0 0
    let o := opAt k a d (ws.drop 1)
    let s := if descReserved d then sxtCfgErr rd.2 else rd.2
    if sxtFailed s then sxtComplete o 3 0 s
    else if calcSet0 d s then sxtComplete o 2 0 s
    else
      let ro := readOperands d (ws.getD 1 0) (ws.getD 2 0) s
      match ro.1 with
      | none => sxtComplete o 4 0 ro.2
      | some ops =>
        let rp := sxtPut (pendingOuts d (ws.getD 3 0)) ro.2
        if !rp.1 then sxtComplete o 4 0 rp.2
        else
          let o := planned o (ws.getD 3 0) ops (opStatus d rp.2) rp.2
          let s := putToken k (descOp d) 0 (saveContext o (rp.2.advance 2))
          s.mapSxt fun x => { x with run := some o, upc := 0x2000, stack := [] }

/-- The phases that are left, from phase p on: each is written and, but for the last, which END ends, followed by the token of
its safe point (R331). -/
def sxtPhases (o : SxtOp) (p : Nat) : List (List SxtOut) → State → Bool × State
  | [], s => (true, s)
  | [x], s => sxtPut x s
  | x :: xs, s =>
    let r := sxtPut x s
    if r.1 then sxtPhases o (p + 1) xs (putToken o.queue (descOp o.word0) p r.2) else r

/-- The operation that runs writes what is left, phase by phase, and completes (R319, R331). -/
def sxtFinish (s : State) : State :=
  match s.sxt.run with
  | none => s
  | some o =>
    let r := sxtPhases o (o.phase + 1) o.phases s
    if r.1 then sxtComplete o o.status o.flags r.2 else sxtComplete o 4 0 r.2

/-- The opcode that starts next: 0 where its descriptor cannot be read, 0 too for an opcode that R312 does not list and
for a request that names S0 while the calculator is active. -/
def nextOp (s : State) : Option Nat :=
  (sxtNext s).map fun x =>
    let d := descWord x.2 s
    if opStatus d s = 0 then descOp d else 0

/-- A whole operation, from its start to its completion word, where its opcode is next (R318, R319). -/
def sxtRow (op : Nat) (s : State) : Result :=
  match sxtNext s with
  | some x => happens (decide (nextOp s = some op)) (fun s => sxtFinish (sxtBegin x.1 x.2 s)) s
  | none => .next s

/-- SXT_ADD: opcode 0x01 of R312, carried out from start to completion. -/
def execSxtAdd (s : State) : Result := sxtRow 0x01 s

/-- SXT_SUB: opcode 0x02 of R312, carried out from start to completion. -/
def execSxtSub (s : State) : Result := sxtRow 0x02 s

/-- SXT_MUL: opcode 0x03 of R312, carried out from start to completion. -/
def execSxtMul (s : State) : Result := sxtRow 0x03 s

/-- SXT_DIV: opcode 0x04 of R312, carried out from start to completion. -/
def execSxtDiv (s : State) : Result := sxtRow 0x04 s

/-- SXT_REM: opcode 0x05 of R312, carried out from start to completion. -/
def execSxtRem (s : State) : Result := sxtRow 0x05 s

/-- SXT_SQRT: opcode 0x06 of R312, carried out from start to completion. -/
def execSxtSqrt (s : State) : Result := sxtRow 0x06 s

/-- SXT_SQR: opcode 0x07 of R312, carried out from start to completion. -/
def execSxtSqr (s : State) : Result := sxtRow 0x07 s

/-- SXT_POW: opcode 0x08 of R312, carried out from start to completion. -/
def execSxtPow (s : State) : Result := sxtRow 0x08 s

/-- SXT_EXP: opcode 0x09 of R312, carried out from start to completion. -/
def execSxtExp (s : State) : Result := sxtRow 0x09 s

/-- SXT_LN: opcode 0x0A of R312, carried out from start to completion. -/
def execSxtLn (s : State) : Result := sxtRow 0x0A s

/-- SXT_EXP10: opcode 0x0B of R312, carried out from start to completion. -/
def execSxtExp10 (s : State) : Result := sxtRow 0x0B s

/-- SXT_LOG10: opcode 0x0C of R312, carried out from start to completion. -/
def execSxtLog10 (s : State) : Result := sxtRow 0x0C s

/-- SXT_SIN: opcode 0x10 of R312, carried out from start to completion. -/
def execSxtSin (s : State) : Result := sxtRow 0x10 s

/-- SXT_COS: opcode 0x11 of R312, carried out from start to completion. -/
def execSxtCos (s : State) : Result := sxtRow 0x11 s

/-- SXT_TAN: opcode 0x12 of R312, carried out from start to completion. -/
def execSxtTan (s : State) : Result := sxtRow 0x12 s

/-- SXT_ASIN: opcode 0x13 of R312, carried out from start to completion. -/
def execSxtAsin (s : State) : Result := sxtRow 0x13 s

/-- SXT_ACOS: opcode 0x14 of R312, carried out from start to completion. -/
def execSxtAcos (s : State) : Result := sxtRow 0x14 s

/-- SXT_ATAN: opcode 0x15 of R312, carried out from start to completion. -/
def execSxtAtan (s : State) : Result := sxtRow 0x15 s

/-- SXT_ATAN2: opcode 0x16 of R312, carried out from start to completion. -/
def execSxtAtan2 (s : State) : Result := sxtRow 0x16 s

/-- SXT_SINH: opcode 0x17 of R312, carried out from start to completion. -/
def execSxtSinh (s : State) : Result := sxtRow 0x17 s

/-- SXT_COSH: opcode 0x18 of R312, carried out from start to completion. -/
def execSxtCosh (s : State) : Result := sxtRow 0x18 s

/-- SXT_TANH: opcode 0x19 of R312, carried out from start to completion. -/
def execSxtTanh (s : State) : Result := sxtRow 0x19 s

/-- SXT_ASINH: opcode 0x1A of R312, carried out from start to completion. -/
def execSxtAsinh (s : State) : Result := sxtRow 0x1A s

/-- SXT_ACOSH: opcode 0x1B of R312, carried out from start to completion. -/
def execSxtAcosh (s : State) : Result := sxtRow 0x1B s

/-- SXT_ATANH: opcode 0x1C of R312, carried out from start to completion. -/
def execSxtAtanh (s : State) : Result := sxtRow 0x1C s

/-- SXT_FACT: opcode 0x20 of R312, carried out from start to completion. -/
def execSxtFact (s : State) : Result := sxtRow 0x20 s

/-- SXT_NCR: opcode 0x21 of R312, carried out from start to completion. -/
def execSxtNcr (s : State) : Result := sxtRow 0x21 s

/-- SXT_NPR: opcode 0x22 of R312, carried out from start to completion. -/
def execSxtNpr (s : State) : Result := sxtRow 0x22 s

/-- FROM_INT40: opcode 0x28 of R312, carried out from start to completion. -/
def execFromInt40 (s : State) : Result := sxtRow 0x28 s

/-- TO_INT40: opcode 0x29 of R312, carried out from start to completion. -/
def execToInt40 (s : State) : Result := sxtRow 0x29 s

/-- INTEGRAL: opcode 0x2A of R312, carried out from start to completion. -/
def execIntegral (s : State) : Result := sxtRow 0x2A s

/-- TO_RAD: opcode 0x2B of R312, carried out from start to completion. -/
def execToRad (s : State) : Result := sxtRow 0x2B s

/-- FROM_RAD: opcode 0x2C of R312, carried out from start to completion. -/
def execFromRad (s : State) : Result := sxtRow 0x2C s

/-- STAT_CLR: opcode 0x30 of R313, carried out from start to completion. -/
def execStatClr (s : State) : Result := sxtRow 0x30 s

/-- STAT_ADD: opcode 0x31 of R313, carried out from start to completion. -/
def execStatAdd (s : State) : Result := sxtRow 0x31 s

/-- STAT_DEL: opcode 0x32 of R313, carried out from start to completion. -/
def execStatDel (s : State) : Result := sxtRow 0x32 s

/-- STAT_MEAN: opcode 0x33 of R312, carried out from start to completion. -/
def execStatMean (s : State) : Result := sxtRow 0x33 s

/-- STAT_SDEV: opcode 0x34 of R312, carried out from start to completion. -/
def execStatSdev (s : State) : Result := sxtRow 0x34 s

/-- STAT_PSDEV: opcode 0x35 of R312, carried out from start to completion. -/
def execStatPsdev (s : State) : Result := sxtRow 0x35 s

/-- STAT_LINREG: opcode 0x36 of R312, carried out from start to completion. -/
def execStatLinreg (s : State) : Result := sxtRow 0x36 s

/-- STAT_EST_Y: opcode 0x37 of R312, carried out from start to completion. -/
def execStatEstY (s : State) : Result := sxtRow 0x37 s

/-- STAT_EST_X: opcode 0x38 of R312, carried out from start to completion. -/
def execStatEstX (s : State) : Result := sxtRow 0x38 s

/-- BADOP: an opcode without an operation, or S0 while the calculator is active (R313, R319, R330). -/
def execBadop (s : State) : Result := sxtRow 0x00 s

end Sys2Proof.Machine
end

