-- ==== Sys2Proof/Machine/CalcShow.lean ====
section
/-! DEFINITION. What the calculator shows: numbers, bases, indicators and errors as characters, and their dots in the
display memory (R326, R359, R361). -/
namespace Sys2Proof.Machine

/-- Character codes of a text. -/
def chars (t : String) : List Nat := t.toList.map (·.toNat)

/-- The n digits of a number in a base, most significant first. -/
def digitChars (base : Nat) : Nat → Nat → List Nat
  | 0, _ => []
  | n + 1, v =>
    let d := v % base
    digitChars base n (v / base) ++ [if d < 10 then 48 + d else 55 + d]

/-- Text at the right of a field of n columns. -/
def rightAligned (n : Nat) (t : List Nat) : List Nat := List.replicate (n - t.length) 32 ++ t.take n

/-- Text at the left of a field of n columns. -/
def leftAligned (n : Nat) (t : List Nat) : List Nat := (t ++ List.replicate n 32).take n

/-- Trailing zeros are suppressed. -/
def dropZeros (t : List Nat) : List Nat := (t.reverse.dropWhile (· = 48)).reverse

/-- Digits before and after the point; the point stands where a fraction is shown or hidden. -/
def withPoint (whole frac : List Nat) (fraction : Bool) : List Nat :=
  let f := dropZeros frac
  if f.isEmpty && !fraction then whole else whole ++ [46] ++ f

/-- The 24 digits d1 to d24 and the exponent E of a finite number that is not zero, as it is stored: a subnormal has E = −9999 and
zeros before its digits (R307). -/
def digits24 (c : Nat) (q : Int) : Nat × Int :=
  let e := q + digits c - 1
  if e < -9999 then (c * 10 ^ (q + 10022).toNat, -9999) else (c * 10 ^ (24 - digits c), e)

/-- The value has a fraction. -/
def hasFraction (c : Nat) (q : Int) : Bool := decide (q < 0) && decide (c % 10 ^ (min 10100 (-q).toNat) ≠ 0)

/-- A finite number in 12 digits, half-up (R326): line 2 and columns 11 to 16 of line 1. E of a value that rounds up to 10^10000 has
no four digits, and what stands there is free (log 67). -/
def showFinite (neg : Bool) (c : Nat) (q : Int) : List Nat × List Nat :=
  if c = 0 then ([48], [])
  else
    let n := digits24 c q
    let r := (n.1 + 5 * 10 ^ 11) / 10 ^ 12
    let e := if r = 10 ^ 12 then n.2 + 1 else n.2
    let ds := digitChars 10 12 (if r = 10 ^ 12 then 10 ^ 11 else r)
    let sign := if neg then [45] else []
    if -2 ≤ e ∧ e ≤ 11 then
      let t :=
        if 0 ≤ e then withPoint (ds.take (e.toNat + 1)) (ds.drop (e.toNat + 1)) (hasFraction c q)
        else withPoint [48] (List.replicate (-e - 1).toNat 48 ++ ds) true
      (sign ++ t, [])
    else
      (sign ++ withPoint (ds.take 1) (ds.drop 1) true,
        [69, if e < 0 then 45 else 43] ++ digitChars 10 4 (if 9999 < e then Config.expOver else e.natAbs))

/-- Digits 13 to 24 of a number (R326). -/
def showLow (d : Dec) : List Nat :=
  match d with
  | .fin _ c q => if c = 0 then digitChars 10 12 0 else digitChars 10 12 ((digits24 c q).1 % 10 ^ 12)
  | _ => []

/-- The value of x in a base other than decimal: TO_INT40 toward zero as 40 bits; none where it is out of range. -/
def baseValue (d : Dec) : Option Nat :=
  let r := dToInt 2 d
  if 16 ≤ r.2 then none else some (r.1 % 2 ^ 40).toNat

/-- Leading zeros are suppressed; 0 shows one. -/
def dropLead (t : List Nat) : List Nat :=
  let r := t.dropWhile (· = 48)
  if r.isEmpty then [48] else r

/-- x in base H, B or O (R326). -/
def showBase (base scroll v : Nat) : List Nat :=
  if base = 1 then dropLead (digitChars 16 10 v)
  else if base = 3 then dropLead (digitChars 8 14 v)
  else
    match scroll with
    | 0 => digitChars 2 16 (v % 2 ^ 16)
    | 1 => digitChars 2 16 (v / 2 ^ 16 % 2 ^ 16)
    | _ => digitChars 2 8 (v / 2 ^ 32)

/-- The value of an entry (R325). -/
def entryValue (e : CalcEntry) : Dec :=
  let c := e.digits.foldl (fun n d => 10 * n + d) 0
  let frac := match e.point with | some p => e.digits.length - p | none => 0
  let m : Nat := e.expDigits.foldl (fun n d => 10 * n + d) 0
  let x : Int := m
  if c = 0 then dZero e.neg
  else (roundRat 0 e.neg c 1 ((if e.expNeg then -x else x) - frac)).1

/-- x: the entry, or the displayed result (R325). -/
def calcX (c : Calc) : Dec := match c.entry with | some e => entryValue e | none => c.x

/-- Line 2, and columns 11 to 16 of line 1. -/
def showValue (c : Calc) : List Nat × List Nat :=
  match c.err with
  | some .nan => (chars "Error", chars "NaN")
  | some .stack => (chars "Error", chars "Stack")
  | some .range => (chars "Error", chars "Range")
  | some .fault => (chars "Error", chars "Fault")
  | none =>
    match calcX c with
    | .inf n => (chars (if n then "-Infinity" else "Infinity"), [])
    | .fin n k q =>
      if c.base ≠ 0 then (match baseValue (.fin n k q) with | some v => (showBase c.base c.scroll v, []) | none => ([], []))
      else if c.scroll = 0 then showFinite n k q
      else (showLow (.fin n k q), chars "13-24")
    | _ => (chars "Error", chars "NaN")

/-- The two columns of the pending operator. -/
def opChars (code : Nat) : List Nat :=
  match code with
  | 0x20 => chars "+ "
  | 0x21 => chars "- "
  | 0x22 => chars "x "
  | 0x23 => chars "/ "
  | 0x24 => chars "^ "
  | 0x25 => chars "nC"
  | 0x26 => chars "nP"
  | _ => chars "  "

/-- The pending operator: the newest, where the newest item is one. -/
def pendingOp (c : Calc) : Nat := match c.items with | .op code _ :: _ => code | _ => 0

/-- Open parentheses. -/
def openParens (c : Calc) : Nat := (c.items.filter fun i => decide (i = .paren)).length

/-- Columns 1 to 10 of line 1 (R326). -/
def indicators (c : Calc) (points : Bool) : List Nat :=
  let p := openParens c
  [if c.second then 50 else 32] ++ chars (match c.unit with | 0 => "RAD" | 1 => "DEG" | _ => "GRA") ++
    [match c.base with | 0 => 68 | 1 => 72 | 2 => 66 | _ => 79] ++ [if points then 83 else 32] ++
    (if p = 0 then [32, 32] else [32, 48 + p]) ++ opChars (pendingOp c)

/-- n of S0 is not zero. -/
def statPoints (s : State) : Bool := !isZero (decRead (s.rdMemN 0x3D1A0 5))

/-- The display memory of 32 characters (R359): each glyph in the upper left of its cell of 6 by 8 dots. -/
def drawChars (t : List Nat) (s : State) : State :=
  let col := fun (code j : Nat) => (Config.glyph code).toNat / 2 ^ (7 * j) % 128
  forAll 96 (fun k s =>
    let c := k / 6
    let j := k % 6
    let dots := if j = 5 then 0 else col (t.getD c 32) j + 256 * col (t.getD (16 + c) 32) j
    s.wr (0x71C40 + k) (BitVec.ofNat 20 dots)) s

/-- The calculator shows its state (R326, R361). -/
def calcShow (s : State) : State :=
  let c := s.calculator
  let v := showValue c
  let t := leftAligned 10 (indicators c (statPoints s)) ++ leftAligned 6 v.2 ++ rightAligned 16 v.1
  let s := (parityReads 0x22 0x3D1A0 5 s).mapCup fun x => { x with lines := t }
  if s.dom 5 then drawChars t s else s

/-- The calculator that has become active draws its picture as soon as it works (R323, R361); one that is no longer active leaves
the display memory to its writers. -/
def calcDraw (s : State) : State :=
  if !calcActive s then (if s.calculator.drawn then s.mapCalc fun c => { c with drawn := false } else s)
  else if calcUp s && !s.calculator.drawn then calcShow (s.mapCalc fun c => { c with drawn := true })
  else s

/-- The calculator stops on a machine check, and the recovery routine shows the fault (R336). -/
def calcFault (s : State) : State :=
  if calcActive s then calcShow (s.mapCalc fun c => { c with err := some .fault }) else s

end Sys2Proof.Machine
end

