-- ==== Sys2Proof/Machine/Micro.lean ====
section
/-! DEFINITION. Sextant's microcode: fetch with matches and parity, the microword kinds, safe points, preemption, machine
check and the horizontal words (R327 to R337). -/
namespace Sys2Proof.Machine

/-- A parity error of a store is captured (R335): nothing since the latest token becomes visible. -/
def mchkBegin (store addr : Nat) (s : State) : State :=
  let s := (s.wr 0x72014 (BitVec.ofNat 20 (2 ^ 19 + store % 8 * 2 ^ 16 + addr % 2 ^ 13))).bump 0x72015
  s.mapSxt fun x => { x with mchk := some (store, addr) }

/-- The error is persistent (R336): the operation completes with MCHK, Sextant has failed, the Helm cores take an NMI. -/
def mchkPersist (s : State) : State :=
  let s := ((s.wb 0x72014 15 true).wb 0x72000 19 true).mapSxt fun x => { x with mchk := none }
  let s := match s.sxt.run with | some o => sxtComplete o 3 0 s | none => s
  raiseNmiAll (calcFault s)

/-- An unpopulated location or a reserved word: persistent at once (R327, R328, R336). -/
def mchkReserved (addr : Nat) (s : State) : State := mchkPersist (mchkBegin 7 addr s)

/-- What a micro-address yields: a word, a parity error of a store at an address, a persistent error, or nothing, where the
command's word is not the word that the store holds. -/
inductive Fetched where
  | word (w : Word)
  | parity (store addr : Nat)
  | reserved
  | absent
deriving DecidableEq, Repr

/-- The lowest armed match of a ROM address (R338). -/
def matchOf (u : Nat) (s : State) : Option Nat :=
  ((List.range 16).find? fun j => s.rb (0x72020 + j) 19 && decide (s.rf (0x72020 + j) 0 12 = u)).map fun j =>
    s.rf (0x72020 + j) 12 6

/-- A patch microword, and whether its parity held: an unwritten location reads as zeros with wrong parity (R327, R335). -/
def patchFetch (ok : Bool) (i : Nat) (s : State) : Fetched :=
  let v := lookup zeroAt s.sxt.patchMicro i
  if v = 0 ∨ ok = false then .parity 4 (0x1000 + i) else .word (BitVec.ofNat 20 (v - 1))

/-- Where the microword of a micro-address is fetched from: the patch RAM for a matched ROM address (R338). -/
def microSeat (u : Nat) (s : State) : Nat :=
  if u < 0x1000 then (match matchOf u s with | some i => 0x1000 + i | none => u) else u

/-- The fetch at a micro-address whose match, if any, has applied (R327, R335). -/
def microFetch (x : MicroFetch) (u : Nat) (s : State) : Fetched :=
  if u < 0x1000 then
    if !x.ok then .parity 0 u else if x.rom = Config.microRom u then .word x.rom else .absent
  else if u < 0x1040 then patchFetch x.ok (u - 0x1000) s
  else .reserved

/-- The kinds of a microword (R328). -/
inductive MicroKind where
  | nano
  | jump
  | call
  | ret
  | dispatch
  | branch
  | lit
  | safe
  | fin
deriving DecidableEq, Repr

/-- The kind of a microword; none for a reserved kind or a non-zero value in a field given as 0. -/
def microKind (w : Word) : Option MicroKind :=
  match fld w 17 3 with
  | 0 => some .nano
  | 1 =>
    if fld w 13 2 ≠ 0 then none
    else match fld w 15 2 with
      | 0 => some .jump
      | 1 => some .call
      | 2 => some .ret
      | _ => some .dispatch
  | 2 => some .branch
  | 3 => some .lit
  | 4 => if fld w 0 9 = 0 then some .safe else none
  | 5 => if fld w 0 14 = 0 then some .fin else none
  | _ => none

/-- The sequencer goes to a micro-address. -/
def microGo (u : Nat) (s : State) : State := s.mapSxt fun x => { x with upc := u % 2 ^ 13, stopReq := false }

/-- The sequencer goes on to the next microword. -/
def microNext (s : State) : State := microGo (s.sxt.upc + 1) s

/-- An operation is being sequenced: Sextant is up, and no machine check is being recovered. -/
def microRuns (s : State) : Bool :=
  sxtUp s && s.sxt.run.isSome && s.sxt.mchk.isNone && decide (s.sxt.upc < 0x2000)

/-- The sequencer takes a matched fetch into the patch RAM, where it goes on (R338). -/
def microSit (s : State) : State := s.mapSxt fun x => { x with upc := microSeat s.sxt.upc s }

/-- A microword is fetched: a failure is a machine check whichever row reports it; its own kind has its effect. -/
def microRow (k : MicroKind) (x : MicroFetch) (eff : Word → State → State) (s : State) : Result :=
  happens (microRuns s)
    (fun s =>
      let s := microSit s
      match microFetch x s.sxt.upc s with
      | .absent => s
      | .reserved => mchkReserved s.sxt.upc s
      | .parity st a => mchkBegin st a s
      | .word w =>
        match microKind w with
        | none => mchkReserved s.sxt.upc s
        | some k' => if k' = k then eff w s else s) s

/-- The datapath under a nanoword or horizontal word w with the numbers x and y at its ports and record r (R329): the result, or
the context word it reads, goes to the destination or to the context word it writes; conditions are latched. Between two safe
points it changes nothing else (R331). A context word with wrong parity is a machine check (R335). -/
def datapath (r : Nat) (w : BitVec 128) (x y : Nat) (s : State) : State :=
  let k := 6 + Config.microAddr w x y % 250
  if Config.microMem w = 1 ∧ s.badParity.contains (contextBase r + k) = true then mchkBegin 6 k s
  else
    let v := if Config.microMem w = 1 then (s.rdMem (contextBase r + k)).toNat else Config.microAlu w x y % 2 ^ 260
    let s := if Config.microMem w = 2 then s.wrMem (contextBase r + k) (BitVec.ofNat 20 v) else s
    s.mapSxt fun z =>
      { z with cond := Config.microFlags w x y z.cond,
               wreg := if Config.microDest w < 16 then vset z.wreg (Config.microDest w) v else z.wreg }

/-- The context record of the operation under way (R333): that of its queue, the calculator's, or the horizontal routines'. -/
def recordOf (s : State) : Nat := match s.sxt.run with | some o => o.queue | none => 3

/-- A nanoword runs (R328, R329) on the working registers that the microword w binds to its ports; its loop count is loaded. -/
def nanoRun (w : Word) (nano : BitVec 128) (s : State) : State :=
  let x := vget 0 s.sxt.wreg (fld w 3 4)
  let y := vget 0 s.sxt.wreg (fld w 0 3)
  let s := s.mapSxt fun z => { z with portX := fld w 3 4, loop := nano.toNat % 65536 }
  let t := datapath (recordOf s) nano x y s
  if t.sxt.mchk.isSome then t else microNext t

/-- A NANO microword fetches its nanoword (R327, R335); an operand that is not the word of the ROM is no fetch of it. -/
def microNano (nano : BitVec 128) (nanoOk : Bool) (w : Word) (s : State) : State :=
  let a := fld w 7 10
  if a < 0x200 then
    if !nanoOk then mchkBegin 1 a s else if nano = Config.nanoRom a then nanoRun w nano s else s
  else if a < 0x210 then
    let v := lookup zeroAt s.sxt.patchNano (a - 0x200)
    if v = 0 ∨ nanoOk = false then mchkBegin 5 a s else nanoRun w (BitVec.ofNat 128 (v - 1)) s
  else mchkReserved a s

/-- A call pushes the next address on the micro-stack, whose depth is 8 (R328). -/
def microCall (w : Word) (s : State) : State :=
  let next := (s.sxt.upc + 1) % 2 ^ 13
  microGo (fld w 0 13) (s.mapSxt fun x => { x with stack := (next :: x.stack).take 8 })

/-- A return pops the micro-stack; from an empty one it goes where the manual does not say. -/
def microReturn (s : State) : State :=
  match s.sxt.stack with
  | a :: r => microGo a (s.mapSxt fun x => { x with stack := r })
  | [] => microGo (Config.freeNat s.freeCtr) (s.advance 1)

/-- A stop for a state entry is pending (R321, R334). -/
def stopPending (s : State) : Bool := match s.pwr.entry with | some e => decide (e.target = 3) | none => false

/-- A preemption is pending for the operation (R334). -/
def preemptPending (o : SxtOp) (closed : Bool) (s : State) : Bool :=
  decide (o.queue = 2) && higherReady o.word0 closed s

/-- The operand whose class a BRANCH tests: the operation's first, or the calculator's x (R328 says "operand"; log 105). -/
def testedOperand (s : State) : Dec :=
  match s.sxt.run with
  | some o => decRead (o.ops.take 5)
  | none => s.calculator.x

/-- The angle unit of the operation under way: its descriptor's, or the calculator's. -/
def unitOf (s : State) : Nat :=
  match s.sxt.run with
  | some o => descUnit o.word0
  | none => s.calculator.unit

/-- A preemption or a stop is pending for the operation under way (R328, R334). -/
def yieldPending (s : State) : Bool :=
  stopPending s || (match s.sxt.run with | some o => preemptPending o false s | none => false)

/-- The condition of a BRANCH (R328): of the number at port X, of the loop counter, of the operand, of the unit, or as a
nanoword has latched it. -/
def microCond (code : Nat) (s : State) : Bool :=
  let x := vget 0 s.sxt.wreg s.sxt.portX
  match code with
  | 0x0 => decide (x = 0)
  | 0x1 => Config.regNegative x
  | 0x8 => decide (s.sxt.loop = 0)
  | 0x9 => (match testedOperand s with | .fin _ _ _ => true | _ => false)
  | 0xA => isNan (testedOperand s)
  | 0xB => (match testedOperand s with | .inf _ => true | _ => false)
  | 0xC => yieldPending s
  | 0xD => decide (unitOf s = 1)
  | 0xE => decide (unitOf s = 2)
  | 0xF => true
  | c => s.sxt.cond.testBit c

/-- A test of the loop counter counts it down to 0; no rule says when it counts (log 105). -/
def loopDown (code : Nat) (s : State) : State :=
  if code = 0x8 then s.mapSxt fun x => { x with loop := x.loop - 1 } else s

/-- A BRANCH jumps if its condition holds. -/
def microBranch (w : Word) (s : State) : State :=
  let t := loopDown (fld w 13 4) s
  if microCond (fld w 13 4) s then microGo (fld w 0 13) t else microNext t

/-- LIT loads a literal. -/
def microLit (w : Word) (s : State) : State :=
  microNext (s.mapSxt fun x => { x with wreg := vset x.wreg (fld w 13 4) (fld w 0 13) })

/-- The visible state of the phases up to the one that ends is written (R331). -/
def commitPhase (phase : Nat) (o : SxtOp) (s : State) : Bool × SxtOp × State :=
  let n := phase - o.phase
  let p := sxtPut (o.phases.take n).flatten s
  (p.1, { o with phases := o.phases.drop n }, p.2)

/-- A safe point (R331, R334): commit, token, then preemption or stop. Those of the operations that update a set are closed. -/
def microSafe (w : Word) (s : State) : State :=
  match s.sxt.run with
  | none => s
  | some o =>
    let phase := fld w 9 7
    let closed := tst w 16 || updatesSet o.word0
    let u := (s.sxt.upc + 1) % 2 ^ 13
    let c := commitPhase phase o (if phase = 0 then saveContext o s else saveRegs o.queue s)
    if !c.1 then sxtComplete o 4 0 c.2.2
    else
      let x := s.sxt
      let o := { c.2.1 with phase := max o.phase phase, upc := u, closed := closed,
                            loop := x.loop, cond := x.cond, stack := x.stack, portX := x.portX }
      let s := c.2.2.wrMem (contextBase o.queue) (tokenWord phase u)
      let s := microGo u (s.mapSxt fun x => { x with run := some o })
      if stopPending s then s.mapSxt fun x => { x with stopReq := true }
      else if preemptPending o closed s then
        (s.mapSxt fun x => { x with run := none, part := some o }).bump 0x72018
      else s

/-- END completes the operation with its status (R319, R320): results are written where it is OK or BADOP; the routine of the
undefined opcodes completes with BADOP (R330). -/
def microEnd (w : Word) (s : State) : State :=
  match s.sxt.run with
  | none => s
  | some o =>
    let st := if o.status = 2 then 2 else fld w 14 3
    let nans := outDecs (o.rest.getD 2 0).toNat (List.replicate (resultCount o.word0) (.qnan 0))
    let outs := if st = 0 then o.phases.flatten else if st = 2 then (if o.status = 2 then o.phases.flatten else nans) else []
    let r := sxtPut outs s
    if r.1 then sxtComplete o st (if st = 0 then o.flags else 0) r.2 else sxtComplete o 4 0 r.2

/-- The dispatch entry of an opcode (R330): every undefined opcode's, and that of 0x80 and above, names the one BADOP routine. -/
def dispatchEntry (op : Nat) : BitVec 13 := if opKnown op then Config.dispatchTable op else Config.badopRoutine

/-- A dispatch entry is read (R330, R335); an operand that is not the table's entry is no read of it. -/
def dispatchTo (entry : BitVec 13) (ok : Bool) (s : State) : State :=
  match s.sxt.run with
  | none => s
  | some o =>
    if ok && decide (entry ≠ dispatchEntry (descOp o.word0)) then s
    else if ok then
      microGo entry.toNat (if o.upc < 0x2000 then s else s.mapSxt fun x => { x with run := some { o with upc := entry.toNat } })
    else mchkBegin 3 (descOp o.word0) s

/-- MICRO_NANO (R328, R329). -/
def execMicroNano (x : MicroFetch) (nano : BitVec 128) (nanoOk : Bool) (s : State) : Result :=
  microRow .nano x (microNano nano nanoOk) s

/-- MICRO_JUMP (R328). -/
def execMicroJump (x : MicroFetch) (s : State) : Result := microRow .jump x (fun w => microGo (fld w 0 13)) s

/-- MICRO_CALL (R328). -/
def execMicroCall (x : MicroFetch) (s : State) : Result := microRow .call x microCall s

/-- MICRO_RETURN (R328). -/
def execMicroReturn (x : MicroFetch) (s : State) : Result := microRow .ret x (fun _ => microReturn) s

/-- MICRO_DISPATCH (R319, R330): the next operation starts and reads its dispatch entry, or a dispatch microword reads
the entry of the current opcode. -/
def execMicroDispatch (x : MicroFetch) (entry : BitVec 13) (entryOk : Bool) (s : State) : Result :=
  match sxtNext s with
  | some n => .next (dispatchTo entry entryOk (sxtBegin n.1 n.2 s))
  | none =>
    if sxtUp s && s.sxt.run.isSome && s.sxt.mchk.isNone && decide (0x2000 ≤ s.sxt.upc) then
      .next (dispatchTo entry entryOk s)
    else microRow .dispatch x (fun _ => dispatchTo entry entryOk) s

/-- MICRO_BRANCH (R328). -/
def execMicroBranch (x : MicroFetch) (s : State) : Result := microRow .branch x microBranch s

/-- MICRO_LIT (R328). -/
def execMicroLit (x : MicroFetch) (s : State) : Result := microRow .lit x microLit s

/-- MICRO_SAFE (R331, R334). -/
def execMicroSafe (x : MicroFetch) (s : State) : Result := microRow .safe x microSafe s

/-- MICRO_END (R319, R328). -/
def execMicroEnd (x : MicroFetch) (s : State) : Result := microRow .fin x microEnd s

/-- Where a horizontal word goes on (R329). -/
def horizontalNext (a : Nat) (w : Nat) (s : State) : State :=
  let set := fun (p : Option Nat) (t : State) => t.mapSxt fun x => { x with hpc := p }
  match w / 2 ^ 13 % 8 with
  | 0 => set (some ((a + 1) % 256)) s
  | 1 => set (some (w % 256)) s
  | 2 => set (some (if microCond (w / 512 % 16) s then w % 256 else (a + 1) % 256)) s
  | 3 => set none (s.mapSxt fun x => { x with upc := w % 2 ^ 13 })
  | 4 => set none s
  | _ => set (some (Config.freeNat s.freeCtr % 256)) (s.advance 1)

/-- The word of a control store, as SXT_MCHK numbers the stores; none for a patch location that nothing has written and where no
store is (R327). -/
def storeWord (store a : Nat) (s : State) : Option Nat :=
  match store with
  | 0 => some (Config.microRom a).toNat
  | 1 => some (Config.nanoRom a).toNat
  | 2 => some (Config.horizontalStore a).toNat
  | 3 => some (dispatchEntry a).toNat
  | 4 => let v := lookup zeroAt s.sxt.patchMicro (a % 64); if v = 0 then none else some (v - 1)
  | 5 => let v := lookup zeroAt s.sxt.patchNano (a % 16); if v = 0 then none else some (v - 1)
  | _ => some 0

/-- The address of a patch location as SXT_MCHK gives it: a micro-address or nano-address (R327, R341). -/
def storePlace (store a : Nat) : Nat := if store = 4 then 0x1000 + a % 64 else if store = 5 then 0x200 + a % 16 else a

/-- A horizontal word's store read port and its CRC unit (R329): a patch location that nothing has written fails its parity. -/
def storeRead (w : BitVec 128) (s : State) : State :=
  let p := Config.storePort w
  match storeWord p.1 p.2.1 s, p.2.2 with
  | none, true => mchkBegin p.1 (storePlace p.1 p.2.1) s
  | v, _ => s.mapSxt fun x => { x with crc := Config.crcUnit w x.crc (v.getD 0) }

/-- A horizontal word drives the resources (R329, R335); an operand that is not the store's word is no fetch of it. -/
def horizontalRun (a : Nat) (w : BitVec 128) (ok : Bool) (s : State) : State :=
  if !ok then mchkBegin 2 a s
  else if w ≠ Config.horizontalStore a then s
  else
    let reg := fun (n : Nat) => vget 0 s.sxt.wreg (Config.microSource (w.toNat / 2 ^ n % 256) % 16)
    let t := storeRead w (datapath 3 w (reg 112) (reg 104) s)
    horizontalNext a w.toNat (if w.toNat / 2 ^ 13 % 8 = 2 then loopDown (w.toNat / 512 % 16) t else t)

/-- HORIZONTAL_WORD: a word of the start-up self-test or of the recovery (R327, R329), in its sequence. -/
def execHorizontalWord (a : BitVec 8) (w : BitVec 128) (ok : Bool) (s : State) : Result :=
  let due := match s.sxt.hpc with | some h => decide (h = a.toNat) | none => true
  happens (s.clocked 1 && !s.pwr.off && !s.pwr.inReset && (!s.rb 0x72017 19 || s.sxt.mchk.isSome) && due)
    (horizontalRun a.toNat w ok) s

/-- The first word of an operation's context record whose parity is wrong, as an offset (R335). -/
def contextBad (o : SxtOp) (s : State) : Option Nat :=
  (List.range 256).find? fun k => s.badParity.contains (contextBase o.queue + k)

/-- An operation reloads its context record and goes on from micro-address u (R334, R335). -/
def contextLoad (o : SxtOp) (u : Nat) (s : State) : State :=
  match contextBad o s with
  | some k => mchkBegin 6 k s
  | none =>
    let reg := fun (i : Nat) =>
      (List.range 13).foldl (fun n j => n + (s.rdMem (contextBase o.queue + regPlace i + j)).toNat * 2 ^ (20 * j)) 0
    microGo u (s.mapSxt fun x =>
      { x with wreg := Vector.ofFn fun i => reg i.1, loop := o.loop, cond := o.cond, stack := o.stack, portX := o.portX })

/-- A PARTIAL bulk operation reloads its context and goes on from its token (R334, R335, R336). -/
def bulkResume (o : SxtOp) (bad : Option (BitVec 8)) (s : State) : State :=
  let s := s.mapSxt fun x => { x with run := some o, part := none }
  if sxtFailed s then sxtComplete o 3 0 s
  else
    match bad with
    | some k => mchkBegin 6 k.toNat s
    | none => contextLoad o (fld (s.rdMem (contextBase o.queue)) 0 13) s

/-- BULK_RESUME: nothing of higher precedence is ready or running (R334); bad names the word of the record
whose read failed though the word is good. -/
def execBulkResume (bad : Option (BitVec 8)) (s : State) : Result :=
  match s.sxt.part with
  | some o =>
    happens (sxtUp s && s.sxt.run.isNone && s.sxt.mchk.isNone && !higherReady o.word0 o.closed s) (bulkResume o bad) s
  | none => .next s

/-- The word that failed can be read again: never an unwritten patch location (R327), nor a context word that is stored with
wrong parity. -/
def rereads (store addr : Nat) (s : State) : Bool :=
  match store with
  | 4 => decide (lookup zeroAt s.sxt.patchMicro (addr - 0x1000) ≠ 0)
  | 5 => decide (lookup zeroAt s.sxt.patchNano (addr - 0x200) ≠ 0)
  | 6 => !s.badParity.contains (contextBase (recordOf s) + addr)
  | 7 => false
  | _ => true

/-- The word read correctly (R335): the operation goes on from its latest token. -/
def mchkRecover (s : State) : State :=
  let s := (s.bump 0x72016).mapSxt fun x => { x with mchk := none, stack := [] }
  match s.sxt.run with
  | some o => if o.upc < 0x2000 then contextLoad o o.upc s else s.mapSxt fun x => { x with upc := 0x2000 }
  | none => s

/-- MCHK_REREAD: 64 cycles after detection the word is read again (R335, R336). -/
def execMchkReread (ok : Bool) (s : State) : Result :=
  match s.sxt.mchk with
  | some m => happens (s.clocked 1) (fun s => if ok && rereads m.1 m.2 s then mchkRecover s else mchkPersist s) s
  | none => .next s

/-- SXT_SELFTEST: the start-up self-test ends, with no machine check under recovery; after a persistent one in the same start-up
it has failed, in its parity stage (R336, R337). What the test finds wrong in the stores and the datapath comes with the command:
they are constants here (log 104). -/
def execSxtSelftest (pass : Bool) (stage : BitVec 2) (s : State) : Result :=
  happens (s.clocked 1 && !s.pwr.off && !s.pwr.inReset && !s.rb 0x72017 19 && s.sxt.mchk.isNone)
    (fun s =>
      let broken := s.rb 0x72014 15
      let pass := pass && !broken
      let stage := if broken then 0 else stage
      let s := s.wr 0x72017 (BitVec.ofNat 20 (2 ^ 19 + pass.toNat * 2 ^ 18 + (if pass then 0 else stage.toNat) * 2 ^ 16))
      (s.wb 0x72000 19 (!pass)).mapSxt fun x => { x with hpc := none }) s

end Sys2Proof.Machine
end

