-- ==== Sys2Proof/Machine/Calc.lean ====
section
/-! DEFINITION. The calculator personality: one meaning per key function (R323 to R326). -/
namespace Sys2Proof.Machine

/-- Memory M of number n (R314). -/
def memAddr (n : Nat) : Nat := 0x3D100 + 5 * n

/-- A number in Sextant's memory. -/
def numAt (a : Nat) (s : State) : Dec := decRead (s.rdMemN a 5)

/-- The calculator reads a number, whose words' parity is checked (R91). -/
def withNum (a : Nat) (f : Dec → State → State) (s : State) : State := f (numAt a s) (parityReads 0x22 a 5 s)

/-- A number is put into Sextant's memory. -/
def putNum (a : Nat) (d : Dec) (s : State) : State := s.wrMemN a (decWords d)

/-- A value enters the history: sixteen are kept, the newest first (R314, R325). -/
def pushHistory (d : Dec) (s : State) : State :=
  let old := s.rdMemN 0x3D140 75
  ((parityReads 0x22 0x3D140 75 s).wrMemN 0x3D145 old).wrMemN 0x3D140 (decWords d)

/-- An error ends the evaluation (R325, R326). -/
def calcFail (e : CalcErr) (c : Calc) : Calc := { c with err := some e, items := [], entry := none, opLast := false, xy := none }

/-- The calculator shows a value as its result. -/
def showResult (d : Dec) (c : Calc) : Calc :=
  let c := { c with x := d, entry := none, opLast := false }
  if isNan d then calcFail .nan c else c

/-- x with an entry ended. -/
def endEntry (c : Calc) : Calc := { c with x := calcX c, entry := none }

/-- Precedence of a binary operator (R325). -/
def precedence (code : Nat) : Nat := if code ≤ 0x21 then 1 else if code ≤ 0x23 then 2 else 3

/-- A binary operator's value (R312, R324), in mode half-even. -/
def binary (code : Nat) (pick : Bool) (l r : Dec) : Dec :=
  match code with
  | 0x20 => (dAdd 0 l r).1
  | 0x21 => (dSub 0 l r).1
  | 0x22 => (dMul 0 l r).1
  | 0x23 => (dDiv 0 l r).1
  | 0x24 => (dPow 0 l r).1
  | 0x25 => (dComb false 0 pick l r).1
  | _ => (dComb true 0 pick l r).1

/-- A pending operator is evaluated before the new one (R325): y^x groups from the right. -/
def goesFirst (pending new : Nat) : Bool :=
  decide (precedence new < precedence pending) ||
    (decide (precedence new = precedence pending) && !(decide (pending = 0x24) && decide (new = 0x24)))

/-- Pending operations back to the innermost open parenthesis, as far as they go before a new operator: what is left,
the value, and whether anything was computed. -/
def evalBefore (new : Option Nat) (pick : Bool) : List CalcItem → Dec → Bool → List CalcItem × Dec × Bool
  | .op code l :: r, x, did =>
    let first := match new with | some n => goesFirst code n | none => true
    if first then evalBefore new pick r (binary code pick l x) true else (.op code l :: r, x, did)
  | is, x, did => (is, x, did)

/-- Everything is evaluated, open parentheses included. -/
def evalAll (pick : Bool) : List CalcItem → Dec → Bool → Dec × Bool
  | .op code l :: r, x, _ => evalAll pick r (binary code pick l x) true
  | .paren :: r, x, did => evalAll pick r x did
  | [], x, did => (x, did)

/-- An operator key (R325). -/
def operatorKey (code : Nat) (pick : Bool) (c : Calc) : Calc :=
  let c := match c.opLast, c.items with | true, .op _ l :: r => { c with items := r, x := l } | _, _ => endEntry c
  let e := evalBefore (some code) pick c.items c.x false
  if 8 ≤ (e.1.filter fun i => decide (i ≠ .paren)).length then calcFail .stack c
  else
    let c' := showResult e.2.1 { c with items := e.1 }
    if c'.err.isSome then c' else { c' with items := .op code e.2.1 :: e.1, opLast := true }

/-- ( (R325). -/
def openKey (c : Calc) : Calc :=
  if 8 ≤ openParens c then calcFail .stack c else { endEntry c with items := .paren :: c.items, opLast := false }

/-- The calculator's part of a key. -/
def onCalc (f : Calc → Calc) (s : State) : State := s.mapCalc f

/-- A result that was computed enters the history (R325). -/
def finishEval (items : List CalcItem) (x : Dec) (did : Bool) (s : State) : State :=
  let s := onCalc (fun c => showResult x { c with items := items }) s
  if did then pushHistory x s else s

/-- ) (R325): without an open parenthesis it has no effect. -/
def closeKey (pick : Bool) (s : State) : State :=
  let c := endEntry s.calculator
  if openParens c = 0 then s
  else
    let e := evalBefore none pick c.items c.x false
    finishEval (e.1.drop 1) e.2.1 e.2.2 s

/-- = (R325). -/
def equalsKey (pick : Bool) (s : State) : State :=
  let c := endEntry s.calculator
  let e := evalAll pick c.items c.x false
  finishEval [] e.1 e.2 s

/-- An empty entry. -/
def newEntry : CalcEntry := { digits := [], point := none, neg := false, expOn := false, expDigits := [], expNeg := false }

/-- The entry under way, or a new one (R325). -/
def entryOf (c : Calc) : CalcEntry := c.entry.getD newEntry

/-- The entry takes a digit (R325). -/
def entryDigit (n : Nat) (e : CalcEntry) : CalcEntry :=
  if e.expOn then (if e.expDigits.length < 4 then { e with expDigits := e.expDigits ++ [n] } else e)
  else if e.digits = [0] ∧ e.point = none then { e with digits := [n] }
  else if e.digits.length < 24 then { e with digits := e.digits ++ [n] }
  else e

/-- The entry loses its last character (R324). -/
def entryDelete (e : CalcEntry) : CalcEntry :=
  if e.expOn then
    if e.expDigits.isEmpty then { e with expOn := false, expNeg := false } else { e with expDigits := e.expDigits.dropLast }
  else if e.point = some e.digits.length then { e with point := none }
  else { e with digits := e.digits.dropLast }

/-- The sign of the mantissa or of the exponent under entry; without an entry, of the displayed result (R324). -/
def signKey (c : Calc) : Calc :=
  match c.entry with
  | some e => { c with entry := some (if e.expOn then { e with expNeg := !e.expNeg } else { e with neg := !e.neg }) }
  | none => { c with x := dNeg c.x }

/-- STO n, RCL n and M+ n (R325). -/
def memoryKey (fn n : Nat) (s : State) : State :=
  let x := calcX s.calculator
  if fn = 0x30 then onCalc endEntry (putNum (memAddr n) x s)
  else if fn = 0x31 then withNum (memAddr n) (fun d => onCalc (showResult d)) s
  else withNum (memAddr n) (fun d t => onCalc endEntry (putNum (memAddr n) (dAdd 0 d x).1 t)) s

/-- A digit key (R325): the number of a memory, or a digit of the entry; it restores entry after an error. -/
def digitKey (n : Nat) (s : State) : State :=
  let c := s.calculator
  match c.memKey with
  | some fn => memoryKey fn n (onCalc (fun c => { c with memKey := none }) s)
  | none =>
    onCalc (fun c =>
      let c := if c.err.isSome then { c with err := none, x := dZero false } else c
      { c with entry := some (entryDigit n (entryOf c)), opLast := false, hist := none }) s

/-- C: the entry is cleared (R324). -/
def clearKey (c : Calc) : Calc := { c with entry := none, x := dZero false, err := none, opLast := false }

/-- AC: the entry and every pending operation are cleared (R324). -/
def allClearKey (c : Calc) : Calc := { clearKey c with items := [], xy := none, hist := none }

/-- The numbers of S0. -/
def calcSet (s : State) : List Dec := numbersOf 6 (s.rdMemN 0x3D1A0 30)

/-- Σ+ and Σ− (R313, R325). -/
def sigmaKey (del : Bool) (s : State) : State :=
  let c := s.calculator
  let x := calcX c
  let xy := match c.xy with | some a => (a, x) | none => (x, dZero false)
  let rs := statUpdate del 0 (calcSet s) xy.1 xy.2
  let s := (rs.zipIdx).foldl (fun t r => putNum (0x3D1A0 + 5 * r.2) r.1.1 t) (parityReads 0x22 0x3D1A0 30 s)
  onCalc (fun c => { endEntry c with xy := none, opLast := false }) s

/-- A statistics result of a key pressed for the k-th time in a row (R324). -/
def statResult (code k : Nat) (pick : Bool) (s : State) : Dec :=
  let xs := calcSet s
  let g := fun i => xs.getD i (dZero false)
  let x := calcX s.calculator
  let i := if k % 2 = 0 then 1 else 2
  match code with
  | 0x73 => (statMean 0 pick (g 0) (g i)).1
  | 0x74 => (statDev true 0 pick (g 0) (g i) (g (i + 2))).1
  | 0x75 => (statDev false 0 pick (g 0) (g i) (g (i + 2))).1
  | 0x76 => ((statLinreg 0 pick xs).getD (match k % 3 with | 0 => 1 | 1 => 0 | _ => 2) invalid).1
  | 0x77 => (statEst false 0 pick xs x).1
  | _ => (statEst true 0 pick xs x).1

/-- A key that shows a statistic. -/
def statKey (code : Nat) (pick : Bool) (s : State) : State :=
  let k := if s.calculator.lastKey = code then s.calculator.press + 1 else 0
  let d := statResult code k pick s
  onCalc (fun c => { showResult d c with press := k }) (parityReads 0x22 0x3D1A0 30 s)

/-- A history key: back to older values, forward to newer ones (R324). -/
def historyKey (back : Bool) (s : State) : State :=
  let i := match s.calculator.hist, back with
    | none, _ => 0
    | some k, true => min 15 (k + 1)
    | some k, false => k - 1
  withNum (0x3D140 + 5 * i) (fun d => onCalc fun c => { showResult d c with hist := some i }) s

/-- The views of the scroll key (R326): two, or three in base B. -/
def scrollViews (base : Nat) : Nat := match base with | 0 => 2 | 2 => 3 | _ => 1

/-- A base value out of range is an error (R326). -/
def rangeCheck (c : Calc) : Calc :=
  if c.err.isNone && decide (c.base ≠ 0) && isFinite (calcX c) && (baseValue (calcX c)).isNone then calcFail .range c else c

/-- The key restores entry after an error (R326). -/
def restores (code : Nat) : Bool := decide (code ≤ 0x19) || decide (code = 0x1E) || decide (code = 0x1F)

/-- A binary operator's code (R324). -/
def isOperator (code : Nat) : Bool := decide (0x20 ≤ code) && decide (code ≤ 0x26)

/-- A key of the calculator takes effect: 2nd and a memory function end with it, the view returns to the first, an operator pressed
before is replaced only by an operator straight after it (2nd, which belongs to the next key, aside), and the display follows
(R318, R323, R325, R326). rest is the queue behind it; the key map's words that were read are checked
(R91). -/
def calcKey (code : Nat) (rest : List Nat) (eff : Bool → State → State) (s : State) : State :=
  let pick := Config.freeBool s.freeCtr
  let keys := s.key.calcQ.take (s.key.calcQ.length - rest.length)
  let s := keys.foldl (fun t k => parityReads 0x22 (0x3D000 + k) 1 t) s
  let s := (s.advance 1).mapKey fun k => { k with calcQ := rest }
  let digit := decide (code ≤ 0x19)
  let s := onCalc (fun c =>
    { c with second := false, memKey := if digit then c.memKey else none, scroll := if code = 0x7D then c.scroll else 0,
             opLast := c.opLast && (isOperator code || decide (code = 0x33)) }) s
  let s := if s.calculator.err.isSome && !restores code then s else onCalc rangeCheck (eff pick s)
  calcTrim (calcShow (onCalc (fun c => { c with lastKey := code, drawn := true }) s))

/-- A calculator function starts (R330, R332, R333): it is dispatched through its entry, and its safe point of phase 0 saves x and
the token into the calculator's record. -/
def calcDispatch (code : Nat) (s : State) : State :=
  let n := Config.keyEntry code
  let s := s.mapSxt fun x => { x with upc := (Config.dispatchTable n).toNat }
  putToken 0 n 0 (saveRegs 0 (s.wrMemN (contextBase 0 + 6) (decWords (calcX s.calculator))))

/-- A key's row: the key with its code is next, and no operation runs (R318). -/
def calcRow (code : Nat) (eff : Bool → State → State) (s : State) : Result :=
  match calcNext s with
  | none => .next s
  | some n => happens (calcUp s && s.sxt.run.isNone && decide (n.1 = code)) (fun s => calcKey code n.2 eff (calcDispatch code s)) s

/-- CALC_DIGIT: codes 0x10 to 0x19 (R324, R325). -/
def execCalcDigit (n : Fin 10) (s : State) : Result := calcRow (0x10 + n.1) (fun _ => digitKey n.1) s

/-- CALC_DECIMAL_POINT: the point of the entry (R324, R325). -/
def execCalcDecimalPoint (s : State) : Result := calcRow 0x1A (fun _ => onCalc fun c =>
  let e := entryOf c
  { c with entry := some (if e.expOn || e.point.isSome then e else { e with point := some e.digits.length }), opLast := false }) s

/-- CALC_EXP: begins exponent entry (R324). -/
def execCalcExp (s : State) : Result :=
  calcRow 0x1B (fun _ => onCalc fun c => { c with entry := some { entryOf c with expOn := true }, opLast := false }) s

/-- CALC_SIGN: +/− (R324). -/
def execCalcSign (s : State) : Result := calcRow 0x1C (fun _ => onCalc signKey) s

/-- CALC_DEL: removes the last entered character (R324). -/
def execCalcDel (s : State) : Result := calcRow 0x1D (fun _ => onCalc fun c => { c with entry := c.entry.map entryDelete }) s

/-- CALC_C: clears the entry (R324, R326). -/
def execCalcC (s : State) : Result := calcRow 0x1E (fun _ => onCalc clearKey) s

/-- CALC_AC: clears the entry and every pending operation (R324, R326). -/
def execCalcAc (s : State) : Result := calcRow 0x1F (fun _ => onCalc allClearKey) s

/-- CALC_PLUS: + becomes pending (R325). -/
def execCalcPlus (s : State) : Result := calcRow 0x20 (fun pick => onCalc (operatorKey 0x20 pick)) s

/-- CALC_MINUS: − becomes pending (R325). -/
def execCalcMinus (s : State) : Result := calcRow 0x21 (fun pick => onCalc (operatorKey 0x21 pick)) s

/-- CALC_TIMES: × becomes pending (R325). -/
def execCalcTimes (s : State) : Result := calcRow 0x22 (fun pick => onCalc (operatorKey 0x22 pick)) s

/-- CALC_DIVIDE: ÷ becomes pending (R325). -/
def execCalcDivide (s : State) : Result := calcRow 0x23 (fun pick => onCalc (operatorKey 0x23 pick)) s

/-- CALC_Y_POW_X: y^x becomes pending (R325). -/
def execCalcYPowX (s : State) : Result := calcRow 0x24 (fun pick => onCalc (operatorKey 0x24 pick)) s

/-- CALC_NCR: nCr becomes pending (R325). -/
def execCalcNcr (s : State) : Result := calcRow 0x25 (fun pick => onCalc (operatorKey 0x25 pick)) s

/-- CALC_NPR: nPr becomes pending (R325). -/
def execCalcNpr (s : State) : Result := calcRow 0x26 (fun pick => onCalc (operatorKey 0x26 pick)) s

/-- CALC_OPEN_PAREN: ( (R325). -/
def execCalcOpenParen (s : State) : Result := calcRow 0x27 (fun _ => onCalc openKey) s

/-- CALC_CLOSE_PAREN: ) (R325). -/
def execCalcCloseParen (s : State) : Result := calcRow 0x28 closeKey s

/-- CALC_EQUALS: = (R325). -/
def execCalcEquals (s : State) : Result := calcRow 0x29 equalsKey s

/-- CALC_ANS: the newest history value (R324). -/
def execCalcAns (s : State) : Result := calcRow 0x2A (fun _ => withNum 0x3D140 fun d => onCalc (showResult d)) s

/-- CALC_STO: waits for a digit (R324, R325). -/
def execCalcSto (s : State) : Result := calcRow 0x30 (fun _ => onCalc fun c => { c with memKey := some 0x30 }) s

/-- CALC_RCL: waits for a digit (R324, R325). -/
def execCalcRcl (s : State) : Result := calcRow 0x31 (fun _ => onCalc fun c => { c with memKey := some 0x31 }) s

/-- CALC_M_PLUS: waits for a digit (R324, R325). -/
def execCalcMPlus (s : State) : Result := calcRow 0x32 (fun _ => onCalc fun c => { c with memKey := some 0x32 }) s

/-- CALC_2ND: the next key has its second function (R324). -/
def execCalc2nd (s : State) : Result := calcRow 0x33 (fun _ => onCalc fun c => { c with second := true }) s

/-- CALC_UNARY: operation op of R312 on x (R324, R325). -/
def execCalcUnary (op : BitVec 8) (s : State) : Result :=
  if op.toNat < 0x30 then
    calcRow (0x40 + op.toNat)
      (fun pick => onCalc fun c => showResult (opValue op.toNat 0 c.unit pick (calcX c) (dZero false)).1 c) s
  else .next s

/-- CALC_SIGMA_PLUS: enters x, or the pair, into S0 (R313, R325). -/
def execCalcSigmaPlus (s : State) : Result := calcRow 0x70 (fun _ => sigmaKey false) s

/-- CALC_SIGMA_MINUS: removes x, or the pair, from S0 (R313). -/
def execCalcSigmaMinus (s : State) : Result := calcRow 0x71 (fun _ => sigmaKey true) s

/-- CALC_XY_SEPARATOR: ends x of a pair (R325). -/
def execCalcXySeparator (s : State) : Result :=
  calcRow 0x72 (fun _ => onCalc fun c => { endEntry c with xy := some (calcX c), opLast := false }) s

/-- CALC_MEAN: x̄, then ȳ (R312, R324). -/
def execCalcMean (s : State) : Result := calcRow 0x73 (statKey 0x73) s

/-- CALC_SDEV: sx, then sy (R312, R324). -/
def execCalcSdev (s : State) : Result := calcRow 0x74 (statKey 0x74) s

/-- CALC_PSDEV: σx, then σy (R312, R324). -/
def execCalcPsdev (s : State) : Result := calcRow 0x75 (statKey 0x75) s

/-- CALC_REGRESSION: a, b and r in turn (R312, R324). -/
def execCalcRegression (s : State) : Result := calcRow 0x76 (statKey 0x76) s

/-- CALC_Y_HAT: ŷ of x (R312, R324). -/
def execCalcYHat (s : State) : Result := calcRow 0x77 (statKey 0x77) s

/-- CALC_X_HAT: x̂ of x (R312, R324). -/
def execCalcXHat (s : State) : Result := calcRow 0x78 (statKey 0x78) s

/-- CALC_CLEAR_STATS: clears S0 (R324). -/
def execCalcClearStats (s : State) : Result := calcRow 0x79 (fun _ => zeroNumbers 0x3D1A0 6) s

/-- CALC_ANGLE_UNIT: DEG, RAD, GRA in turn (R324). -/
def execCalcAngleUnit (s : State) : Result :=
  calcRow 0x7A (fun _ => onCalc fun c => { c with unit := match c.unit with | 1 => 0 | 0 => 2 | _ => 1 }) s

/-- CALC_HISTORY_BACK: an older value (R324). -/
def execCalcHistoryBack (s : State) : Result := calcRow 0x7B (fun _ => historyKey true) s

/-- CALC_HISTORY_FORWARD: a newer value (R324). -/
def execCalcHistoryForward (s : State) : Result := calcRow 0x7C (fun _ => historyKey false) s

/-- CALC_SCROLL: the next view of the digits (R326). -/
def execCalcScroll (s : State) : Result :=
  calcRow 0x7D (fun _ => onCalc fun c => { c with scroll := (c.scroll + 1) % scrollViews c.base }) s

/-- CALC_BASE: D, H, B, O in turn (R324). -/
def execCalcBase (s : State) : Result := calcRow 0x7E (fun _ => onCalc fun c => { c with base := (c.base + 1) % 4 }) s

/-- CALC_RECIPROCAL: 1/x (R324). -/
def execCalcReciprocal (s : State) : Result := calcRow 0x7F (fun _ => onCalc fun c => showResult (dDiv 0 dOne (calcX c)).1 c) s

end Sys2Proof.Machine
end

