-- ==== Sys2Proof/Machine/Pd.lean ====
section
/-! DEFINITION. USB Type-C and Power Delivery: roles, offers, contracts and the answers of the PD engines (R276 to
R282). -/
namespace Sys2Proof.Machine

/-- A bound of R271. -/
def bound (i : Nat) (s : State) : Nat := vget 0 s.policy.bounds i

/-- A signed bound of R271, 20 bits two's complement. -/
def boundInt (i : Nat) (s : State) : Int := (BitVec.ofNat 20 (bound i s)).toInt

/-- The IIN bound of a port as a sink; port 2 is a source only (R271, R276). -/
def portIin (p : Nat) (s : State) : Nat := if p < 2 then bound (7 + p) s else 0

/-- The PSRC bound of a port as a source, in mW (R271). -/
def portPsrc (p : Nat) (s : State) : Nat := bound (0xB + p) s

/-- The PD engine of a port works: IFACE is on, Helm1 carries out firmware, and PD owns the port's CC pads (R29). -/
def pdRuns (p : Nat) (s : State) : Bool :=
  s.ifaceOn 3 && helmUp 1 s && padOf 0x37 (250 + 2 * p) s && padOf 0x37 (251 + 2 * p) s

/-- The system-bus target, never below VSYS_MIN (R271, R284). -/
def busTarget (s : State) : Nat := max Config.busTarget (bound 0xE s)

/-- The current that the port advertises to a sink without PD (R277). -/
def rpOffer (p : Nat) (s : State) : Nat :=
  if 15000 ≤ portPsrc p s then 3000 else if 7500 ≤ portPsrc p s then 1500 else 500

/-- The port's own offers as a source (R279): fixed 5, 9, 15 and 20 V, and a PPS range. -/
def ownOffers (p : Nat) (s : State) : List Pdo :=
  let i := fun v : Nat => min 3000 (portPsrc p s * 1000 / v)
  if (s.pdPort p).limited then [.fixed 5000 (min 1500 (i 5000))]
  else
    [.fixed 5000 (i 5000)] ++ ([9000, 15000, 20000].filter fun v => decide (1000 ≤ i v)).map (fun v => .fixed v (i v)) ++
      (if 1000 ≤ i 11000 then [.pps 3300 11000 (i 11000)] else [])

/-- The voltage a PPS offer would run at (R278): the system-bus target plus 0.5 V, within the range. -/
def ppsVolts (bus lo hi : Nat) : Nat := max lo (min hi (bus + 500))

/-- An offer as voltage, current and power with the sink's bound applied. -/
def offerPower (bus iin : Nat) : Pdo → Nat × Nat × Nat
  | .fixed mv ma => (mv, min ma iin, mv * min ma iin)
  | .pps lo hi ma => (ppsVolts bus lo hi, min ma iin, ppsVolts bus lo hi * min ma iin)

/-- The offer is one that a sink port supports and may take: fixed SPR; fixed 28 V with an EPR cable; PPS (R276, R278). -/
def offerClass (cable : Bool) : Pdo → Option Nat
  | .fixed mv _ => if mv ≤ 21000 then some 0 else if mv = 28000 ∧ cable = true then some 1 else none
  | .pps _ _ _ => some 2

/-- The best offer of a class: highest power, then lowest voltage (R278). -/
def bestOffer (bus iin : Nat) (cable : Bool) (cls : Nat) (os : List Pdo) : Option (Nat × Nat × Nat) :=
  ((os.filter fun o => decide (offerClass cable o = some cls)).map (offerPower bus iin)).foldl
    (fun b x =>
      match b with
      | none => some x
      | some y => if y.2.2 < x.2.2 ∨ (y.2.2 = x.2.2 ∧ x.1 < y.1) then some x else b) none

/-- The power of an offer, or 0. -/
def powerOf (x : Option (Nat × Nat × Nat)) : Nat := match x with | some y => y.2.2 | none => 0

/-- The contract that a sink asks for (R278): kind, EPR mode, voltage, current. 28 V only above every SPR offer, PPS only
above every fixed offer. -/
def chooseOffer (bus iin : Nat) (cable : Bool) (os : List Pdo) : Option (Nat × Bool × Nat × Nat) :=
  let spr := bestOffer bus iin cable 0 os
  let epr := bestOffer bus iin cable 1 os
  let pps := bestOffer bus iin cable 2 os
  let useEpr := decide (max (powerOf spr) (powerOf pps) < powerOf epr)
  let usePps := decide (max (powerOf spr) (powerOf epr) < powerOf pps)
  if useEpr then epr.map fun x => (1, true, x.1, x.2.1)
  else if usePps then pps.map fun x => (2, false, x.1, x.2.1)
  else spr.map fun x => (1, false, x.1, x.2.1)

/-- A sink port asks for its best offer (R278). -/
def sinkRequest (p : Nat) (s : State) : State :=
  let q := s.pdPort p
  match chooseOffer (busTarget s) (portIin p s) q.cableEpr q.offers with
  | some x => s.modPdPort p fun q => { q with contract := x.1, epr := x.2.1, mv := x.2.2.1, ma := x.2.2.2, answer := 1 }
  | none => s

/-- A port without a contract (R277): what it draws by the partner's Rp, or gives by its own. -/
def noContract (p : Nat) (q : PdPort) (s : State) : PdPort :=
  { q with contract := if q.pdPartner then 0 else 3, epr := false, mv := 5000,
           ma := if q.source then rpOffer p s else min q.rpMa (portIin p s) }

/-- A port's contract has ended and its roles are those of its attach. -/
def dropContract (p : Nat) (s : State) : State := s.modPdPort p fun q => noContract p q s

/-- An attach (R276, R277): the partner's power role gives the port the other; a source only port takes no source. -/
def attach (p : Nat) (x : Attach) (s : State) : State :=
  if x.partnerSource ∧ p = 2 then s
  else
    let src := !x.partnerSource
    let q : PdPort :=
      { PdPort.reset with attached := true, source := src, dfp := src, vconn := src, pdPartner := x.pd, rpMa := x.rpMa,
                          answer := if src && x.pd then 7 else 0,
                          lost := if (s.pdPort p).lost = 0 then 0 else 2 }
    s.modPdPort p fun _ => noContract p q s

/-- A message is answered. -/
def answerWith (p k : Nat) (s : State) : State := s.modPdPort p fun q => { q with answer := k }

/-- A power-role swap (R276): the port's contract is made anew in its new role. -/
def prSwap (p : Nat) (s : State) : State :=
  if p = 2 then answerWith p 5 s
  else
    let s := s.modPdPort p fun q => { q with source := !q.source, answer := 2, offers := [] }
    dropContract p s

/-- A data-role swap (R276). -/
def drSwap (p : Nat) (s : State) : State := s.modPdPort p fun q => { q with dfp := !q.dfp, answer := 2 }

/-- A VCONN swap (R276). -/
def vconnSwap (p : Nat) (s : State) : State := s.modPdPort p fun q => { q with vconn := !q.vconn, answer := 2 }

/-- A source at the port is lost, for the policy's next tick (R282). -/
def lostMark (q : PdPort) : Nat := if q.attached && !q.source then 1 else q.lost

/-- A Hard Reset (R279, R282): contract and offers end, and data and VCONN roles return to those of the power role. -/
def hardReset (p : Nat) (s : State) : State :=
  dropContract p (s.modPdPort p fun q =>
    { q with dfp := q.source, vconn := q.source, offers := [], answer := 8, lost := lostMark q })

/-- A sink partner's Request of the offer of position i (R279): accepted within what is offered. -/
def partnerRequest (p i ma mv : Nat) (s : State) : State :=
  match (ownOffers p s)[i - 1]? with
  | some (.fixed v m) =>
    if 1 ≤ i ∧ ma ≤ m then
      s.modPdPort p fun q => { q with contract := 1, epr := false, mv := v, ma := ma, answer := 2 }
    else answerWith p 3 s
  | some (.pps lo hi m) =>
    if 1 ≤ i ∧ ma ≤ m ∧ lo ≤ mv ∧ mv ≤ hi then
      s.modPdPort p fun q => { q with contract := 2, epr := false, mv := mv, ma := ma, answer := 2 }
    else answerWith p 3 s
  | none => answerWith p 3 s

/-- A source port sends new Source_Capabilities; a contract above a limited one moves to it (R279). -/
def sourceCaps (p : Nat) (limited : Bool) (s : State) : State :=
  let s := s.modPdPort p fun q => { q with limited := limited, answer := 7 }
  s.modPdPort p fun q =>
    if limited && decide (q.contract = 1 ∨ q.contract = 2) then { q with contract := 1, epr := false, mv := 5000, ma := min q.ma 1500 }
    else q

/-- A contract as it moves to new offers (R279): the same voltage where it is still offered, and 5 V otherwise, at no more
than the current offered. -/
def refit (os : List Pdo) (q : PdPort) : PdPort :=
  let at_ := fun mv : Nat => os.filterMap fun o => match o with
    | .fixed v i => if v = mv ∧ q.contract = 1 then some i else none
    | .pps lo hi i => if lo ≤ mv ∧ mv ≤ hi ∧ q.contract = 2 then some i else none
  match at_ q.mv with
  | i :: _ => { q with ma := min q.ma i }
  | [] =>
    { q with contract := 1, epr := false, mv := 5000,
             ma := match os with | .fixed _ i :: _ => min q.ma i | _ => q.ma }

/-- A port follows bounds that have changed since the state before (R277 to R279): its Rp or the current it draws without a
contract, its request as a sink, new Source_Capabilities as a source. -/
def portFollows (before : State) (p : Nat) (s : State) : State :=
  let q := s.pdPort p
  if !q.attached || (decide (portIin p before = portIin p s) && decide (portPsrc p before = portPsrc p s)) then s
  else if q.contract = 0 ∨ q.contract = 3 then (if q.source && q.pdPartner then answerWith p 7 (dropContract p s) else dropContract p s)
  else if !q.source then sinkRequest p s
  else if decide (ownOffers p before = ownOffers p s) then s
  else s.modPdPort p fun q => { refit (ownOffers p s) q with answer := 7 }

/-- A port that takes part in PD. -/
def pdPort (p : Nat) (s : State) : Bool := (s.pdPort p).attached && (s.pdPort p).pdPartner

/-- PD_ATTACH (R276, R277). -/
def execPdAttach (port : Fin 3) (x : Attach) (s : State) : Result :=
  happens (pdRuns port.1 s && !(s.pdPort port.1).attached) (attach port.1 x) s

/-- PD_DETACH (R282): the policy sees the loss at its next tick. -/
def execPdDetach (port : Fin 3) (s : State) : Result :=
  happens (pdRuns port.1 s && (s.pdPort port.1).attached) (fun s => s.modPdPort port.1 fun q => { PdPort.reset with lost := lostMark q }) s

/-- SOURCE_CAPABILITIES: a source partner's offers arrive (R278). -/
def execSourceCapabilities (port : Fin 3) (offers : List Pdo) (s : State) : Result :=
  happens (pdRuns port.1 s && pdPort port.1 s && !(s.pdPort port.1).source)
    (fun s => sinkRequest port.1 (s.modPdPort port.1 fun q => { q with offers := offers })) s

/-- DISCOVER_SVIDS: answered with NAK (R277). -/
def execDiscoverSvids (port : Fin 3) (s : State) : Result := happens (pdRuns port.1 s && pdPort port.1 s) (answerWith port.1 4) s

/-- DISCOVER_MODES: answered with NAK (R277). -/
def execDiscoverModes (port : Fin 3) (s : State) : Result := happens (pdRuns port.1 s && pdPort port.1 s) (answerWith port.1 4) s

/-- UNSUPPORTED_PD_MESSAGE: answered with Not_Supported (R277). -/
def execUnsupportedPdMessage (port : Fin 3) (s : State) : Result :=
  happens (pdRuns port.1 s && pdPort port.1 s) (answerWith port.1 5) s

/-- PR_SWAP (R276). -/
def execPrSwap (port : Fin 3) (s : State) : Result := happens (pdRuns port.1 s && pdPort port.1 s) (prSwap port.1) s

/-- DR_SWAP (R276). -/
def execDrSwap (port : Fin 3) (s : State) : Result := happens (pdRuns port.1 s && pdPort port.1 s) (drSwap port.1) s

/-- VCONN_SWAP (R276). -/
def execVconnSwap (port : Fin 3) (s : State) : Result := happens (pdRuns port.1 s && pdPort port.1 s) (vconnSwap port.1) s

/-- HARD_RESET (R279, R282). -/
def execHardReset (port : Fin 3) (s : State) : Result := happens (pdRuns port.1 s && pdPort port.1 s) (hardReset port.1) s

/-- DISCOVER_IDENTITY: a partner's message on SOP is acknowledged; on SOP' the cable reports its rating (R276, R278). -/
def execDiscoverIdentity (port : Fin 3) (sopPrime : Bool) (epr : Bool) (s : State) : Result :=
  happens (pdRuns port.1 s && pdPort port.1 s)
    (fun s => s.modPdPort port.1 fun q => { q with answer := 6, cableEpr := if sopPrime then epr else q.cableEpr }) s

/-- PARTNER_REQUEST: a sink partner asks for offer i, at ma, and at mv for a PPS offer (R279). -/
def execPartnerRequest (port : Fin 3) (i : Nat) (ma : Nat) (mv : Nat) (s : State) : Result :=
  happens (pdRuns port.1 s && pdPort port.1 s && (s.pdPort port.1).source) (partnerRequest port.1 i ma mv) s

end Sys2Proof.Machine
end

