-- ==== Sys2Proof/Machine/Policy.lean ====
section
/-! DEFINITION. Helm0's policy: bounds, source events, classification, tracking, allocation and charging (R269 to R275,
R281 to R288). -/
namespace Sys2Proof.Machine

/-- The policy runs (R269, R270, R424 step 5): started, with Helm0 and the fabric running. -/
def policyRuns (s : State) : Bool := s.boot.policyOn && helmUp 0 s && s.fabric

/-- A source may be drawn from (R271): bit 0 DC, 1 P0, 2 P1, 3 GEN, 4 DYN. -/
def srcEnabled (k : Nat) (s : State) : Bool := (bound 0x10 s).testBit k

/-- Bounds written since the last tick are applied in order (R269, R401), and the ports follow them (R277 to R279). -/
def applyBounds (s : State) : State :=
  let t := s.mapPolicy fun p =>
    { p with bounds := p.pendB.foldl (fun b x => if x.1 ≤ 0x10 then vset b x.1 x.2 else b) p.bounds, pendB := [] }
  forAll 3 (portFollows s) t

/-- The bound crank unit (R275): its descriptor. -/
def crank (s : State) : Option (List Word) :=
  (s.tl.bound.toList.find? fun m => match m with | some x => decide (x.cls = 4) | none => false).join.map (·.desc)

/-- The generator's bit of SRC_EN and its bound: a crank unit while one is bound, a dynamo otherwise (R275). -/
def genBit (s : State) : Nat := if (crank s).isSome then 3 else 4

/-- The power that may be taken from the generator. -/
def genLimit (s : State) : Nat := bound (if genBit s = 3 then 9 else 0xA) s

/-- The converter cells of a source by the policy map (R281, R427): 0 the input phases, 1 and 2 ports 0 and 1, 3 and 4 the
generator inverter C25 (the allocation of R13). -/
def sourceCells (k : Nat) (s : State) : List Nat :=
  match s.boot.policyMap with
  | none => []
  | some m =>
    match k with
    | 0 => if fld m.1 15 5 = fld m.1 10 5 then [fld m.1 15 5] else [fld m.1 15 5, fld m.1 10 5]
    | 1 => [fld m.2 10 5]
    | 2 => [fld m.2 5 5]
    | _ => [25]

/-- The charge-current cell and the battery-voltage cell of the policy map (R427). -/
def packCells (s : State) : Option (Nat × Nat) := s.boot.policyMap.map fun m => (fld m.1 5 5, fld m.1 0 5)

/-- What has come to a counter since it stood at old: modulo 2^40, read as signed (R290). -/
def counterRise (old now : Nat) : Int := (BitVec.ofNat 40 (now + 2 ^ 40 - old)).toInt

/-- The energy counters of cell c (R289): at its output, on the bus side, and at its input. -/
def outEnergy (c : Nat) : Nat := 99 + 5 * c
/-- See outEnergy. -/
def inEnergy (c : Nat) : Nat := 97 + 5 * c

/-- A rise n of the energy counter of index k over a number of fabric cycles, as a mean power in mW. -/
def countMw (k : Nat) (n : Int) (cycles : Nat) : Int := (Config.countNj k : Int) * n * 6144 / (10 * max 1 cycles : Nat)

/-- The mean power in mW by the energy counter of index k since the latest tick of 1 ms. -/
def tickMw (k : Nat) (s : State) : Int := countMw k (counterRise (lookup zeroAt s.policy.energy k) (s.counter k)) 614400

/-- The power that cell c has put onto the bus since the latest tick, from its output energy counter (R281). -/
def busMw (c : Nat) (s : State) : Int := tickMw (outEnergy c) s

/-- The bus power of a source's cells. -/
def sourceMw (k : Nat) (s : State) : Nat := ((sourceCells k s).map fun c => busMw c s).sum.toNat

/-- The efficiency of adapter i's cells (R281): the bus power to the input power when last measured. -/
def effOf (i : Nat) (s : State) : Nat × Nat :=
  let e := vget (0, 0) s.policy.eff i
  if e.2 = 0 then (Config.firstEff i, 100) else e

/-- What adapter i's cells put onto the bus from a power at their input, and what they draw for a power on the bus (R281). -/
def toBus (i mw : Nat) (s : State) : Nat := mw * (effOf i s).1 / (effOf i s).2
/-- See toBus. -/
def fromBus (i mw : Nat) (s : State) : Nat := mw * (effOf i s).2 / max 1 (effOf i s).1

/-- The efficiencies are measured from the input and output energy counters since the latest tick, where power flows (R281). -/
def measureEff (s : State) : State :=
  forAll 3 (fun i t =>
    let out := sourceMw i t
    let inp := ((sourceCells i t).map fun c => tickMw (inEnergy c) t).sum.toNat
    if out = 0 ∨ inp = 0 then t else t.mapPolicy fun p => { p with eff := vset p.eff i (out, inp) }) s

/-- A port is a sink with power to give, which it has not lost since the latest tick (R276, R281, R282). -/
def sinkPort (p : Nat) (s : State) : Bool :=
  let q := s.pdPort p
  q.attached && !q.source && decide (q.mv * q.ma ≠ 0) && decide (q.lost ≠ 1)

/-- What the adapter of index i (DC, P0, P1) gives at its input up to its bound, in mW (R271, R273, R281). -/
def adapterInput (i : Nat) (x : PolicyReadings) (s : State) : Nat :=
  if !srcEnabled i s then 0
  else if i = 0 then
    (if s.policy.dcPresent ∧ 1 ≤ s.policy.dcClass ∧ s.policy.dcClass ≤ 3 then bound 6 s * x.dcMv / 1000 else 0)
  else if sinkPort (i - 1) s then (s.pdPort (i - 1)).mv * min (s.pdPort (i - 1)).ma (portIin (i - 1) s) / 1000
  else 0

/-- What the adapter of index i can put onto the bus, in mW (R281). -/
def adapterPower (i : Nat) (x : PolicyReadings) (s : State) : Nat := toBus i (adapterInput i x s) s

/-- The tracked power of a SOFT input, within its bound (R274, R281). -/
def softPower (x : PolicyReadings) (s : State) : Nat :=
  if srcEnabled 0 s ∧ s.policy.dcPresent ∧ s.policy.dcClass = 4 then min (sourceMw 0 s) (bound 6 s * x.dcMv / 1000) else 0

/-- The generator's power, within its bound (R275, R281). -/
def genPower (s : State) : Nat := if srcEnabled (genBit s) s then min (sourceMw 3 s) (genLimit s) else 0

/-- Source k delivers, in the numbering of SRC_EN (R271, R281): it is enabled, there, and drawn from. -/
def delivers (k : Nat) (x : PolicyReadings) (s : State) : Bool :=
  srcEnabled k s &&
    (match k with
     | 0 => s.policy.dcPresent && decide (s.policy.dcClass ≠ 0)
     | 1 => decide (0 < adapterInput 1 x s)
     | 2 => decide (0 < adapterInput 2 x s)
     | k => decide (genBit s = k) && decide (s.policy.gref ≠ 0))

/-- The sources that deliver, in the layout of SRC_EN. -/
def delivering (x : PolicyReadings) (s : State) : Nat :=
  ((List.range 5).map fun k => if delivers k x s then 2 ^ k else 0).sum

/-- Converter cells are stood down, or resume (R160, R282). -/
def standCells (cs : List Nat) (down : Bool) (s : State) : State :=
  cs.foldl (fun t c =>
    if t.rb (cellBase c + 0xC) 0 = down then t else fwWrite 0x20 (cellBase c + 0xC) (BitVec.ofNat 20 down.toNat) t) s

/-- A source's converter cells are stood down, or resume: those of the generator are C24 and C25 (R160, R281, R282). -/
def standDown (k : Nat) (down : Bool) (s : State) : State :=
  let t := standCells (if k < 3 then sourceCells k s else [24, 25]) down s
  t.mapPolicy fun p => { p with stood := if down then p.stood ||| 2 ^ k else p.stood - (p.stood &&& 2 ^ k) }

/-- Commits of Helm0 (R182, R269): words of cell c's bank that differ from the active bank are staged and committed, where no
commit is outstanding; one that is, or that is held, lets them wait for the next tick. -/
def commitWords (c : Nat) (ws : List (Nat × Word)) (s : State) : State :=
  let r := ws.foldl (fun y x =>
    let z := fwRead 0x20 (cellBase c + 0x180 + x.1) y.2
    (if z.1 = x.2 then y.1 else y.1 ++ [x], z.2)) (([] : List (Nat × Word)), s)
  let s := r.2
  if r.1.isEmpty || s.rb (cellBase c + 1) 9 || s.rb (cellBase c + 1) 8 then s
  else fwWrite 0x20 (cellBase c + 0xB) 1 (r.1.foldl (fun t x => fwWrite 0x20 (cellBase c + 0x100 + x.1) x.2 t) s)

/-- The bank word of the register reference (R180). -/
def refWord : Nat := 0x11

/-- The first input phase's cell: its input-voltage slot is that of its meter (R290). -/
def inputSlot (s : State) : Nat := s.rf (0x74020 + (sourceCells 0 s).headD 0) 15 4

/-- Ripple detector RD0 of T0 is run in measure mode on the input-voltage slot, or stopped (R273). -/
def rd0 (on : Bool) (s : State) : State :=
  let v := s.rd 0x76E00
  fwWrite 0x20 0x76E00 (if on then putFld (putBit (putBit v 19 true) 18 false) 14 4 (inputSlot s) else putBit v 19 false) s

/-- The DC input has risen above 4.0 V and waits for its class (R273): RD0 runs, and two load steps of 5 % of IIN_DC come in
two ticks, after the open-circuit voltage has been taken (R274). -/
def dcRise (x : PolicyReadings) (s : State) : State :=
  if s.policy.dcPresent || decide (x.dcMv ≤ 4000) || decide (2 ≤ s.policy.dcStep) || !srcEnabled 0 s then s
  else
    let n := s.policy.dcStep + 1
    let s := if n = 1 then (rd0 true s).mapPolicy fun p => { p with voc := x.dcMv } else s
    let s := standDown 0 false s
    let s := (sourceCells 0 s).foldl (fun t c => commitWords c [(refWord, Config.refMa c (bound 6 s * 5 * n / 100))] t) s
    s.mapPolicy fun p => { p with dcStep := n }

/-- The DC input is removed, and its classification discarded (R273); its cells, which the load steps or its class have
running, are stood down (R282). -/
def dcRemove (s : State) : State :=
  let s := if s.policy.dcPresent || decide (s.policy.dcStep ≠ 0) then standDown 0 true (rd0 false s) else s
  s.mapPolicy fun p =>
    { p with dcPresent := false, dcClass := 0, voc := 0, vref := 0, dcStep := 0, released := false, mpptMt := none }

/-- The DC input falls below 3.8 V for two ticks and counts as removed (R273). -/
def dcWatch (x : PolicyReadings) (s : State) : State :=
  if x.dcMv < 3800 then
    if 1 ≤ s.policy.dcLow then (dcRemove s).mapPolicy fun p => { p with dcLow := 2 }
    else s.mapPolicy fun p => { p with dcLow := 1 }
  else dcRise x (s.mapPolicy fun p => { p with dcLow := 0 })

/-- A protection trip has stopped the converter of a source port with a contract: Hard Reset (R190, R279). -/
def tripResets (s : State) : State :=
  forAll 3 (fun p s =>
    let q := s.pdPort p
    let c := match s.boot.policyMap with | some m => fld m.2 (10 - 5 * p) 5 | none => 0
    if s.boot.policyMap.isSome && q.attached && q.source && decide (q.contract = 1 ∨ q.contract = 2) &&
        !s.rb (cellBase c) 0 && decide (s.rf (cellBase c + 1) 15 3 = 3) then hardReset p s else s) s

/-- The event of source k (R282): one that is lost or disabled is stood down, unless its cells serve another source or its port
is a source itself; then one that has come resumes, and so do the cells of a port that has become a source. -/
def sourceEvent (was now k : Nat) (s : State) : State :=
  let q := s.pdPort (k - 1)
  let port := decide (k = 1) || decide (k = 2)
  let gives := port && q.attached && q.source
  let gone := was.testBit k && (!now.testBit k || (port && decide (q.lost = 2)))
  let shared := decide (3 ≤ k) && (now.testBit 3 || now.testBit 4)
  let s := if (gone || !srcEnabled k s) && !shared && !gives then standDown k true s else s
  let back := if gives then s.policy.stood.testBit k else now.testBit k && (!was.testBit k || gone)
  if back then standDown k false s else s

/-- Source events, sources in the order DC, P0, P1, GEN, DYN (R269, R282). -/
def sourceEvents (x : PolicyReadings) (s : State) : State :=
  let was := s.policy.sources
  let s := dcWatch x (tripResets s)
  let now := delivering x s
  let s := forAll 5 (sourceEvent was now) s
  s.mapPolicy fun p => { p with sources := now }

/-- What the policy knows of the pack (R283, R285): cells, mV, mA, 0.1 °C where measured, its limits, an alarm that stops
charging, and whether it is a raw pack that is not charged. -/
structure PackView where
  cells : Nat
  mv : Nat
  ma : Int
  temp : Option Int
  maxMa : Nat
  maxMv : Nat
  alarm : Bool
  idle : Bool
deriving DecidableEq, Repr

/-- The temperature of a raw pack in 0.1 °C, by the thermistor slot that the board record names (R283, R428). -/
def thermistor (s : State) : Option Int :=
  match s.boot.board with
  | some ws =>
    let i := fld (ws.getD 1 0) 0 7
    if i < 64 then some (Config.thermTemp (s.rd (adcBase (i / 16) + 0xC0 + i % 16))) else none
  | none => none

/-- The pack as the policy sees it: a smart one by its own registers while it answers; a raw one by Helm0's readings, charged only
while CELLS is 2 to 4, and without a thermistor at half the current and 4.0 V per cell (R283, R285). -/
def packView (x : PolicyReadings) (s : State) : Option PackView :=
  if s.policy.smart then
    s.policy.pack.map fun r =>
      { cells := r.cells, mv := r.voltage, ma := r.current, temp := some r.temperature, maxMa := r.chargingCurrent,
        maxMv := r.chargingVoltage, idle := false, alarm := [15, 14, 12].any r.status.toNat.testBit }
  else
    let n := bound 2 s
    let t := thermistor s
    some { cells := n, mv := x.packMv, ma := x.packMa, temp := t, maxMa := if t.isSome then bound 0 s else bound 0 s / 2,
           maxMv := if t.isSome then bound 1 s * n else 4000 * n, alarm := false, idle := decide (n < 2 ∨ 4 < n) }

/-- What R286 allows at a temperature in 0.1 °C: a divisor of the current (0 none) and a cut of VCELL in mV. -/
def tempRule (t : Int) (s : State) : Nat × Nat :=
  let lo := 10 * boundInt 4 s
  let hi := 10 * boundInt 5 s
  if t < lo then (0, 0)
  else if t ≤ lo + 100 then (2, 0)
  else if t ≤ hi - 100 then (1, 0)
  else if t ≤ hi then (1, 100)
  else (0, 0)

/-- VCELL (R284, R286), in mV. -/
def vcell (v : PackView) (s : State) : Nat :=
  bound 1 s - (match v.temp with | some t => (tempRule t s).2 | none => 0)

/-- The voltage at which CC ends: VCELL times the cells, within the pack's own limit (R284, R285). -/
def vTarget (v : PackView) (s : State) : Nat := min (vcell v s * v.cells) v.maxMv

/-- The divisor of the current that the temperature gives. -/
def tempDiv (v : PackView) (s : State) : Nat := match v.temp with | some t => (tempRule t s).1 | none => 1

/-- The pack may be charged now (R283, R285, R286). -/
def chargeable (v : PackView) (s : State) : Bool := !v.alarm && !v.idle && decide (tempDiv v s ≠ 0)

/-- The phase that a charge begins in (R284). -/
def firstPhase (v : PackView) (s : State) : Nat :=
  if v.mv < 3000 * v.cells then 1 else if v.mv < vTarget v s then 2 else 3

/-- The phase after a tick (R284); a pack fault stays. -/
def nextPhase (v : PackView) (s : State) : Nat :=
  match s.policy.phase with
  | 6 => 6
  | 4 => if v.idle then 0 else if v.mv + 100 * v.cells < vTarget v s then 5 else 4
  | ph =>
    if !chargeable v s then 0
    else if ph = 3 then (if v.mv < 3000 * v.cells then 1 else 3)
    else firstPhase v s

/-- The charge current that a phase allows, in mA (R284 to R286). -/
def phaseMa (ph : Nat) (v : PackView) (s : State) : Nat :=
  let cut := fun (i : Nat) => min i v.maxMa / max 1 (tempDiv v s)
  if !chargeable v s then 0
  else
    match ph with
    | 1 => cut (min (bound 0 s / 10) 200)
    | 2 => cut (bound 0 s)
    | 3 => cut (bound 0 s)
    | 5 => cut (bound 0 s)
    | _ => 0

/-- The charge in the pack by the charge-current cell's counters (R287, R289): what has come in less what has gone out. -/
def chargeCount (s : State) : Int :=
  match packCells s with
  | some c => counterRise 0 (s.counter (96 + 5 * c.1)) - counterRise 0 (s.counter (98 + 5 * c.1))
  | none => 0

/-- The state of charge (R285, R287), in %: a smart pack's own; a raw pack's count against the capacity learned, or
Helm0's reading where none has been learned. -/
def socNow (x : PolicyReadings) (s : State) : Nat :=
  if s.policy.smart then (match s.policy.pack with | some r => r.soc | none => 0)
  else if s.policy.capacity = 0 then x.soc
  else
    let p := s.policy
    (clampI 0 100 ((p.socNow : Int) + (chargeCount s - p.socCount) * 100 / p.capacity)).toNat

/-- At the cut-off after a full charge the capacity is learned (R287): what has gone out since DONE, whatever the count at rest has
been reset to meanwhile. -/
def learnCapacity (ph : Nat) (s : State) : State :=
  let p := s.policy
  let n := chargeCount s
  match p.fullCount with
  | none => s
  | some full =>
    if ph = 1 ∧ p.phase ≠ 1 ∧ p.smart = false then
      let s := s.mapPolicy fun p => { p with fullCount := none }
      if n < full then s.mapPolicy fun p => { p with capacity := (full - n).toNat, socNow := 0, socCount := n } else s
    else s

/-- Adapters cover a need in their order, each up to what it can give (R281). -/
def cover (need : Nat) : List Nat → List Nat
  | [] => []
  | a :: r => min need a :: cover (need - min need a) r

/-- The load on the bus (R279, R281): what the sources, the pack and the ports have put onto it and the charge has not taken
back, and at least the power offered on the source ports. -/
def busLoad (s : State) : Nat :=
  let pack := match packCells s with | some c => [busMw c.1 s] | none => []
  let ports := match s.boot.policyMap with | some m => [fld m.2 10 5, fld m.2 5 5, fld m.2 0 5] | none => []
  let sys := ((sourceCells 0 s ++ sourceCells 3 s ++ ports).map fun c => busMw c s).sum + pack.sum
  let offered := (List.range 3).map fun p =>
    let q := s.pdPort p
    if q.attached && q.source then q.mv * q.ma / 1000 else 0
  sys.toNat + offered.sum

/-- The allocation (R281): the free sources that exceed load and demand, the adapters' shares, and the charge current, which is
reduced before load is left unmet. -/
structure Allocation where
  excess : Bool
  shares : List Nat
  chargeMa : Nat
deriving DecidableEq, Repr

/-- The allocation for a charge current that is wanted, at the pack's voltage. -/
def allocate (want mv : Nat) (x : PolicyReadings) (s : State) : Allocation :=
  let free := softPower x s + genPower s
  let load := busLoad s
  let demand := want * mv / 1000
  let shares := cover (load + demand - free) [adapterPower 0 x s, adapterPower 1 x s, adapterPower 2 x s]
  let left := free + shares.sum - load
  { excess := decide (load + demand < free), shares := shares,
    chargeMa := if mv = 0 then 0 else min want (left * 1000 / mv) }

/-- The generator's interface: that of the drive of C25 (R275, the allocation of R13). -/
def genSource (s : State) : Nat := fld (vecReg 25 0 s) 5 2

/-- Its speed is valid. -/
def genValid (s : State) : Bool := decide (genSource s ≠ 3) && posValid (genSource s) s

/-- Its speed is valid and not held (R259). -/
def genSteady (s : State) : Bool := genValid s && !posHeld (genSource s) s

/-- The electrical speed is at least the cut-in of 2 revolutions a second (R258, R275). -/
def cutIn (s : State) : Bool :=
  decide (2 * 2 ^ (20 + s.rf (posBase (genSource s)) 8 5) ≤ (posSpeed (genSource s) s.mt s).natAbs * 614400000 * polePairs 25 s)

/-- The crank's q-current reference: its cadence in rpm times the slope, none below 20 rpm, and no more than what keeps its
power within PIN_GEN, by the machine's own scale and by the power measured (R275); less what it is backed off (R281). -/
def crankRef (d : List Word) (s : State) : Nat :=
  let rpm := (posSpeed (genSource s) s.mt s).natAbs * 614400000 * 60 / 2 ^ (20 + s.rf (posBase (genSource s)) 8 5)
  let lim := genLimit s
  let r := if rpm < 20 ∨ lim = 0 then 0 else min (min 524287 (rpm * (d.getD 5 0).toInt.toNat)) (Config.crankCap rpm lim)
  let mw := sourceMw 3 s
  (if mw = 0 ∨ s.policy.gref = 0 then r else min r (s.policy.gref * lim / mw)) - s.policy.genBack

/-- The generator's reference at a tick (R271, R275): none where its source is disabled or a dynamo turns below cut-in; the last
one while the speed is not valid or is held. -/
def genRef (s : State) : Nat :=
  if !srcEnabled (genBit s) s then 0
  else if !genSteady s then s.policy.gref
  else match crank s with
    | some d => crankRef d s
    | none => if cutIn s then s.policy.gref else 0

/-- The free sources back off their tracking point by a step each (R281): the input voltage up towards open circuit, the
generator's reference down, each tick by one more. -/
def backOff (s : State) : State :=
  s.mapPolicy fun p =>
    { p with backed := true, vref := if p.vref = 0 then 0 else min p.voc (p.vref + p.voc * 5 / 1000), gref := p.gref - 10486,
             genBack := min 524287 (p.genBack + 10486) }

/-- Charging and allocation of a tick (R281, R284). While the bus stands below VSYS_MIN nothing is charged. -/
def recompute (x : PolicyReadings) (s : State) : State :=
  let v := packView x s
  let ph := match v with | some v => nextPhase v s | none => 0
  let s := learnCapacity ph s
  let want := match v with | some v => (if x.busMv < bound 0xE s then 0 else phaseMa ph v s) | none => 0
  let a := allocate want (match v with | some v => v.mv | none => 0) x s
  let g := genRef s
  let s := s.mapPolicy fun p =>
    { p with phase := ph, chargeMa := a.chargeMa, chargeMv := (match v with | some v => vTarget v s | none => 0),
             adapters := #v[a.shares.getD 0 0, a.shares.getD 1 0, a.shares.getD 2 0], gref := g, packLast := x, backed := false,
             genBack := if a.excess then p.genBack else p.genBack - 10486 }
  if a.excess then backOff s else s

/-- The reference of an input cell: the tracked voltage of a SOFT input, the share's current of any other (R273, R274,
R281); it stays while the classification's load steps are on. -/
def inputRef (x : PolicyReadings) (c : Nat) (s : State) : List (Nat × Word) :=
  if !s.policy.dcPresent then []
  else if s.policy.dcClass = 4 then (if s.policy.vref = 0 then [] else [(refWord, Config.refMv c s.policy.vref)])
  else [(refWord, Config.refMa c (min (bound 6 s) (fromBus 0 (vget 0 s.policy.adapters 0) s * 1000 / max 1 x.dcMv)))]

/-- What the Almanac of an input cell is to do, from its control word w as Helm0 reads it: learn the ripple of a RIPPLE input on RD0
(R273), and stop once it is gone. -/
def inputLearn (w : Word) (s : State) : List (Nat × Word) :=
  if s.policy.dcPresent ∧ s.policy.dcClass = 2 then [(0x30, putFld (putBit (putBit w 8 true) 7 false) 5 2 0)]
  else if s.policy.rippleOn then [(0x30, putBit w 8 false)]
  else []

/-- The current reference of a sink port's cell: its share of the allocation (R281). -/
def portRef (p : Nat) (s : State) : List (Nat × Word) :=
  if !sinkPort p s then []
  else
    let ma := fromBus (p + 1) (vget 0 s.policy.adapters (p + 1)) s * 1000 / max 1 (s.pdPort p).mv
    (sourceCells (p + 1) s).map fun c => (refWord, Config.refMa c (min (portIin p s) ma))

/-- The charge: its current, and the voltage to which it is held (R284). -/
def writePack (s : State) : State :=
  match packCells s with
  | none => s
  | some c =>
    let s := if c.1 = c.2 then s else commitWords c.2 [(refWord, Config.refMv c.2 s.policy.chargeMv)] s
    commitWords c.1 [(refWord, Config.refMa c.1 s.policy.chargeMa)] s

/-- Step 4 of a tick (R269): the results go to the cells by commits, the input phases first. -/
def writeResults (x : PolicyReadings) (s : State) : State :=
  let s := (sourceCells 0 s).foldl (fun t c =>
    let r := fwRead 0x20 (cellBase c + 0x1B0) t
    commitWords c (inputRef x c r.2 ++ inputLearn r.1 r.2) r.2) s
  let s := s.mapPolicy fun p => { p with rippleOn := p.dcPresent && decide (p.dcClass = 2) }
  let s := forAll 2 (fun p t => (sourceCells (p + 1) t).foldl (fun u c => commitWords c (portRef p u) u) t) s
  let s := writePack s
  let s := if s.boot.policyMap.isSome then commitWords 25 [(refWord, BitVec.ofNat 20 s.policy.gref)] s else s
  s.mapPolicy fun p =>
    { p with energy := (List.range 64).foldl (fun m j =>
        let k := inEnergy (j / 2) + j % 2 * 2
        update zeroAt m k (s.counter k)) [] }

/-- What the ports have lost has been seen (R282). -/
def lostSeen (s : State) : State := forAll 3 (fun p t => t.modPdPort p fun q => { q with lost := 0 }) s

/-- The policy bits of PWR_COND (R83, R288). -/
def policyCond (x : PolicyReadings) (s : State) : State :=
  let src := decide (s.policy.sources ≠ 0)
  let soc := socNow x s
  let low := decide (soc ≤ bound 0xF s)
  let s := s.mapPolicy fun p => { p with soc := soc }
  let s := (s.wb 0x7080E 4 low).wb 0x7080E 3 src
  (s.wb 0x7080E 2 (!src)).wb 0x7080E 0 (decide (s.policy.phase = 4) && src)

/-- Source ports limit their offers while there is no source and the battery is low (R279). -/
def limitPorts (s : State) : State :=
  let lim := s.rb 0x7080E 2 && s.rb 0x7080E 4
  forAll 3 (fun p s =>
    if (s.pdPort p).attached && (s.pdPort p).source && (s.pdPort p).pdPartner && ((s.pdPort p).limited != lim) then sourceCaps p lim s
    else s) s

/-- The ROM's answer to a reference loss (R447): once locked, the domains return to MERIDIAN. -/
def relock (s : State) : State :=
  if s.clk.relockRom && clkLock s then
    let s := fwWrite 0x20 0x70401 0x00047#20 s
    if s.rb 0x70401 6 then s else s.mapClk fun c => { c with relockRom := false }
  else s

/-- A policy tick (R269). -/
def policyTick (x : PolicyReadings) (s : State) : State :=
  relock (limitPorts (policyCond x (lostSeen (writeResults x (recompute x (sourceEvents x (measureEff (applyBounds s))))))))

/-- The class of the DC input (R273): means in mV, sags in 0.1 % per step. -/
def dcClassOf (mean sag1 sag2 : Nat) (s : State) : Nat :=
  let p := ofWords [s.rd 0x76E06, s.rd 0x76E07]
  if s.rb 0x76E08 19 ∧ 4546560 ≤ p ∧ p ≤ 6819840 then 2
  else if ((11000 ≤ mean ∧ mean ≤ 15500) ∨ (22000 ≤ mean ∧ mean ≤ 31000)) ∧ sag1 < 30 ∧ sag2 < 30 then 3
  else if 100 ≤ sag1 then 4
  else 1

/-- The input energy counters of the input cells in a Fix, by cell (R274, R293). -/
def fixInputs (b : FixBank) (s : State) : SMap Nat :=
  (sourceCells 0 s).foldl (fun m c => update zeroAt m c (lookup zeroAt b.ctr (inEnergy c))) []

/-- The mean input power between two Fixes, in mW, each counter on its own scale (R274): the counts of the earlier one, and its
time. -/
def mpptPower (old : SMap Nat) (mt : Nat) (b : FixBank) (s : State) : Int :=
  ((sourceCells 0 s).map fun c =>
    countMw (inEnergy c) (counterRise (lookup zeroAt old c) (lookup zeroAt b.ctr (inEnergy c))) ((b.mt + 2 ^ 60 - mt) % 2 ^ 60)).sum

/-- The input-voltage reference moves by 0.5 % of the open-circuit voltage, in the direction that last raised the power; it does
not rise while the draw, of power in mW at mv, exceeds IIN_DC (R274). -/
def mpptMove (power : Int) (mv : Nat) (s : State) : State :=
  s.mapPolicy fun p =>
    let up := if power < p.vpow then !p.vdir else p.vdir
    let past := decide (((vget 0 p.bounds 6 * mv : Nat) : Int) < power * 1000)
    let d := p.voc * 5 / 1000
    { p with vdir := up, vpow := power, vref := if up then (if past then p.vref else p.vref + d) else p.vref - d }

/-- A step of the tracker at an input voltage of mv (R274): a Fix is triggered, and its counters will give the power. -/
def mpptStep (mv : Nat) (s : State) : State :=
  let s := fixAwait 4 (s.mapPolicy fun p => { p with mpptMv := mv })
  fwWrite 0x20 0x74000 (putBit (s.rd 0x74000) 0 true) s

/-- The tracker may move its reference (R271, R274, R281): not while the source is disabled, released or backed off. -/
def mpptOn (s : State) : Bool :=
  policyRuns s && srcEnabled 0 s && decide (s.policy.dcClass = 4) && decide (s.policy.vref ≠ 0) && !s.policy.released &&
    !s.policy.backed

/-- The tracker's Fix has come (R274): the power since the Fix before it moves the reference, which goes to the cells. The first
Fix of a tracking run has none before it, and moves nothing (log 101). -/
def mpptRead (s : State) : State :=
  match fixCame 4 s with
  | none => s
  | some b =>
    let old := s.policy.mpptE
    let new := fixInputs b s
    let before := s.policy.mpptMt
    let s := (fixTaken 4 s).mapPolicy fun p => { p with mpptE := new, mpptMt := some b.mt }
    match before with
    | some mt =>
      if mpptOn s then
        let s := mpptMove (mpptPower old mt b s) s.policy.mpptMv s
        (sourceCells 0 s).foldl (fun t c => commitWords c [(refWord, Config.refMv c t.policy.vref)] t) s
      else s
    | none => s

/-- The input is released, or its open-circuit voltage has been measured (R274): tracking starts at 80 % of it, and goes on
from where it stood. -/
def openCircuit (mv : Option Nat) (s : State) : State :=
  match mv with
  | none => standDown 0 true (s.mapPolicy fun p => { p with released := true })
  | some v =>
    standDown 0 false (s.mapPolicy fun p =>
      { p with voc := v, vref := if p.vref = 0 then v * 8 / 10 else p.vref, released := false })

/-- A step of the climb: 2 % of full scale towards more power, down above PIN_DYN (R275). -/
def climb (power : Nat) (s : State) : State :=
  let lim := genLimit s
  s.mapPolicy fun p =>
    let up := if lim < power then false else if power < p.gpow then !p.gdir else p.gdir
    { p with gdir := up, gpow := power, gref := if up then min 524287 (p.gref + 10486) else p.gref - 10486 }

/-- The reference of the generator goes to C25 (R275). -/
def commitGen (s : State) : State := commitWords 25 [(refWord, BitVec.ofNat 20 s.policy.gref)] s

/-- The SMBus block has the clock and data pads of its controller side, without which no pack answers (R29). -/
def smbusUp (s : State) : Bool := padOf 0x38 256 s && padOf 0x38 257 s

/-- A poll of a smart pack (R285): five unanswered ones in a row mark it absent. -/
def batteryPoll (r : Option PackReading) (s : State) : State :=
  match (if smbusUp s then r else none) with
  | some x => s.mapPolicy fun p => { p with smart := true, pack := some x, missed := 0 }
  | none =>
    s.mapPolicy fun p =>
      let m := min 5 (p.missed + 1)
      if 5 ≤ m ∧ p.smart = true then { p with missed := m, pack := none, phase := 0, chargeMa := 0 } else { p with missed := m }

/-- POLICY_TICK (R269). -/
def execPolicyTick (x : PolicyReadings) (s : State) : Result := happens (policyRuns s) (policyTick x) s

/-- The DC input has its class (R273): the ripple detector stays for RIPPLE and VEHICLE, and a SOFT input is tracked from 80 % of
its open-circuit voltage (R274). -/
def classify (k : Nat) (s : State) : State :=
  let s := if k = 2 ∨ k = 3 then s else rd0 false s
  s.mapPolicy fun p =>
    { p with dcPresent := true, dcClass := k, dcLow := 0, dcStep := 0, vref := if k = 4 then p.voc * 8 / 10 else 0,
             mpptMt := none }

/-- DC_CLASSIFY (R273): mean in mV, sags in 0.1 % of the two load steps. -/
def execDcClassify (mean sag1 sag2 : Nat) (s : State) : Result :=
  happens (policyRuns s && decide (4000 < mean)) (fun s => classify (dcClassOf mean sag1 sag2 s) s) s

/-- DC_INPUT_REMOVED (R273): the input counts as removed; its cells are stood down (R282). -/
def execDcInputRemoved (s : State) : Result :=
  happens (policyRuns s && s.policy.dcPresent)
    (fun s => standDown 0 true ((dcRemove s).mapPolicy fun p => { p with sources := p.sources - p.sources % 2 })) s

/-- MPPT_STEP (R274) at an input voltage of mv. -/
def execMpptStep (mv : Nat) (s : State) : Result := happens (mpptOn s) (mpptStep mv) s

/-- OPEN_CIRCUIT_MEASURE (R274): without a voltage the input is released; with one the measurement ends. -/
def execOpenCircuitMeasure (mv : Option Nat) (s : State) : Result :=
  happens (policyRuns s && srcEnabled 0 s && decide (s.policy.dcClass = 4)) (openCircuit mv) s

/-- GENERATOR_CLIMB (R275) with the power that Helm0 measures (log 50), in mW: a held or invalid speed holds the reference. -/
def execGeneratorClimb (power : Nat) (s : State) : Result :=
  happens (policyRuns s && (crank s).isNone && srcEnabled 4 s && genSteady s && cutIn s && !s.policy.backed)
    (fun s => commitGen (climb power s)) s

/-- GENERATOR_SPEED_LOST (R275). -/
def execGeneratorSpeedLost (s : State) : Result :=
  happens (policyRuns s && !genValid s) (fun s => commitGen (s.mapPolicy fun p => { p with gref := 0 })) s

/-- BATTERY_POLL (R283, R285). -/
def execBatteryPoll (r : Option PackReading) (s : State) : Result := happens (policyRuns s) (batteryPoll r) s

/-- CHARGE_DONE_TIMEOUT (R284): the CV current has been below ITERM for 60 s. -/
def execChargeDoneTimeout (s : State) : Result :=
  let ma : Int := match packView s.policy.packLast s with | some v => v.ma | none => 0
  happens (policyRuns s && decide (s.policy.phase = 3) && decide (ma < (bound 3 s : Int)))
    (fun s =>
      (s.mapPolicy fun p =>
        { p with phase := 4, chargeMa := 0, socNow := 100, socCount := chargeCount s, fullCount := some (chargeCount s) }).wb 0x7080E 0
          (decide (s.policy.sources ≠ 0))) s

/-- PRE_CHARGE_TIMEOUT (R284): a PRE phase has lasted 30 min. -/
def execPreChargeTimeout (s : State) : Result :=
  happens (policyRuns s && decide (s.policy.phase = 1)) (fun s => s.mapPolicy fun p => { p with phase := 6, chargeMa := 0 }) s

/-- SOC_RESET (R287): a raw pack at rest is counted from its open-circuit voltage again. -/
def execSocReset (soc : Nat) (s : State) : Result :=
  happens (policyRuns s && !s.policy.smart && decide (s.policy.packLast.packMa.natAbs < 50))
    (fun s => s.mapPolicy fun p => { p with socNow := min 100 soc, socCount := chargeCount s }) s

end Sys2Proof.Machine
end

