-- ==== Sys2Proof/Machine/Boot.lean ====
section
/-! DEFINITION. The boot sequence of the ROM firmware: containers, the boot block, the protection set, the board entries,
the image and the handover (R424 to R429). -/
namespace Sys2Proof.Machine

/-- The entries of a payload: type and words of each (R425); none where one does not lie within it. -/
def parseEntries : Nat → List Word → Option (List (Nat × List Word))
  | _, [] => some []
  | 0, _ => none
  | f + 1, h :: r =>
    let n := fld h 0 12
    if r.length < n then none else (parseEntries f (r.drop n)).map fun es => (fld h 12 8, r.take n) :: es

/-- The payload length of a container (R425). -/
def payloadLen (ws : List Word) : Nat := ofWords ((ws.drop 3).take 2)

/-- The container is signed (R425). -/
def isSigned (ws : List Word) : Bool := tst (ws.getD 5 0) 0

/-- The entries of a container. -/
def entriesOf (ws : List Word) : Option (List (Nat × List Word)) :=
  let p := payloadLen ws
  parseEntries p ((ws.drop 6).take p)

/-- A claim command of a slot block claims (R428). -/
def claimsOp (v : Word) : Bool := decide (fld v 18 2 = 1)

/-- A slot block of a type 0x12 entry is correct (R428). -/
def slotGood (b : List Word) : Bool :=
  let counts := (List.range 8).map fun j => boardCount (j + 1) b
  decide (fld (b.getD 0 0) 16 4 = 0) && decide (fld (b.getD 2 0) 12 8 = 0) && decide (fld (b.getD 4 0) 12 8 = 0) &&
    counts.all (fun c => decide (c ≤ 8)) && decide (5 + counts.sum ≤ b.length) && ((b.drop 5).take counts.sum).all claimsOp

/-- The length of a slot block. -/
def slotLen (b : List Word) : Nat := 5 + ((List.range 8).map fun j => boardCount (j + 1) b).sum

/-- A type 0x12 entry is correct (R428). -/
def boardGood (ws : List Word) : Bool :=
  let blocks := (List.range 8).map fun n => boardSlot n ws
  let thermo := fld (ws.getD 1 0) 0 7
  decide (fld (ws.getD 0 0) 9 11 = 0) && decide (fld (ws.getD 1 0) 7 13 = 0) && (decide (thermo < 64) || decide (thermo = 127)) &&
    blocks.all slotGood && decide (ws.length = 2 + (blocks.map slotLen).sum)

/-- An entry of a boot block is correct (R427). -/
def blockEntryGood (e : Nat × List Word) : Bool :=
  let n := e.2.length
  match e.1 with
  | 0x01 => decide (n = 1)
  | 0x02 => decide (n = 10) && (tst (e.2.getD 1 0) 18 || decide (e.2.getD 9 0 = 0))
  | 0x03 => decide (n = 4)
  | 0x10 => decide (1 ≤ n)
  | 0x11 => decide (2 ≤ n) && decide (n % 2 = 0)
  | 0x12 => boardGood e.2
  | 0x13 => decide (n = 2) && decide (fld (e.2.getD 1 0) 15 5 = 0)
  | _ => false

/-- An entry of an image is correct (R339, R427). -/
def imageEntryGood (e : Nat × List Word) : Bool :=
  let n := e.2.length
  match e.1 with
  | 0x40 => decide (2 ≤ n) && decide ((e.2.getD 0 0).toNat + (n - 1) ≤ 0x2F000)
  | 0x41 => decide (5 ≤ n) && decide (patchLen e.2 = n)
  | 0x42 => decide (n = 2)
  | _ => false

/-- The format of a container holds (R425, R426, R427). -/
def formatGood (image : Bool) (ws : List Word) : Bool :=
  let w0 := ws.getD 0 0
  let p := payloadLen ws
  let len := 8 + p + (if isSigned ws then 64 else 0)
  decide (fld w0 8 4 = if image then 2 else 1) && decide (fld w0 0 8 = 1) && decide (ofWords ((ws.drop 1).take 2) ≠ 0) &&
    decide (p ≤ if image then 5570000 else 21000) && decide (fld (ws.getD 5 0) 1 19 = 0) && decide (len ≤ ws.length) &&
    (match entriesOf ws with
     | some es => if image then es.all imageEntryGood && es.any (fun e => decide (e.1 = 0x42)) else es.all blockEntryGood
     | none => false)

/-- The CRC of a container holds (R425). -/
def containerCrc (ws : List Word) : Bool :=
  let n := 6 + payloadLen ws
  let c := crc32 (ws.take n)
  decide ((ws.getD n 0).toNat = c % 65536) && decide ((ws.getD (n + 1) 0).toNat = c / 65536)

/-- The SHA-256 of the key in force, OTP words 132 to 147 (R430). -/
def otpHash (s : State) : Nat := (List.range 16).foldl (fun n i => n * 65536 + otpWord (132 + i) s) 0

/-- The state of a container (R426): 0 absent, 1 valid, 2 CRC or format failed, 3 signature failed. -/
def containerState (image : Bool) (ws : List Word) (s : State) : Nat :=
  if fld (ws.getD 0 0) 12 8 ≠ 0xC7 then 0
  else if !formatGood image ws || !containerCrc ws then 2
  else if keyInForce s && !(isSigned ws && signatureGood (otpHash s) (6 + payloadLen ws) ws) then 3
  else 1

/-- SYS_BOOT.stage (R424). -/
def bootStage (s : State) : Nat := s.rf 0x70003 12 4

/-- A step of the boot sequence begins. -/
def setStage (n : Nat) (s : State) : State := s.wf 0x70003 12 4 n

/-- The ROM firmware's boot sequence is at work on Helm0. -/
def booting (s : State) : Bool := helmUp 0 s && !s.boot.handover && !s.rb 0x70003 19

/-- The boot ROM's stored CRC agrees with its words (R424 step 2, R446). -/
def romGood (s : State) : Bool :=
  let c := crc32 (s.rdMemN 0x30000 0x7FFE)
  decide ((s.rdMem 0x37FFE).toNat = c % 65536) && decide ((s.rdMem 0x37FFF).toNat = c / 65536)

/-- Helm0 makes a write. -/
def romWrite (a : Nat) (v : Word) (s : State) : State := fwWrite 0x20 a v s

/-- The ROM claims the balls of the host link and of the flash for their blocks. -/
def romClaims (s : State) : State :=
  let claim := fun (o : Nat) (t : State) (p : Nat) => (claimBy 0 1 0 p o t).2
  let s := ((List.range 7).map (226 + ·)).foldl (claim 0x35) s
  ((List.range 6).map (261 + ·)).foldl (claim 0x39) s

/-- Both cores read the counters that their NMI handler compares (R447). -/
def saveCounters (h : Nat) (s : State) : State :=
  s.modProc h fun p => { p with savedParity := s.rd 0x70C17, savedLoss := s.rd 0x70403, savedMchk := s.rd 0x72015 }

/-- Words written to successive addresses by Helm0. -/
def romWrites (a : Nat) (ws : List Word) (s : State) : State := (ws.zipIdx).foldl (fun t x => romWrite (a + x.2) x.1 t) s

/-- The ROM's default key map (R323): one word for each key index, bits [19:16] zero; no rule gives its codes. -/
def defaultKeys : List Word := (List.range 144).map fun k => (Config.defaultKey k).setWidth 20

/-- Steps 1 to 3 of R424. The default key map is loaded between the check of the ROM and the boot block (log 81). -/
def bootRom (s : State) : State :=
  let s := romClaims (saveCounters 1 (saveCounters 0 (setStage 1 s)))
  let s := parityReads 0x20 0x30000 0x8000 (setStage 2 s)
  if romGood s then setStage 3 (romWrites 0x3D000 defaultKeys s)
  else (s.wb 0x70003 19 true).modProc 0 fun p => { p with run := .romHalt }

/-- The entries of one type, in record order. -/
def ofType (t : Nat) (es : List (Nat × List Word)) : List (List Word) := (es.filter fun e => decide (e.1 = t)).map (·.2)

/-- A protection entry is applied (R427): Helm0 queries the claim table; the entry is skipped where no entry has its index
(log 83) or another owner holds its resource, and from the point where its en write is refused. -/
def applyProt (e : List Word) (s : State) : State :=
  let i := (e.getD 0 0).toNat
  let cfg := e.getD 1 0
  let slot := tst cfg 18
  let n := fld cfg 12 6
  let o := s.owner (if slot then 2 else 3) n
  let s := if 16 ≤ i then s else (claimBy 0 0 (if slot then 2 else 3) n 0 s).2
  if 16 ≤ i ∨ o ≠ 0 ∧ o ≠ 0x24 then s.wb 0x72801 16 true
  else
    let s := if slot then romWrites (seqReg n) (e.drop 6) s else romWrites (cmpReg n) ((e.drop 6).take 3) s
    let a := 0x72810 + 8 * i
    if protEnRefused cfg s then romWrite a cfg s else romWrites (a + 1) ((e.drop 2).take 4) (romWrite a cfg s)

/-- Step 4 of R424: the protection set and the floors, then the lock. -/
def bootProtect (es : List (Nat × List Word)) (s : State) : State :=
  let s := (ofType 0x03 es).foldl (fun t e => (e.zipIdx).foldl (fun t x => romWrite (adcBase x.2) x.1 t) t) (setStage 4 s)
  let s := (ofType 0x01 es).foldl (fun t e => romWrite 0x73800 (e.getD 0 0) t) s
  let s := (ofType 0x02 es).foldl (fun t e => applyProt e t) s
  let s := if (ofType 0x01 es).isEmpty then romWrite 0x73800 0x10010#20 s else s
  romWrite 0x72800 1 s

/-- Address and value pairs are applied in order (R427). -/
def runScript : List Word → State → State
  | a :: v :: r, s => runScript r (romWrite a.toNat v s)
  | _, s => s

/-- A board entry is applied (R427). -/
def applyBoard (e : Nat × List Word) (s : State) : State :=
  match e.1 with
  | 0x10 => e.2.foldl (fun t v => romWrite 0x70C00 v t) s
  | 0x11 => runScript e.2 s
  | 0x12 => s.mapBoot fun b => { b with board := some e.2 }
  | 0x13 => s.mapBoot fun b => { b with policyMap := some (e.2.getD 0 0, e.2.getD 1 0), policyOn := true }
  | _ => s

/-- Step 5 of R424. -/
def bootBoard (es : List (Nat × List Word)) (s : State) : State := es.foldl (fun t e => applyBoard e t) (setStage 5 s)

/-- Step 6 of R424: Helm1 serves packets. The WFE in which it has waited takes Helm0's event (R140). -/
def bootHelm1 (s : State) : State :=
  let s := setStage 6 s
  if helmUp 1 s then
    (fwWrite 0x21 0x71003 (s.rd 0x71003 &&& 0xFFFDF#20 ||| 0xC0000#20) s).mapHostif fun h => { h with serving := true }
  else eventArrives 1 s

/-- Steps 3 to 7 of R424, with a boot block as read; a block absent or invalid sets no_board. -/
def bootBlock (ws : List Word) (s : State) : State :=
  let good := decide (containerState false ws s = 1)
  let es := if good then (entriesOf ws).getD [] else []
  let s := if good then s else s.wb 0x70001 13 true
  let s := bootProtect es s
  let s := if good then bootBoard es s else setStage 5 s
  setStage 7 (bootHelm1 s)

/-- The image state is recorded (R424, R431). -/
def imageState (n : Nat) (s : State) : State := (s.wf 0x70003 17 2 n).wf 0x70001 15 2 n

/-- An image's patch records are loaded (R340): hold, the words, release. -/
def loadPatch (r : List Word) (s : State) : State :=
  romWrite 0x72011 0 (r.foldl (fun t w => romWrite 0x72013 w t) (romWrite 0x72011 1 s))

/-- Step 7 of R424 for a valid image: sections, patch, versions and entry points; it waits until Sextant holds. -/
def bootImage (ws : List Word) (s : State) : State :=
  let es := (entriesOf ws).getD []
  let patches := ofType 0x41 es
  let s := if patches.isEmpty then s else romWrite 0x72011 1 s
  if !patches.isEmpty && !patchHeld s then s
  else
    let s := (ofType 0x40 es).foldl (fun t e => romWrites (e.getD 0 0).toNat (e.drop 1) t) s
    let s := patches.foldl (fun t r => loadPatch r t) s
    let s := (s.wr 0x70007 (ws.getD 1 0)).wr 0x70008 (ws.getD 2 0)
    let e := (ofType 0x42 es).getLastD []
    s.mapBoot fun b => { b with entryPoints := some (e.getD 0 0, e.getD 1 0), image := none }

/-- Steps 7 and 8 of R424, with an image as read. -/
def bootFlash (ws : List Word) (s : State) : State :=
  let st := containerState true ws s
  if st = 1 then bootImage ws s
  else imageState st (setStage 8 (s.mapBoot fun b => { b with image := none }))

/-- Helm0 ROM copies the result of Sextant's self-test (R431). -/
def copySelftest (s : State) : State := if s.rb 0x72017 19 then s.wb 0x70001 14 (!s.rb 0x72017 18) else s

/-- The boot sequence goes on as far as it can (R424). -/
def bootOn (s : State) : State :=
  let s := copySelftest s
  let s := if bootStage s = 0 then bootRom s else s
  match bootStage s, s.boot.block, s.boot.image with
  | 3, some ws, _ => bootBlock ws s
  | 7, _, some ws => bootFlash ws s
  | _, _, _ => s

/-- A container has been read from the flash (R448): the boot block in step 3, the image in step 7. -/
def flashRead (image : Bool) (ws : List Word) (s : State) : State :=
  bootOn (s.mapBoot fun b => if image then { b with image := some ws } else { b with block := some ws })

/-- The handover (R429): both cores go to their image entry points. -/
def imageHandover (e : Word × Word) (s : State) : State :=
  let s := (imageState 1 s).modProc 0 fun p => { p with pc := e.1 }
  let s := eventArrives 1 s
  let s := if helmUp 1 s then s.modProc 1 fun p => { p with pc := e.2 } else s
  s.mapBoot fun b => { b with handover := true }

/-- BOOT_SEQUENCE (R424): the ROM firmware goes on with the boot sequence. -/
def execBootSequence (s : State) : Result := happens (booting s) bootOn s

/-- FLASH_CONTAINER_READ (R426, R448): the words of a container, the image's where kind holds. -/
def execFlashContainerRead (kind : Bool) (ws : List Word) (s : State) : Result :=
  happens (booting s && decide (bootStage s = if kind then 7 else 3) && s.boot.entryPoints.isNone) (flashRead kind ws) s

/-- IMAGE_HANDOVER (R429). -/
def execImageHandover (s : State) : Result :=
  match s.boot.entryPoints with
  | some e => happens (booting s) (imageHandover e) s
  | none => .next s

end Sys2Proof.Machine
end

