-- ==== Sys2Proof/Machine/Nguir.lean ====
section
/-! DEFINITION. The Nguir packets as Helm1 carries them out (R377 to R384, R386 to R412). A row serves the oldest packet
taken on its stream, or ends that stream's waiting packet once its outcome stands. -/
namespace Sys2Proof.Machine

/-- Parameter n of a packet, counting from 0. -/
def Packet.par (p : Packet) (n : Nat) : Word := p.params.getD n 0

/-- A parameter's value as the detail of BAD_LENGTH (R376). -/
def lenDetail (n : Nat) : Nat := min n 0xFFF

/-- The parameter counts that an opcode takes (R386). -/
def countOk (op c : Nat) : Bool :=
  match op with
  | 0x02 => decide (c = 2)
  | 0x03 => decide (2 ≤ c)
  | 0x04 => decide (1 ≤ c) && decide (c ≤ 16)
  | 0x05 => decide (1 ≤ c) && decide (c ≤ 16)
  | 0x06 => decide (c = 1)
  | 0x0B => decide (c = 4) || decide (c = 13)
  | 0x10 => decide (2 ≤ c) && decide (c ≤ 129)
  | 0x11 => decide (c = 1)
  | 0x13 => decide (c = 2)
  | 0x14 => decide (c = 2) || decide (c = 12)
  | 0x15 => decide (c = 2)
  | 0x16 => decide (c ≤ 16) && decide (c % 2 = 0)
  | 0x18 => decide (2 ≤ c) && decide (c ≤ 34) && decide (c % 2 = 0)
  | 0x1A => decide (c = 2) || decide (c = 7) || decide (c = 12)
  | 0x1B => decide (c = 1)
  | 0x1C => decide (c ≤ 1)
  | 0x1E => decide (c = 1)
  | 0x1F => decide (c = 3)
  | 0x20 => decide (3 ≤ c) && decide (c ≤ 254)
  | 0x21 => decide (c = 1)
  | 0x22 => decide (c = 2)
  | _ => decide (c = 0)

/-- An opcode of R386. -/
def opDefined (op : Nat) : Bool := (decide (1 ≤ op) && decide (op ≤ 0xB)) || (decide (0x10 ≤ op) && decide (op ≤ 0x22))

/-- The opcode is carried by a protocol version (R386). -/
def opCarried (op ver : Nat) : Bool := opDefined op && (decide (op < 0x10) || decide (2 ≤ ver))

/-- The stream is stopped (R379). -/
def streamStopped (st : Nat) (s : State) : Bool := s.rb 0x71003 (10 + st)

/-- The sequence the stream expects (R377). -/
def expected (st : Nat) (s : State) : Nat := vget 0 s.host.expect st

/-- The first check of R377 that a packet fails: its status and detail; none where it is carried out. -/
def checkPacket (p : Packet) (s : State) : Option (Nat × Nat) :=
  if !p.crcOk then some (0x03, 0)
  else if p.op = 0x01 then none
  else if streamStopped p.stream s then (if p.op = 0x0A then none else some (0x01, vget 0 s.host.stopSeq p.stream))
  else if p.seq ≠ expected p.stream s then some (0x04, expected p.stream s)
  else if p.ver = 0 ∨ s.rf 0x71003 14 4 < p.ver then some (0x05, s.rf 0x71003 14 4)
  else if !opCarried p.op p.ver then some (0x02, 0)
  else if !countOk p.op p.params.length then some (0x06, p.params.length)
  else none

/-- The stream's expected sequence is set. -/
def setExpect (st n : Nat) (s : State) : State := s.mapHostif fun h => { h with expect := vset h.expect st (n % 64) }

/-- A packet that passes step 4 of R377 advances its stream's expected sequence. -/
def advanceExpect (p : Packet) (s : State) : State :=
  if p.crcOk && decide (p.op ≠ 0x01) && !streamStopped p.stream s && decide (p.seq = expected p.stream s) then
    setExpect p.stream (p.seq + 1) s
  else s

/-- Standing orders end with any packet carried out but STANDING_ORDER and STATE (R70). -/
def disarm (p : Packet) (s : State) : State := if p.op = 0x16 ∨ p.op = 0x06 then s else s.wb 0x70800 6 false

/-- The thing of R387 that an address belongs to: a cell, or 100 plus a channel. -/
def thingAt (a : Nat) : Option Nat :=
  if 0x78000 ≤ a ∧ a < 0x7C000 then some ((a - 0x78000) / 0x200)
  else if 0x73000 ≤ a ∧ a < 0x73800 then some (100 + (a - 0x73000) / 0x40)
  else none

/-- The thing that a claim command names (R387). -/
def claimThing (v : Word) : Nat := if fld v 15 3 = 1 then 100 + fld v 6 9 else 1000 + 1000 * fld v 15 3 + fld v 6 9

/-- The things of R387 that a packet acts on: cells, channels from 100, ports from 200, Almanac images 300 and 301,
tickets from 400, of which SXT_EVAL may take any, 416 the free ones, bounds from 500, the Logbook 600, a state entry 700, other
resources from 1000. -/
def packetThings (p : Packet) : List Nat :=
  let p0 := p.par 0
  match p.op with
  | 0x02 => (List.range (p.par 1).toNat).filterMap fun k => thingAt ((p0.toNat + k) % 2 ^ 20)
  | 0x03 => (List.range (p.params.length - 1)).filterMap fun k => thingAt ((p0.toNat + k) % 2 ^ 20)
  | 0x04 => p.params.map claimThing
  | 0x05 => p.params.map claimThing
  | 0x06 => [700]
  | 0x10 => [fld p0 7 5]
  | 0x11 => [fld p0 7 5]
  | 0x14 => [600]
  | 0x15 => [600]
  | 0x18 => (List.range (p.params.length / 2)).map fun k => 500 + fld (p.par (2 * k)) 0 5
  | 0x1A => (List.range 17).map (400 + ·)
  | 0x1B => [400 + fld p0 0 4]
  | 0x1F => [300, fld p0 0 5]
  | 0x20 => [301, fld p0 0 5]
  | 0x21 => [200 + fld p0 0 2]
  | 0x22 => [200 + fld p0 0 2]
  | _ => []

/-- Two packets share a thing. -/
def sharesThing (p q : Packet) : Bool := (packetThings p).any fun x => (packetThings q).contains x

/-- A packet waits until the one before it on its stream has replied (R378), and for one taken before it, or waiting for its
outcome, that shares a thing with it (R387). The ticket of an SXT_RESULT that waits is none that an SXT_EVAL could take. -/
def packetBlocked (p : Packet) (s : State) : Bool :=
  replyDue p.stream s ||
    (s.host.taken.takeWhile fun q => decide (q.stream ≠ p.stream)).any (sharesThing p) ||
    s.host.waits.any fun w => sharesThing p w.1 && !(decide (p.op = 0x1A) && decide (w.1.op = 0x1B))

/-- The oldest packet taken on a stream. -/
def firstTaken (st : Nat) (s : State) : Option Packet := s.host.taken.find? fun p => decide (p.stream = st)

/-- The packet of a stream that waits for its outcome (R378, R387). -/
def waitOn (st : Nat) (s : State) : Option (Packet × WaitFor) := s.host.waits.find? fun w => decide (w.1.stream = st)

/-- The oldest packet of a stream leaves the packets taken. -/
def takeOut (st : Nat) : List Packet → List Packet
  | [] => []
  | p :: r => if p.stream = st then r else p :: takeOut st r

/-- A packet waits for its outcome. -/
def waitFor (p : Packet) (w : WaitFor) (s : State) : State := s.mapHostif fun h => { h with waits := h.waits ++ [(p, w)] }

/-- A stream's packet waits no more. -/
def endWait (st : Nat) (s : State) : State :=
  s.mapHostif fun h => { h with waits := h.waits.filter fun w => decide (w.1.stream ≠ st) }

/-- A packet is checked, and carried out where no check fails (R377). -/
def servePacket (act : Packet → State → State) (p : Packet) (s : State) : State :=
  let r := checkPacket p s
  let s := advanceExpect p (s.mapHostif fun h => { h with taken := takeOut p.stream h.taken })
  match r with
  | some x => respond p x.1 x.2 [] s
  | none => act p (disarm p s)

/-- The status and detail of an access that fails: BUSERR, or a dark domain (R87, R376). -/
def failReply (k : Bool) (a : Nat) : Nat × Nat := if k then (0x08, 0) else (0x07, domainOf a)

/-- A packet's accesses to a block go ahead where the block answers; otherwise their failure is the reply. -/
def reach (p : Packet) (a : Nat) (write : Bool) (eff : State → State) (s : State) : State :=
  match s.accessFault a write with
  | some k => respond p (failReply k a).1 (failReply k a).2 [] (recordFault a 0x21 k s)
  | none => eff s

/-- Helm1 reads words at given addresses. -/
def readEach : List Nat → State → List Word × State
  | [], s => ([], s)
  | a :: r, s =>
    let x := fwRead 0x21 a s
    let y := readEach r x.2
    (x.1 :: y.1, y.2)

/-- The reply is the words at given addresses. -/
def replyReads (as : List Nat) (p : Packet) (s : State) : State :=
  reach p (as.headD 0) false (fun s => let r := readEach as s; respond p 0 0 r.1 r.2) s

/-- The requester code of an access made for the host (R384). -/
def proxyReq (a : Nat) : Nat := if 0x71000 ≤ a ∧ a < 0x71400 then 0x21 else 0x23

/-- Helm1's access for the host: HOSTIF_CTRL.proxy is set for it and clear after it (R384). -/
def asHost (b : Bool) (s : State) : State := s.wb 0x71003 4 b

/-- Words read until one fails, for the host or for Helm1 itself: the words, the status and detail, and the state after. A read
that finds a parity error has recorded one (R91, R384, R389). -/
def readUntil (host : Bool) : Nat → Nat → State → (List Word × (Nat × Nat)) × State
  | 0, _, s => (([], (0, 0)), s)
  | n + 1, a, s =>
    let q := if host then proxyReq a else 0x21
    match s.accessFault a false with
    | some k => (([], failReply k a), recordFault a q k s)
    | none =>
      let t := asHost host (busTurn 1 s)
      let r := busGet q a t
      let u := asHost false r.2
      if r.2.rd 0x70C17 ≠ t.rd 0x70C17 then (([r.1], (0x09, 0)), u)
      else
        let x := readUntil host n ((a + 1) % 2 ^ 20) u
        ((r.1 :: x.1.1, x.1.2), x.2)

/-- A write to an address fails; a submit to a retained Sextant waits instead (R87, R317). -/
def writeFails (a : Nat) (s : State) : Option Bool :=
  if (a = 0x72001 ∨ a = 0x72002) ∧ s.pstate ≤ 1 then none else s.accessFault a true

/-- Words written for the host until one fails: how many, the status and detail (R389). -/
def writeUntil : List Word → Nat → Nat → State → (Nat × (Nat × Nat)) × State
  | [], _, n, s => ((n, (0, 0)), s)
  | w :: ws, a, n, s =>
    match writeFails a s with
    | some k => ((n, failReply k a), recordFault a (proxyReq a) k s)
    | none =>
      writeUntil ws ((a + 1) % 2 ^ 20) (n + 1) (asHost false (busWrite (proxyReq a) a w (asHost true (busTurn 1 s))))

/-- HELLO (R381). -/
def actHello (p : Packet) (s : State) : State :=
  let ver := max 1 (min (fld (p.par 0) 0 4) 2)
  let s := (s.wf 0x71003 14 4 ver).wf 0x71003 10 4 0
  let s := s.mapHostif fun h => { h with expect := vset (Vector.replicate 4 0) p.stream ((p.seq + 1) % 64) }
  respond p 0 0 [BitVec.ofNat 20 (0x20 + ver)] s

/-- READ (R389). -/
def actRead (p : Packet) (s : State) : State :=
  let n := (p.par 1).toNat
  if n = 0 ∨ 254 < n then respond p 0x06 (lenDetail n) [] s
  else
    let r := readUntil true n (p.par 0).toNat s
    respond p r.1.2.1 r.1.2.2 r.1.1 r.2

/-- WRITE (R389). -/
def actWrite (p : Packet) (s : State) : State :=
  let r := writeUntil (p.params.drop 1) (p.par 0).toNat 0 s
  respond p r.1.2.1 r.1.2.2 [BitVec.ofNat 20 r.1.1] r.2

/-- The owner of a claim command is the host or a cell (R390). -/
def ownerAdmitted (o : Nat) : Bool := decide (o = 0x23) || (decide (1 ≤ o) && decide (o ≤ 0x20))

/-- Claim commands in order until one is not OK: how many were OK, the status and detail (R98, R390). -/
def claimUntil (op : Nat) : List Word → Nat → State → (Nat × (Nat × Nat)) × State
  | [], n, s => ((n, (0, 0)), s)
  | v :: vs, n, s =>
    if !ownerAdmitted (fld v 0 6) then ((n, (0x0B, s.owner (fld v 15 3) (fld v 6 9))), s)
    else
      let s := fwWrite 0x21 0x70C00 (putFld v 18 2 op) s
      let r := vget 0 s.bus.result 1
      if fld r 16 4 = 0 then claimUntil op vs (n + 1) s else ((n, (0x09 + fld r 16 4, fld r 0 6)), s)

/-- CLAIM and RELEASE (R390). -/
def actClaims (op : Nat) (p : Packet) (s : State) : State :=
  let r := claimUntil op p.params 0 s
  respond p r.1.2.1 r.1.2.2 [BitVec.ofNat 20 r.1.1] r.2

/-- STATE (R382, R398): the reply is staged before PWR_ENTRY is written. -/
def actState (p : Packet) (s : State) : State :=
  let t := fld (p.par 0) 0 3
  let s := s.mapHostif fun h => { h with staged := some (replyWords p 0 (if t < 4 then t else 0) []) }
  fwWrite 0x21 0x70802 (BitVec.ofNat 20 t) (waitFor p .state s)

/-- PROT_QUERY (R393). -/
def actProtQuery : Packet → State → State :=
  replyReads ([0x72800, 0x72801, 0x72802, 0x72803, 0x72804, 0x72805] ++
    (List.range 16).flatMap fun i => [0x72810 + 8 * i, 0x72815 + 8 * i])

/-- BATTERY_QUERY (R404): an absent pack has no data. -/
def actBatteryQuery (p : Packet) (s : State) : State :=
  let present := s.policy.smart || decide (s.policy.packLast.packMv ≠ 0)
  match (if present then packView s.policy.packLast s else none) with
  | none => respond p 0 0 (List.replicate 7 0) s
  | some v =>
    let status := if s.policy.smart then (match s.policy.pack with | some r => r.status.toNat | none => 0) else 0
    respond p 0 0
      [BitVec.ofNat 20 (2 ^ 19 + s.policy.smart.toNat * 2 ^ 18 + v.cells % 8), BitVec.ofNat 20 s.policy.soc,
       BitVec.ofNat 20 v.mv, ofI v.ma, ofI (v.temp.getD 0), BitVec.ofNat 20 s.policy.phase, BitVec.ofNat 20 status] s

/-- IMAGE_INFO (R412). Its Sextant registers are dark while SXT is retained (R87). -/
def actImageInfo (p : Packet) (s : State) : State :=
  reach p 0x72010 false
    (fun s =>
      let r := readEach [0x70006, 0x70007, 0x70008, 0x72010, 0x72017] s
      let w := fun k : Nat => r.1.getD k 0
      respond p 0 0 [(windowRead 1 s).1, w 0, BitVec.ofNat 20 (s.rf 0x70003 17 2), w 1, w 2, w 3, w 4] r.2) s

/-- RESUME (R380). -/
def actResume (p : Packet) (s : State) : State :=
  if streamStopped p.stream s then
    let d := 0x40 + vget 0 s.host.stopSeq p.stream
    respond p 0 d [] (setExpect p.stream (p.seq + 1) (s.wb 0x71003 (10 + p.stream) false))
  else respond p 0 0 [] s

/-- Helm1 writes words at given addresses. -/
def writeEach (ws : List (Nat × Word)) (s : State) : State := ws.foldl (fun t x => fwWrite 0x21 x.1 x.2 t) s

/-- An effect runs; the answer says whether it set bit i of a register, the bit standing set where it stood before. What it does
not set counts as no set of this cycle (R7). -/
def setsFlag (a i : Nat) (eff : State → State) (s : State) : Bool × State :=
  let was := s.rb a i
  let s := eff (s.wf a i 1 0)
  (s.rb a i, if was then s.wf a i 1 1 else s)

/-- KEY_CONFIG (R407). -/
def actKeyConfig (p : Packet) (s : State) : State :=
  let r := setsFlag 0x71802 13
    (writeEach [(0x71800, p.par 0), (0x71801, p.par 1), (0x71820, p.par 2), (0x71821, p.par 3)]) s
  let lock := examLock s
  if p.params.length < 13 then respond p (if lock then 0x16 else if r.1 then 0x13 else 0) 0 [] r.2
  else
    let seq := (List.range 9).map fun k => (if k = 0 then 0x71823 else 0x71827 + k, p.par (4 + k))
    let x := setsFlag 0x71802 13 (writeEach seq) r.2
    respond p (if lock then 0x16 else if r.1 || x.1 then 0x13 else 0) 0 [] x.2

/-- A commit of the cell waits for its event and is not held (R185). -/
def cellBusy (c : Nat) (s : State) : Bool := s.rb (cellBase c + 1) 9 && !s.rb (cellBase c + 1) 8

/-- CELL_LOAD (R391). -/
def actCellLoad (p : Packet) (s : State) : State :=
  let c := fld (p.par 0) 7 5
  let w := fld (p.par 0) 0 7
  let n := p.params.length
  if 0x80 < w + (n - 1) then respond p 0x06 n [] s
  else
    reach p (cellBase c) true
      (fun s =>
        if cellBusy c s then respond p 0x10 c [] s
        else respond p 0 0 [] (fwWriteN 0x21 (cellBase c + 0x100 + w) (p.params.drop 1) s)) s

/-- A reply with CELL_STATUS as d0 (R392). -/
def cellReply (p : Packet) (c st det : Nat) (s : State) : State := respond p st det [cellStatus c s] s

/-- CELL_COMMIT (R392). -/
def actCellCommit (p : Packet) (s : State) : State :=
  let c := fld (p.par 0) 7 5
  reach p (cellBase c) true
    (fun s =>
      let s := fwWrite 0x21 (cellBase c + 0xB) (BitVec.ofNat 20 (fld (p.par 0) 0 2)) s
      if s.rb (cellBase c + 1) 8 then cellReply p c 0x12 c s
      else if !tst (p.par 0) 2 || !s.rb (cellBase c + 1) 9 then cellReply p c 0 0 s
      else waitFor p (.commit c none) s) s

/-- FIX (R394). -/
def actFix (p : Packet) (s : State) : State :=
  reach p 0x74000 true
    (fun s =>
      let n := fixAwaited s
      waitFor p (.fix n) (fwWrite 0x21 0x74000 (putBit (putBit (s.rd 0x74000) 0 false) 1 true) (fixAwait p.stream s))) s

/-- A stream still waits for a Fix that is to come; a reset of FABRIC ends that. -/
def fixComing (k : Nat) (s : State) : Bool := s.fix.awaits.any fun x => decide (x.1 = k)

/-- A Fix's number and time (R394, R395). -/
def fixHead (b : FixBank) : List Word := [bankRead b 0x300, bankRead b 0x302, bankRead b 0x303, bankRead b 0x304]

/-- FIX_READ (R395). -/
def actFixRead (p : Packet) (s : State) : State :=
  let i := (p.par 0).toNat
  let k := (p.par 1).toNat
  if k = 0 ∨ 125 < k ∨ 323 < i + k then respond p 0x06 (lenDetail k) [] s
  else
    reach p 0x74004 false
      (fun s =>
        let s := (fwRead 0x21 0x74004 s).2
        let b := if s.fixCur = 0 then s.fix.bank0 else s.fix.bank1
        let ws := (List.range (2 * k)).map fun j => bankRead b (2 * i + j)
        respond p 0 0 (fixHead b ++ ws) (fwWrite 0x21 0x74005 1 s)) s

/-- LOG_ARM (R396). -/
def actLogArm (p : Packet) (s : State) : State :=
  reach p 0x7E000 true
    (fun s =>
      let rest := if p.params.length = 12 then
          (0x7E018, p.par 2) :: (0x7E019, p.par 3) :: (List.range 8).map fun k => (0x7E010 + k, p.par (4 + k)) else []
      let r := setsFlag 0x7E001 17
        (fun s =>
          let s := fwWrite 0x21 0x7E01A (putBit (s.rd 0x7E01A) 19 false) s
          let s := fwWrite 0x21 0x7E000 (putBit (s.rd 0x7E000) 19 false) s
          writeEach (rest ++ [(0x7E000, p.par 0), (0x7E01A, p.par 1)]) s) s
      respond p (if r.1 then 0x13 else 0) 0 [r.2.rd 0x7E001] r.2) s

/-- LOG_READ (R397). -/
def actLogRead (p : Packet) (s : State) : State :=
  let a := (p.par 0).toNat
  let n := (p.par 1).toNat
  if a < 0x80000 then respond p 0x08 0 [] s
  else if n = 0 ∨ 250 < n then respond p 0x06 (lenDetail n) [] s
  else
    reach p 0x7E002 false
      (fun s =>
        let h := [s.rd 0x7E002, s.rd 0x7E003]
        let r := readUntil false n a s
        let t := [r.2.rd 0x7E002, r.2.rd 0x7E003]
        if r.1.2.1 = 0 then respond p 0 0 (h ++ t ++ r.1.1) r.2 else respond p r.1.2.1 r.1.2.2 [] r.2) s

/-- Rule r is written (R399). What the evaluations have seen of the conditions stays (R71). -/
def orderWrite (r : Nat) (cond act : Word) (s : State) : State :=
  fwWrite 0x21 (0x70831 + 2 * r) act (fwWrite 0x21 (0x70830 + 2 * r) cond s)

/-- STANDING_ORDER (R399). -/
def actStandingOrder (p : Packet) (s : State) : State :=
  let n := p.params.length / 2
  let s := if n = 0 then s
    else forAll 8 (fun r s =>
      if r < n then orderWrite r (p.par (2 * r)) (p.par (2 * r + 1)) s
      else fwWrite 0x21 (0x70831 + 2 * r) (putBit (s.rd (0x70831 + 2 * r)) 19 false) s) s
  let s := s.wb 0x70800 6 true
  respond p 0 0 [s.rd 0x70800] s

/-- VOTE_QUERY (R400). -/
def actVoteQuery : Packet → State → State :=
  replyReads ([0x70800, 0x70803] ++ (List.range 10).map (0x70810 + ·))

/-- POLICY_SET (R401): the pairs apply at the next policy tick. -/
def actPolicySet (p : Packet) (s : State) : State :=
  let pairs := (List.range (p.params.length / 2)).map fun k => (fld (p.par (2 * k)) 0 5, (p.par (2 * k + 1)).toNat)
  respond p 0 0 [] (s.mapPolicy fun x => { x with pendB := x.pendB ++ pairs.filter fun e => decide (e.1 ≤ 0x10) })

/-- POLICY_QUERY (R401). -/
def actPolicyQuery (p : Packet) (s : State) : State :=
  let x := s.policy
  respond p 0 0 ((x.bounds.toList ++ [x.dcClass, x.sources, x.phase, x.chargeMa]).map (BitVec.ofNat 20)) s

/-- The buffer of a ticket (R405): descriptor at +0, A at +8, B at +0x10, results from +0x18. -/
def ticketBuf (t : Nat) : Nat := 0x3A400 + 0x40 * t

/-- The request of a ticket: its word 0 plus 1, and 2^20 more for the bulk queue; 0 where the ticket is free. -/
def ticketReq (t : Nat) (s : State) : Nat := lookup zeroAt s.host.tickets t

/-- The lowest free ticket (R405). -/
def freeTicket (s : State) : Option Nat := (List.range 16).find? fun t => decide (ticketReq t s = 0)

/-- A completion word is that of ticket t: of the request whose descriptor lies in the ticket's buffer (R405). -/
def ticketWord (t : Nat) (w : Word × Word) : Bool := decide (w.2 = BitVec.ofNat 20 (ticketBuf t))

/-- The completion word of ticket t, where one has come, is the ticket's, and leaves its queue; the words of other requesters stay
there for them (R320, R406, log 72). -/
def drainTicket (t : Nat) (s : State) : State :=
  match (s.sxt.done0 ++ s.sxt.done1).find? (ticketWord t) with
  | some w =>
    (s.mapSxt fun x =>
      { x with done0 := x.done0.filter fun y => !ticketWord t y, done1 := x.done1.filter fun y => !ticketWord t y }).mapHostif
        fun h => { h with ticketDone := if ticketReq t s = 0 then h.ticketDone else update zeroAt h.ticketDone t w.1.toNat }
  | none => s

/-- Helm1 takes what has completed for its tickets. -/
def drainAll (s : State) : State := forAll 16 drainTicket s

/-- SXT_EVAL (R405). A submit that waits for power stalls Helm1, and the reply with it (R317). -/
def actSxtEval (p : Packet) (s : State) : State :=
  let s := drainAll s
  match freeTicket s with
  | none => respond p 0x14 2 [] s
  | some t =>
    let b := ticketBuf t
    let bulk := tst (p.par 1) 0
    let d := putFld (p.par 0) 0 4 t
    let n := p.params.length
    let a := if 7 ≤ n then (p.params.drop 2).take 5 else zeroWords
    let c := if 12 ≤ n then (p.params.drop 7).take 5 else zeroWords
    reach p b true
      (fun s =>
        let s := fwWriteN 0x21 b [d, BitVec.ofNat 20 (b + 8), BitVec.ofNat 20 (b + 0x10), BitVec.ofNat 20 (b + 0x18)] s
        let s := fwWriteN 0x21 (b + 0x10) c (fwWriteN 0x21 (b + 8) a s)
        let was := s.rd 0x72007
        let s := fwWrite 0x21 (if bulk then 0x72002 else 0x72001) (BitVec.ofNat 20 b) s
        if s.rd 0x72007 ≠ was then respond p 0x14 1 [] s
        else
          let s := s.mapHostif fun h =>
            { h with tickets := update zeroAt h.tickets t (1 + d.toNat + bulk.toNat * 2 ^ 20),
                     ticketDone := update zeroAt h.ticketDone t 0 }
          if submitHeld 0x21 (if bulk then 0x72002 else 0x72001) s then waitFor p (.eval t none) s else respond p 0 t [] s) s

/-- The state of a ticket's request (R406). -/
def ticketState (t : Nat) (s : State) : Nat :=
  let a := BitVec.ofNat 20 (ticketBuf t)
  if ticketReq t s = 0 then 0
  else if lookup zeroAt s.host.ticketDone t ≠ 0 then 4
  else if s.sxt.run.any fun o => decide (o.desc = a) then (if sxtStopped s then 3 else 2)
  else if s.sxt.part.any fun o => decide (o.desc = a) then 3
  else 1

/-- The words of a request's results (R315, R406). -/
def resultWords (d : Word) : Nat := if descOp d = 0x29 then 2 else 5 * resultCount d

/-- The reply of SXT_RESULT; one in state 4 frees the ticket (R406). -/
def ticketReply (p : Packet) (t : Nat) (s : State) : State :=
  let st := ticketState t s
  if st ≠ 4 then respond p 0 0 [BitVec.ofNat 20 st] s
  else
    let d := BitVec.ofNat 20 (ticketReq t s - 1)
    let r := readUntil false (resultWords d) (ticketBuf t + 0x18) s
    if r.1.2.1 ≠ 0 then respond p r.1.2.1 r.1.2.2 [] r.2
    else
      let w := BitVec.ofNat 20 (lookup zeroAt s.host.ticketDone t)
      respond p 0 0 (4#20 :: w :: r.1.1)
        (r.2.mapHostif fun h =>
          { h with tickets := update zeroAt h.tickets t 0, ticketDone := update zeroAt h.ticketDone t 0 })

/-- SXT_RESULT (R406). -/
def actSxtResult (p : Packet) (s : State) : State :=
  let t := fld (p.par 0) 0 4
  let s := drainAll s
  let st := ticketState t s
  if tst (p.par 0) 4 && decide (st ≠ 0) && decide (st ≠ 4) then waitFor p (.result t) s else ticketReply p t s

/-- LOCK (R408). -/
def actLock (p : Packet) (s : State) : State :=
  let ask := tst (p.par 0) 0
  let s := if ask then fwWrite 0x21 0x71822 2 s else s
  respond p (if ask && !armable s then 0x17 else 0) 0 [(windowRead 0x1B s).1, s.rd 0x71827] s

/-- The descriptor of a slot's module as read: of the one bound, or of one that is there and is not bound (R409, R417, R419). -/
def slotDesc (n : Nat) (s : State) : List Word :=
  match vget none s.tl.bound n with
  | some m => m.desc
  | none => vget [] s.tl.read n

/-- The word of a slot (R409). A module that is not bound is not powered, and has neither address nor version. -/
def slotWord (n : Nat) (s : State) : Word :=
  let pres := s.rb 0x71400 n
  match vget none s.tl.bound n with
  | some m => BitVec.ofNat 20 (pres.toNat * 2 ^ 19 + 2 ^ 18 + m.cls % 16 * 2 ^ 14 + m.addr % 64 * 256 + m.ver % 256)
  | none => BitVec.ofNat 20 (pres.toNat * 2 ^ 19 + fld ((slotDesc n s).getD 0 0) 12 4 * 2 ^ 14)

/-- MODULE_LIST (R409). -/
def actModuleList (p : Packet) (s : State) : State := respond p 0 0 ((List.range 8).map fun n => slotWord n s) s

/-- The identity of a slot's module as its descriptor gives it, 0 where none has been read (R409, R417). -/
def slotIdentity (n : Nat) (s : State) : List Word := [(slotDesc n s).getD 1 0, (slotDesc n s).getD 2 0]

/-- MODULE_QUERY (R409). -/
def actModuleQuery (p : Packet) (s : State) : State :=
  let n := fld (p.par 0) 0 3
  if s.rb 0x71400 n then
    respond p 0 0 (slotWord n s :: slotIdentity n s ++ (slotDesc n s).take 251) s
  else respond p 0x18 n [] s

/-- The identity of the module bound for cell c: of the lowest slot through which the cell drives a channel (R204). -/
def cellModule (c : Nat) (s : State) : List Word :=
  match (List.range 8).find? fun n => (vget none s.tl.bound n).isSome && drivesSlot n c s with
  | some n => slotIdentity n s
  | none => [0, 0]

/-- Learning of cell c is set in the staging bank, once a copy into it has ended (R184), and committed (R206). -/
def commitLearn (c : Nat) (learn : Bool) (s : State) : State :=
  let r := fwRead 0x21 (cellBase c + 0x130) s
  fwWrite 0x21 (cellBase c + 0xB) 1 (fwWrite 0x21 (cellBase c + 0x130) (putBit r.1 8 learn) r.2)

/-- The Almanac words of a cell's active bank, read in the live window (R90, R206): control, size, lead and offset. -/
def almWords (c : Nat) (s : State) : List Word × State :=
  readEach ([0x30, 0x31, 0x32, 0x36].map (cellBase c + 0x180 + ·)) s

/-- The size that a bank's word 0x31 gives; a reserved one acts as 0 (R194). -/
def bankSz (w : Word) : Nat := if fld w 4 4 < 10 then fld w 4 4 else 0

/-- A saved image (R204), from the bank's words and the bins as read. -/
def almImage (c : Nat) (bank bins : List Word) (s : State) : List Word :=
  let w := fun k : Nat => bank.getD k 0
  let w1 := (tst (w 0) 7).toNat * 2 ^ 18 + bankSz (w 1) * 2 ^ 14 + fld (w 2) 0 6 * 256
  let ws := [0xA1A01#20, BitVec.ofNat 20 w1, w 3, wordOf s.mt 0, wordOf s.mt 1, wordOf s.mt 2] ++ cellModule c s ++ bins
  ws ++ [BitVec.ofNat 20 (crc32 ws % 65536), BitVec.ofNat 20 (crc32 ws / 65536)]

/-- The reply of ALMANAC_SAVE from the image held (R410). -/
def imageReply (p : Packet) (ws : List Word) (s : State) : State :=
  respond p 0 0 (BitVec.ofNat 20 ws.length :: (ws.drop (p.par 1).toNat).take (p.par 2).toNat) s

/-- Learning is first committed off (R206 step 1), unless a commit stands in the way (R185). -/
def almBegin (p : Packet) (c : Nat) (w : Bool → WaitFor) (s : State) : State :=
  reach p (cellBase c) true
    (fun s =>
      if s.rb (cellBase c + 1) 8 then respond p 0x12 c [] s
      else if cellBusy c s then respond p 0x10 c [] s
      else
        let r := fwRead 0x21 (cellBase c + 0x1B0) s
        commitLearn c false (waitFor p (w (tst r.1 8)) r.2)) s

/-- ALMANAC_SAVE (R410). -/
def actAlmanacSave (p : Packet) (s : State) : State :=
  let c := fld (p.par 0) 0 5
  let k := (p.par 2).toNat
  if k = 0 ∨ 253 < k then respond p 0x06 (lenDetail k) [] s
  else
    match s.host.saveImg with
    | some (d, ws) => if d = c ∧ (p.par 1) ≠ 0 then imageReply p ws s else almBegin p c (fun l => .almSave c l none) s
    | none => almBegin p c (fun l => .almSave c l none) s

/-- The length of an image, once its word 1 stands (R411). -/
def imageLen (ws : List Word) : Nat := 2 ^ (fld (ws.getD 1 0) 14 4 + 6) + 10

/-- The first check of R411 that an image fails, against the words of the cell's active bank: status and detail. -/
def imageFails (c : Nat) (ws bank : List Word) (s : State) : Option (Nat × Nat) :=
  let w := fun k : Nat => bank.getD k 0
  let n := imageLen ws
  let crc := ws.getD (n - 2) 0
  let mod := (ws.drop 6).take 2
  if ws.getD 0 0 ≠ 0xA1A01#20 then some (0x19, 0)
  else if crc32 (ws.take (n - 2)) ≠ crc.toNat + 65536 * (ws.getD (n - 1) 0).toNat ∨ 65536 ≤ crc.toNat then some (0x1A, 0)
  else if fld (ws.getD 1 0) 18 2 ≠ (tst (w 0) 7).toNat then some (0x1B, 1)
  else if fld (ws.getD 1 0) 14 4 ≠ bankSz (w 1) then some (0x1B, 2)
  else if ws.getD 2 0 ≠ w 3 then some (0x1B, 3)
  else if mod ≠ [0, 0] ∧ mod ≠ cellModule c s then some (0x1C, 0)
  else none

/-- ALMANAC_LOAD (R411). -/
def actAlmanacLoad (p : Packet) (s : State) : State :=
  let c := fld (p.par 0) 0 5
  let o := (p.par 1).toNat
  let held := match s.host.loadImg with | some (d, ws) => if d = c then ws else [] | none => []
  let have_ := if o = 0 then [] else held
  if o ≠ have_.length then respond p 0x1D (have_.length % 4096) [] s
  else
    let ws := have_ ++ p.params.drop 2
    let s := s.mapHostif fun h => { h with loadImg := some (c, ws) }
    if ws.length < 2 ∨ ws.length < imageLen ws then respond p 0 0 [] s
    else
      let bank := if s.dom 2 then almWords c s else ([], s)
      let s := bank.2
      match imageFails c ws bank.1 s with
      | some x => respond p x.1 x.2 [] (s.mapHostif fun h => { h with loadImg := none })
      | none => almBegin p c (fun l => .almLoad c l none) s

/-- PD_STATUS (R402). -/
def actPdStatus (p : Packet) (s : State) : State :=
  let k := fld (p.par 0) 0 2
  let q := s.pdPort k
  let d0 := q.attached.toNat * 2 ^ 19 + q.source.toNat * 2 ^ 18 + q.dfp.toNat * 2 ^ 17 + q.epr.toNat * 2 ^ 16 +
    q.contract % 4 * 2 ^ 14 + q.cableEpr.toNat * 2 ^ 13
  let x := if q.attached then [q.mv, q.ma, q.mv * q.ma / 1000] else [0, 0, 0]
  respond p 0 0 (([d0] ++ x ++ [if q.source || decide (k = 2) then portPsrc k s else portIin k s]).map (BitVec.ofNat 20)) s

/-- The action of PD_REQUEST on a port that supports it (R403). -/
def pdAction (k act : Nat) (s : State) : State :=
  match act with
  | 0 => if (s.pdPort k).source then sourceCaps k (s.pdPort k).limited s else sinkRequest k s
  | 1 => prSwap k s
  | 2 => drSwap k s
  | 3 => vconnSwap k s
  | _ => hardReset k s

/-- PD_REQUEST (R403); accepted says how the partner ends the exchange. -/
def actPdRequest (accepted : Bool) (p : Packet) (s : State) : State :=
  let k := fld (p.par 0) 0 2
  let act := fld (p.par 1) 0 4
  if !(s.pdPort k).attached then respond p 0x15 2 [] s
  else if 4 < act ∨ (act = 1 ∧ k = 2) then respond p 0x15 3 [] s
  else if !(s.pdPort k).pdPartner || (!accepted && decide (act ≠ 4)) then respond p 0x15 1 [] s
  else respond p 0 0 [] (pdAction k act s)

/-- Step 2 of R206 for a save: the bins are read, the image is held, learning returns (R206, R410). -/
def saveTable (p : Packet) (c : Nat) (learn : Bool) (s : State) : State :=
  let b := s.activeBank c
  let bank := almWords c s
  let r := fwReadN 0x21 (binAddr c b 0 s) (almBins c b s) bank.2
  let ws := almImage c bank.1 r.1 r.2
  imageReply p ws (commitLearn c learn (r.2.mapHostif fun h => { h with saveImg := some (c, ws) }))

/-- Step 2 of R206 for a load: the bins are written, learning returns (R206, R411). -/
def loadTable (p : Packet) (c : Nat) (learn : Bool) (s : State) : State :=
  let b := s.activeBank c
  let ws := match s.host.loadImg with | some x => x.2 | none => []
  let s := fwWriteN 0x21 (binAddr c b 0 s) ((ws.drop 8).take (almBins c b s)) s
  respond p 0 0 [] (commitLearn c learn (s.mapHostif fun h => { h with loadImg := none }))

/-- A packet that waits for a commit of cell c goes on at the commit event, and is rejected at the reject event (R392, R410, R411).
A commit that a reset of FABRIC has ended comes to neither, and FABRIC is what was missing (R87, log 73). -/
def commitDone (p : Packet) (c : Nat) (out : Option Nat) (eff : State → State) (s : State) : State :=
  match out with
  | some 0 => eff (endWait p.stream s)
  | some k => cellReply p c 0x11 k (endWait p.stream s)
  | none => if s.dom 2 && s.rb (cellBase c + 1) 9 then s else respond p 0x07 2 [] (endWait p.stream s)

/-- A waiting packet ends once its outcome stands (R387, R392, R394, R406, R410, R411); the entry itself ends a STATE packet
(R382). -/
def finishWait (p : Packet) (w : WaitFor) (s : State) : State :=
  match w with
  | .state => s
  | .fix n =>
    match fixCame p.stream s with
    | some b => respond p 0 0 (fixHead b) (endWait p.stream (fixTaken p.stream s))
    | none => if s.dom 2 && fixComing p.stream s then s else respond p 0x07 2 [] (endWait p.stream s)
  | .staged => s
  | .commit c out => commitDone p c out (cellReply p c 0 0) s
  | .result t =>
    let s := drainAll s
    if ticketState t s = 0 ∨ ticketState t s = 4 then ticketReply p t (endWait p.stream s) else s
  | .almSave c learn out => commitDone p c out (saveTable p c learn) s
  | .almLoad c learn out => commitDone p c out (loadTable p c learn) s
  | .eval t out =>
    match out with
    | none => s
    | some false => respond p 0 t [] (endWait p.stream s)
    | some true => respond p 0x14 1 [] (endWait p.stream (s.mapHostif fun h => { h with tickets := update zeroAt h.tickets t 0 }))

/-- What a packet's row does for a stream: it ends the stream's waiting packet, or serves its oldest one. -/
def packetEffect (mine : Packet → Bool) (act : Packet → State → State) (st : Nat) (s : State) : State :=
  match waitOn st s with
  | some (p, w) => if mine p then finishWait p w s else s
  | none =>
    match firstTaken st s with
    | some p => if mine p && !packetBlocked p s then servePacket act p s else s
    | none => s

/-- A packet's row: Helm1 serves packets, and the packet has the row's opcode. -/
def packetRow (op : Nat) (act : Packet → State → State) (st : Stream) (s : State) : Result :=
  happens (helm1Serves s) (packetEffect (fun p => decide (p.op = op)) act st.1) s

/-- HELLO (R381). -/
def execHello (st : Stream) (s : State) : Result := packetRow 0x01 actHello st s

/-- READ (R389). -/
def execRead (st : Stream) (s : State) : Result := packetRow 0x02 actRead st s

/-- WRITE (R389). -/
def execWrite (st : Stream) (s : State) : Result := packetRow 0x03 actWrite st s

/-- CLAIM (R390). -/
def execClaim (st : Stream) (s : State) : Result := packetRow 0x04 (actClaims 1) st s

/-- RELEASE (R390). -/
def execRelease (st : Stream) (s : State) : Result := packetRow 0x05 (actClaims 2) st s

/-- STATE (R398). -/
def execState (st : Stream) (s : State) : Result := packetRow 0x06 actState st s

/-- PROT_QUERY (R393). -/
def execProtQuery (st : Stream) (s : State) : Result := packetRow 0x07 actProtQuery st s

/-- BATTERY_QUERY (R404). -/
def execBatteryQuery (st : Stream) (s : State) : Result := packetRow 0x08 actBatteryQuery st s

/-- IMAGE_INFO (R412). -/
def execImageInfo (st : Stream) (s : State) : Result := packetRow 0x09 actImageInfo st s

/-- RESUME (R380). -/
def execResume (st : Stream) (s : State) : Result := packetRow 0x0A actResume st s

/-- KEY_CONFIG (R407). -/
def execKeyConfig (st : Stream) (s : State) : Result := packetRow 0x0B actKeyConfig st s

/-- CELL_LOAD (R391). -/
def execCellLoad (st : Stream) (s : State) : Result := packetRow 0x10 actCellLoad st s

/-- CELL_COMMIT (R392). -/
def execCellCommit (st : Stream) (s : State) : Result := packetRow 0x11 actCellCommit st s

/-- FIX (R394). -/
def execFix (st : Stream) (s : State) : Result := packetRow 0x12 actFix st s

/-- FIX_READ (R395). -/
def execFixRead (st : Stream) (s : State) : Result := packetRow 0x13 actFixRead st s

/-- LOG_ARM (R396). -/
def execLogArm (st : Stream) (s : State) : Result := packetRow 0x14 actLogArm st s

/-- LOG_READ (R397). -/
def execLogRead (st : Stream) (s : State) : Result := packetRow 0x15 actLogRead st s

/-- STANDING_ORDER (R399). -/
def execStandingOrder (st : Stream) (s : State) : Result := packetRow 0x16 actStandingOrder st s

/-- VOTE_QUERY (R400). -/
def execVoteQuery (st : Stream) (s : State) : Result := packetRow 0x17 actVoteQuery st s

/-- POLICY_SET (R401). -/
def execPolicySet (st : Stream) (s : State) : Result := packetRow 0x18 actPolicySet st s

/-- POLICY_QUERY (R401). -/
def execPolicyQuery (st : Stream) (s : State) : Result := packetRow 0x19 actPolicyQuery st s

/-- SXT_EVAL (R405). -/
def execSxtEval (st : Stream) (s : State) : Result := packetRow 0x1A actSxtEval st s

/-- SXT_RESULT (R406). -/
def execSxtResult (st : Stream) (s : State) : Result := packetRow 0x1B actSxtResult st s

/-- LOCK_PACKET (R408). -/
def execLockPacket (st : Stream) (s : State) : Result := packetRow 0x1C actLock st s

/-- MODULE_LIST (R409). -/
def execModuleList (st : Stream) (s : State) : Result := packetRow 0x1D actModuleList st s

/-- MODULE_QUERY (R409). -/
def execModuleQuery (st : Stream) (s : State) : Result := packetRow 0x1E actModuleQuery st s

/-- ALMANAC_SAVE (R410). -/
def execAlmanacSave (st : Stream) (s : State) : Result := packetRow 0x1F actAlmanacSave st s

/-- ALMANAC_LOAD (R411). -/
def execAlmanacLoad (st : Stream) (s : State) : Result := packetRow 0x20 actAlmanacLoad st s

/-- PD_STATUS (R402). -/
def execPdStatus (st : Stream) (s : State) : Result := packetRow 0x21 actPdStatus st s

/-- PD_REQUEST (R403). -/
def execPdRequest (st : Stream) (accepted : Bool) (s : State) : Result := packetRow 0x22 (actPdRequest accepted) st s

/-- UNSUPPORTED_PACKET (R377): a packet whose opcode is undefined or not carried by its version. -/
def execUnsupportedPacket (st : Stream) (s : State) : Result :=
  happens (helm1Serves s) (packetEffect (fun p => !opCarried p.op p.ver) (fun _ s => s) st.1) s

end Sys2Proof.Machine
end

