-- ==== Sys2Proof/Machine/Flags.lean ====
section
/-! DEFINITION. The cell flags (R109, R133, R135) and the results that have rules of their own: shifts, NEG, compares,
division (R134 to R137). -/
namespace Sys2Proof.Machine

/-- Z and N of a result in a STATUS word (R133). -/
def zn (r : Word) (st : Word) : Word := putBit (putBit st 0 (decide (r = 0))) 1 (tst r 19)

/-- The flags of a + b (R133). -/
def addFlags (a b st : Word) : Word :=
  let i := a.toInt + b.toInt
  putBit (putBit (zn (a + b) st) 2 (decide (2 ^ 20 ≤ a.toNat + b.toNat))) 3 (decide (i < -524288) || decide (524287 < i))

/-- The flags of a - b (R133). -/
def subFlags (a b st : Word) : Word :=
  let i := a.toInt - b.toInt
  putBit (putBit (zn (a - b) st) 2 (decide (b.toNat ≤ a.toNat))) 3 (decide (i < -524288) || decide (524287 < i))

/-- The value of NEG (R135). -/
def negValue (cell : Bool) (x : Word) : Word := if cell && decide (x = 0x80000#20) then 0x7FFFF#20 else 0 - x

/-- The flags of NEG (R133, R135). -/
def negFlags (x st : Word) : Word := putBit (zn (negValue true x) st) 3 (decide (x = 0x80000#20))

/-- SHL (R134). -/
def shl (x : Word) (k : Nat) : Word := if k ≤ 19 then BitVec.ofNat 20 (x.toNat * 2 ^ k) else 0

/-- SHR (R134). -/
def shr (x : Word) (k : Nat) : Word := if k ≤ 19 then BitVec.ofNat 20 (x.toNat / 2 ^ k) else 0

/-- SAR (R134). -/
def sar (x : Word) (k : Nat) : Word :=
  if k ≤ 19 then ofI (x.toInt / 2 ^ k) else if tst x 19 then 0xFFFFF#20 else 0

/-- A register count of a shift (R134). -/
def shiftCount (c : Word) : Nat := fld c 0 5

/-- A condition as a word: 1 or 0 (R131). -/
def asWord (b : Bool) : Word := if b then 1 else 0

/-- The result of a division that does not trap (R137). -/
def divide (signed : Bool) (a b : Word) : DueResult :=
  if b = 0 then .quotient (if !signed then 0xFFFFF#20 else if tst a 19 then 0x80000#20 else 0x7FFFF#20) a true false
  else if !signed then .quotient (BitVec.ofNat 20 (a.toNat / b.toNat)) (BitVec.ofNat 20 (a.toNat % b.toNat)) false false
  else if a = 0x80000#20 ∧ b = 0xFFFFF#20 then .quotient 0x80000#20 0 false true
  else .quotient (ofI (Int.tdiv a.toInt b.toInt)) (ofI (Int.tmod a.toInt b.toInt)) false false

/-- A condition of the cell dialect holds in a STATUS word (R115). -/
def condHolds (cond : BitVec 3) (st : Word) : Bool :=
  match cond.toNat with
  | 0 => true
  | 1 => tst st 0
  | 2 => !tst st 0
  | 3 => tst st 1 != tst st 3
  | 4 => tst st 1 == tst st 3
  | 5 => tst st 2
  | 6 => !tst st 2
  | _ => tst st 4

end Sys2Proof.Machine
end

