-- ==== Sys2Proof/Machine/Operands.lean ====
section
/-! DEFINITION. What a Bearing instruction reads and writes: registers, pairs, special registers, addresses, loads and
posted stores (R101 to R118, R138). Processors 0 and 1 are the Helm cores, 2 + n the sequencer of cell n. -/
namespace Sys2Proof.Machine

/-- What an instruction comes to before its exceptions are taken. -/
inductive Issue where
  /-- It completes, and the next instruction follows. -/
  | next (s : State)
  /-- It completes with a new PC. -/
  | goto (pc : Word) (s : State)
  /-- It waits at its own address. -/
  | hold (r : RunCond) (s : State)
  /-- STACK (R111). -/
  | stack
  /-- A data access faults: its address, and whether it is BUSERR (R87). -/
  | access (a : Nat) (busErr : Bool)
  /-- TRAP n with a stacked PC (R119). -/
  | trap (n : Nat) (pc : Word) (s : State)
deriving DecidableEq, Repr

/-- A general register. -/
def State.g (s : State) (p : Nat) (i : BitVec 4) : Word := vget 0 (s.proc p).g i.toNat

/-- The PC. -/
def State.pcOf (s : State) (p : Nat) : Word := (s.proc p).pc

/-- The stack pointer, g15. -/
def State.sp (s : State) (p : Nat) : Word := s.g p 15

/-- s with the PC of a processor set. -/
def State.setPc (s : State) (p : Nat) (pc : Word) : State := s.modProc p fun k => { k with pc := pc }

/-- A value for g15 is below SPLIM (R111). -/
def belowLimit (p : Nat) (v : Word) (s : State) : Bool := decide (v.toNat < (s.proc p).splim.toNat)

/-- s with a general register set, untested. -/
def State.setG (s : State) (p : Nat) (i : BitVec 4) (v : Word) : State :=
  s.modProc p fun k => { k with g := vset k.g i.toNat v }

/-- A write of a general register: a write of g15 below SPLIM raises STACK instead (R111). -/
def putG (p : Nat) (i : BitVec 4) (v : Word) (k : State → Issue) (s : State) : Issue :=
  if i = 15 && belowLimit p v s then .stack else k (s.setG p i v)

/-- A write of the pair gi:gi+1, low word first (R102). -/
def putPair (p : Nat) (i : BitVec 4) (lo hi : Word) (k : State → Issue) (s : State) : Issue :=
  putG p i lo (putG p (i + 1) hi k) s

/-- STATUS of a cell takes flags (R132, R133); a Helm core has none. -/
def setFlags (p : Nat) (f : Word → Word) (s : State) : State :=
  if isCell p then s.modProc p fun k => { k with status := f k.status } else s

/-- The number of a pair register is even (R102). -/
def evenReg (i : BitVec 4) : Bool := decide (i.toNat % 2 = 0)

/-- Special register n exists in the dialect (R103). -/
def srReadable (p n : Nat) : Bool := decide (n ≤ 6) && (decide (n ≠ 5) || !isCell p)

/-- Special register n can be written (R103). -/
def srWritable (p n : Nat) : Bool := srReadable p n && decide (n ≠ 0) && decide (n ≠ 6)

/-- CORE_ID (R103). -/
def coreId (p : Nat) : Word := BitVec.ofNat 20 (if p < 2 then p else 0x10 + (p - 2))

/-- VBASE: its bits 6 to 0 read 0 (R104). -/
def State.vbaseOf (s : State) (p : Nat) : Word := (s.proc p).vbase &&& 0xFFF80#20

/-- A special register as MFS reads it (R103). -/
def srRead (p n : Nat) (s : State) : Word :=
  let k := s.proc p
  match n with
  | 0 => k.pc
  | 1 => k.mh
  | 2 => k.ml
  | 3 => k.status
  | 4 => k.splim
  | 5 => s.vbaseOf p
  | _ => coreId p

/-- A Helm STATUS as a write leaves it: ipl 9 to 15 act as 8, reserved bits are 0 (R108). -/
def helmStatus (v : Word) : Word :=
  let v := v &&& 0x03FF0#20
  if 8 < fld v 8 4 then putFld v 8 4 8 else v

/-- STATUS after MTS (R108, R109): sf and nmi of a Helm core are read-only. -/
def statusWrite (p : Nat) (old v : Word) : Word :=
  if isCell p then v &&& 0x0001F#20 else (helmStatus v &&& 0x00FF0#20) ||| (old &&& 0x03000#20)

/-- MH:ML as a 40-bit value. -/
def accOf (k : Proc) : BitVec 40 := BitVec.ofNat 40 (k.mh.toNat * 2 ^ 20 + k.ml.toNat)

/-- The writes to MH and ML of this cycle so far. -/
def accCyc (p : Nat) (s : State) : AccCyc :=
  (s.cyc.accs.find? fun x => decide (x.p = p)).getD { p := p, prev := accOf (s.proc p), hi := 0, lo := 0 }

/-- The instruction at place ord of program order writes MH, ML or both; of the writes of one cycle the latest in program
order stands (R106). -/
def accPut (p ord : Nat) (hi lo : Option Word) (s : State) : State :=
  let c := accCyc p s
  let h := hi.isSome && decide (c.hi ≤ ord)
  let l := lo.isSome && decide (c.lo ≤ ord)
  let s := s.modProc p fun k =>
    { k with mh := if h then hi.getD 0 else k.mh, ml := if l then lo.getD 0 else k.ml }
  s.mapCyc fun y =>
    { y with accs := { c with hi := if h then ord else c.hi, lo := if l then ord else c.lo } ::
        y.accs.filter fun x => decide (x.p ≠ p) }

/-- An instruction that writes MH or ML issues. -/
def nextOrd (p : Nat) (s : State) : State := s.modProc p fun k => { k with issued := k.issued + 1 }

/-- MTS to special register n (R103, R104). STATUS bits that hardware sets in the same cycle stay set (R110). -/
def srWrite (p n : Nat) (v : Word) (s : State) : State :=
  match n with
  | 1 => let t := nextOrd p s; accPut p (t.proc p).issued (some v) none t
  | 2 => let t := nextOrd p s; accPut p (t.proc p).issued none (some v) t
  | 3 =>
    let now := statusNow p s
    s.modProc p fun k => { k with status := statusWrite p k.status v ||| now }
  | 4 => s.modProc p fun k => { k with splim := v }
  | 5 => s.modProc p fun k => { k with vbase := v &&& 0xFFF80#20 }
  | _ => s

/-- imm16 of a second word (R112). -/
def imm16 (w : Word) : Word := BitVec.ofNat 20 (fld w 0 16)

/-- imm16 sign-extended. -/
def simm16 (w : Word) : Word := ofI (if tst w 15 then (fld w 0 16 : Int) - 65536 else (fld w 0 16 : Int))

/-- rt of a second word (R112). -/
def rtOf (w : Word) : BitVec 4 := BitVec.ofNat 4 (fld w 16 4)

/-- An indexed address (R117). -/
def indexed (p : Nat) (base : BitVec 4) (w : Word) (s : State) : Word :=
  s.g p base + BitVec.ofNat 20 ((s.g p (rtOf w)).toNat * 2 ^ fld w 0 2)

/-- A data access of a Helm core faults (R87); a sequencer's never does (R88). -/
def dataFault (p : Nat) (a : Word) (write : Bool) (s : State) : Option Bool :=
  if isCell p then none else if write then writeFails a.toNat s else s.accessFault a.toNat false

/-- A sequencer's access that its turret's arbiter alone grants: its own cell memory, and Almanac banks (R96, R165). -/
def turretOnly (p a : Nat) : Bool := isCell p && decide (0x40000 ≤ a) && decide (a < 0x70000)

/-- An access of a processor waits for its grant: its turret's arbiter serves the cell, or the device arbiter's rotation
reaches it once the positions before it have had their grants (R93, R96). -/
def accessTurn (p a : Nat) (s : State) : State := if turretOnly p a then turretServe (p - 2) s else busTurn p s

/-- A word read by a processor in its grant. -/
def readWord (p : Nat) (a : Word) (s : State) : Word × State :=
  let s := accessTurn p a.toNat s
  busRead (procReq p a.toNat s) a.toNat s

/-- A load of one word (R138). -/
def load (p : Nat) (a : Word) (k : Word → State → Issue) (s : State) : Issue :=
  match dataFault p a false s with
  | some b => .access a.toNat b
  | none => let r := readWord p a s; k r.1 r.2

/-- A load of a pair, low word first; neither word is read if either faults (R117, R123). -/
def loadPair (p : Nat) (a : Word) (k : Word → Word → State → Issue) (s : State) : Issue :=
  match dataFault p a false s, dataFault p (a + 1) false s with
  | some b, _ => .access a.toNat b
  | none, some b => .access (a + 1).toNat b
  | none, none => let x := readWord p a s; let y := readWord p (a + 1) x.2; k x.1 y.1 y.2

/-- A store that has been checked is posted (R138): performed by its grant, except where no device arbiter is passed. The second
of a pair waits for the first, since a requester has one access outstanding (R93). A
sequencer's store outside its reach or to a dark domain is recorded and discarded (R88, R166). -/
def post (p : Nat) (a v : Word) (s : State) : State :=
  match (if isCell p then reqFault (p - 2) a.toNat true s else none) with
  | some b => recordFault a.toNat (p - 2) b s
  | none =>
    let own := turretOnly p a.toNat && (s.proc p).posted.isEmpty
    let s := if own then busPut (p - 2) a.toNat v (turretServe (p - 2) s) else s
    s.modProc p fun k => { k with posted := k.posted ++ [{ addr := a, data := v, performed := own }] }

/-- A store of one word. -/
def store (p : Nat) (a v : Word) (k : State → Issue) (s : State) : Issue :=
  match dataFault p a true s with
  | some b => .access a.toNat b
  | none => k (post p a v s)

/-- A store of a pair, low word first; neither word is stored if either faults (R117, R123). -/
def storePair (p : Nat) (a lo hi : Word) (k : State → Issue) (s : State) : Issue :=
  match dataFault p a true s, dataFault p (a + 1) true s with
  | some b, _ => .access a.toNat b
  | none, some b => .access (a + 1).toNat b
  | none, none => k (post p (a + 1) hi (post p a lo s))

/-- A push: a pre-decrement store through g15 (R111, R139). -/
def push (p : Nat) (v : Word) (k : State → Issue) (s : State) : Issue :=
  let sp := s.sp p - 1
  if belowLimit p sp s then .stack
  else store p sp v (fun t => k (t.setG p 15 sp)) s

/-- A pop: a post-increment load through g15 (R111, R139). -/
def pop (p : Nat) (k : Word → State → Issue) (s : State) : Issue :=
  let sp := s.sp p + 1
  if belowLimit p sp s then .stack
  else load p (s.sp p) (fun v t => k v (t.setG p 15 sp)) s

end Sys2Proof.Machine
end

