-- ==== Sys2Proof/Machine/Except.lean ====
section
/-! DEFINITION. The Bearing exception model (R113 to R129): what keeps an instruction from issuing, fetch faults, entry to an
exception, STACK, lockup, a sequencer's halt, the ROM's NMI handler (R447), and the one runner of every instruction. -/
namespace Sys2Proof.Machine

/-- A Helm core enters lockup, and the other takes an NMI (R124). -/
def lockUp (h : Nat) (s : State) : State := raiseNmi (1 - h) (s.modProc h fun p => { p with run := .lockup })

/-- STATUS on entry to exception v; level is that of an IRQ (R120). -/
def entryStatus (v level : Nat) (st : Word) : Word :=
  if 32 ≤ v then putFld st 8 4 (level + 1)
  else if v = 1 then putBit (putBit st 12 true) 7 false
  else if v = 4 then putBit (putBit st 13 true) 7 false
  else putBit st 7 false

/-- An access of exception entry fails: the core enters lockup (R124). -/
def entryLock (h a : Nat) (k : Bool) (s : State) : State := lockUp h (recordFault a (procReq h a s) k s)

/-- A push of exception entry in its grant, untested against SPLIM (R120); the answer's second part is a lockup. -/
def entryPush (h : Nat) (v : Word) (s : State) : State × Bool :=
  let sp := s.sp h - 1
  match s.accessFault sp.toNat true with
  | some k => (entryLock h sp.toNat k s, true)
  | none =>
    let s := busTurn h s
    ((busWrite (procReq h sp.toNat s) sp.toNat v s).setG h 15 sp, false)

/-- Step 4 of R120: the vector is read and the handler follows. From NMI entry on, its first instruction is to come, and an NMI
that the read itself raises is a lockup (R91, R124). -/
def entryVector (h v : Nat) (s : State) : State × Bool :=
  let e := s.vbaseOf h + BitVec.ofNat 20 v
  match s.accessFault e.toNat false with
  | some k => (entryLock h e.toNat k s, true)
  | none =>
    let r := readWord h e (s.modProc h fun p => { p with nmiFirst := if v = 1 then some e else p.nmiFirst })
    if (r.2.proc h).run = .lockup then (r.2, true)
    else (r.2.modProc h fun p => { p with pc := r.1, nmiFirst := if v = 1 then some r.1 else p.nmiFirst }, false)

/-- Entry to exception v, step by step (R120); an access of it that faults is a lockup, before the steps that follow
(R124). -/
def enterOnce (h v level : Nat) (pc : Word) (s : State) : State × Bool :=
  let st := (s.proc h).status
  let a := entryPush h pc (s.modProc h fun p => { p with run := .running })
  if a.2 then a
  else
    let b := entryPush h st a.1
    if b.2 then b else entryVector h v (b.1.modProc h fun p => { p with status := entryStatus v level p.status })

/-- STACK is raised with a stacked PC (R124). -/
def raiseStack (h : Nat) (pc : Word) (s : State) : State :=
  if tst (s.proc h).status 13 then lockUp h s else (enterOnce h 4 0 pc s).1

/-- A Helm core takes exception v. Where SP - 2 is below SPLIM, STACK follows in its place (R120). -/
def takeException (h v level : Nat) (pc : Word) (s : State) : State :=
  if v = 4 then raiseStack h pc s
  else
    let low := belowLimit h (s.sp h - 2) s
    let r := enterOnce h v level pc s
    if low && !r.2 then raiseStack h (r.1.pcOf h) r.1 else r.1

/-- An NMI is to be taken at the core's next instruction boundary (R124, R125). -/
def nmiCandidate (h : Nat) (s : State) : Bool := (s.proc h).nmiPend && !tst (s.proc h).status 12

/-- The IRQ that the core would take (R125). -/
def irqCandidate (h : Nat) (s : State) : Option Nat := if tst (s.proc h).status 7 then irqChoice h s else none

/-- The processor is at an instruction boundary at which it may go on: a Helm core without an NMI to take, or the
sequencer of a powered cell that has not been asked to stop (R125, R164). -/
def mayIssue (p : Nat) (s : State) : Bool :=
  decide ((s.proc p).run = .running) &&
    (if isCell p then s.fabric && !(s.proc p).stopReq else !helmStopped s && !nmiCandidate p s)

/-- How the fetch of a word fails: a sequencer fetches from its own cell memory only (R87, R166). -/
def fetchFault (p : Nat) (a : Word) (s : State) : Option Bool :=
  if isCell p then (if 0x40000 ≤ a.toNat ∧ (a.toNat - 0x40000) / 0x800 = p - 2 then none else some true)
  else s.accessFault a.toNat false

/-- The word that a fetch of a returns: memory, or a register as it reads, without what a read of it would do (R87, log 26). -/
def fetchWord (a : Word) (s : State) : Word :=
  if a.toNat < 0x70000 ∨ 0x80000 ≤ a.toNat then s.rdMem a.toNat else plainRead a.toNat s

/-- The instruction at the PC has two words (R112). -/
def longAt (p : Nat) (s : State) : Bool := tst (fetchWord (s.pcOf p) s) 16

/-- The first word of the instruction at the PC whose fetch fails. -/
def fetchFails (p : Nat) (s : State) : Option (Word × Bool) :=
  let pc := s.pcOf p
  match fetchFault p pc s with
  | some k => some (pc, k)
  | none => if longAt p s then (fetchFault p (pc + 1) s).map fun k => (pc + 1, k) else none

/-- A Helm core's fetch needs the bus: it lies outside Helm SRAM and boot ROM (R138, log 13). -/
def fetchFar (a : Word) : Bool := decide (0x38000 ≤ a.toNat)

/-- A Helm core's fetch of a word waits for its grant, where it needs the bus (R93, R138). -/
def fetchGrant (h : Nat) (a : Word) (s : State) : State := if fetchFar a then busTurn h s else s

/-- The grants that the fetch of a Helm core's instruction waits for. -/
def fetchTurn (h : Nat) (s : State) : State :=
  let s := fetchGrant h (s.pcOf h) s
  if longAt h s then fetchGrant h (s.pcOf h + 1) s else s

/-- The words at the PC are those of an instruction (R112). -/
def coded (p : Nat) (ws : List Word) (s : State) : Bool :=
  (ws.zipIdx).all fun x => decide (fetchWord (s.pcOf p + BitVec.ofNat 20 x.2) s = x.1)

/-- The op of a first word is one that no instruction has in either dialect (R130 to R132). -/
def opUndefined (w : Word) : Bool :=
  if tst w 16 then
    let op := fld w 8 8
    decide (op = 0) || (decide (0x09 ≤ op) && decide (op ≤ 0x0F)) || (decide (0x19 ≤ op) && decide (op ≤ 0x1F)) ||
      (decide (0x26 ≤ op) && decide (op ≤ 0x2F)) || (decide (0x38 ≤ op) && decide (op ≤ 0x3F)) || decide (0x44 ≤ op)
  else decide (fld w 11 5 = 0) || decide (0x17 ≤ fld w 11 5)

/-- The words at the PC are those of the row, or of no row at all: those raise UNDEF, whichever row comes (R132, log 24). -/
def issuesHere (p : Nat) (ws : List Word) (s : State) : Bool := coded p ws s || opUndefined (fetchWord (s.pcOf p) s)

/-- The requester code of instruction fetches (R100, R384). -/
def fetchReq (p : Nat) : Nat := if isCell p then p - 2 else 0x20 + p

/-- A fetched word with wrong parity is recorded (R91). -/
def fetchParity (p : Nat) (s : State) : State :=
  let pc := s.pcOf p
  let t := parityChecked pc.toNat (fetchReq p) pc.toNat s
  if longAt p s then parityChecked (pc + 1).toNat (fetchReq p) (pc + 1).toNat t else t

/-- The instruction at pc has been executed: that of an NMI handler's first instruction ends R124's wait for it. -/
def executed (h : Nat) (pc : Word) (s : State) : State :=
  s.modProc h fun p => { p with nmiFirst := if p.nmiFirst = some pc then none else p.nmiFirst }

/-- What a Helm core comes to with an issue: completion, waiting, or the exception that the issue raises (R119). s is
the state before the instruction, which a fault leaves unchanged (R123). A division that traps has not issued: it is the
stacked PC. -/
def helmFinish (h len : Nat) (s : State) : Issue → State
  | .next t => executed h (s.pcOf h) (t.setPc h (s.pcOf h + BitVec.ofNat 20 len))
  | .goto pc t => executed h (s.pcOf h) (t.setPc h pc)
  | .hold r t => executed h (s.pcOf h) (t.modProc h fun p => { p with run := r })
  | .stack => takeException h 4 0 (s.pcOf h) s
  | .access a k => takeException h (if k then 5 else 3) 0 (s.pcOf h) (recordFault a (procReq h a s) k s)
  | .trap n pc t => takeException h (8 + n) 0 pc (if pc = s.pcOf h then t else executed h (s.pcOf h) t)

/-- The issue completes without an exception. -/
def plainIssue : Issue → Bool
  | .next _ => true
  | .goto _ _ => true
  | .hold _ _ => true
  | _ => false

/-- A Helm core's instruction after its fetch: UNDEF, an interrupt that comes first, or the instruction; an exception's
pushes wait for a posted store (R125, R138). -/
def helmDecide (h len : Nat) (legal : Bool) (body : State → Issue) (s : State) : State :=
  let free := (s.proc h).posted.isEmpty
  if !legal then (if free then takeException h 2 0 (s.pcOf h) s else s)
  else
    let i := body s
    if plainIssue i then (if (irqCandidate h s).isSome then s else helmFinish h len s i)
    else if free then helmFinish h len s i
    else s

/-- A Helm core's instruction, whose row has the words ws (R114, R125). -/
def helmIssue (h : Nat) (ws : List Word) (legal : Bool) (body : State → Issue) (s : State) : State :=
  let f := fetchTurn h s
  match fetchFails h f with
  | some x =>
    if (f.proc h).posted.isEmpty then
      takeException h (if x.2 then 5 else 3) 0 (f.pcOf h) (recordFault x.1.toNat (fetchReq h) x.2 f)
    else s
  | none =>
    if !issuesHere h ws f then s
    else
      let t := fetchParity h f
      if nmiCandidate h t || decide ((t.proc h).run = .lockup) then t
      else helmDecide h ws.length (legal && coded h ws f) body t

/-- What a sequencer comes to with an issue (R129). -/
def cellFinish (p len : Nat) (s : State) : Issue → State
  | .next t => t.setPc p (s.pcOf p + BitVec.ofNat 20 len)
  | .goto pc t => t.setPc p pc
  | .hold r t => t.modProc p fun k => { k with run := r }
  | .stack => seqFault (p - 2) 2 s
  | _ => seqFault (p - 2) 1 s

/-- A sequencer's instruction, whose row has the words ws: encoding checks come before the condition (R115, R116, R129). -/
def cellIssue (p : Nat) (ws : List Word) (cond : BitVec 3) (legal : Bool) (body : State → Issue) (s : State) : State :=
  match fetchFails p s with
  | some x => seqFault (p - 2) 1 (recordFault x.1.toNat (fetchReq p) x.2 s)
  | none =>
    if !issuesHere p ws s then s
    else
      let t := fetchParity p s
      if !(legal && coded p ws s) then seqFault (p - 2) 1 t
      else if condHolds cond (t.proc p).status then cellFinish p ws.length t (body t)
      else t.setPc p (t.pcOf p + BitVec.ofNat 20 ws.length)

/-- The fetch of the instruction at the PC needs the bus: a Helm core's outside Helm SRAM and boot ROM, a sequencer's outside
its own cell memory, which fails (R138, R166). -/
def fetchWaits (p : Nat) (s : State) : Bool :=
  if isCell p then (fetchFails p s).isSome else fetchFar (s.pcOf p) || (longAt p s && fetchFar (s.pcOf p + 1))

/-- An instruction of the words ws issues on a processor. A memory access waits for the store before it, and so does a fetch
that needs the bus (R138). -/
def runInstr (p : ProcId) (ws : List Word) (cond : BitVec 3) (legal mem : Bool) (body : State → Issue) (s : State) : Result :=
  let p := p.1
  let ok := legal && (isCell p || decide (cond = 0))
  let waits := (ok && mem) || fetchWaits p s
  happens (mayIssue p s && (!waits || (s.proc p).posted.isEmpty))
    (if isCell p then cellIssue p ws cond ok body else helmIssue p ws ok body) s

/-- The word of a short-form instruction (R112). -/
def shortWord (op : Nat) (f : ShortF) : Word :=
  BitVec.ofNat 20 (f.cond.toNat * 2 ^ 17 + op * 2 ^ 11 + f.rd.toNat * 2 ^ 7 + f.rs.toNat * 2 ^ 3 + f.sub.toNat)

/-- The first word of a long-form instruction (R112). -/
def longWord (op : Nat) (f : LongF) : Word :=
  BitVec.ofNat 20 (f.cond.toNat * 2 ^ 17 + 2 ^ 16 + op * 2 ^ 8 + f.rd.toNat * 2 ^ 4 + f.rs.toNat)

/-- A short-form instruction of op [15:11] (R130). -/
def runShort (op : Nat) (p : ProcId) (f : ShortF) (legal mem : Bool) (body : State → Issue) (s : State) : Result :=
  runInstr p [shortWord op f] f.cond legal mem body s

/-- A short-form instruction of a group: a sub value of another instruction of the group is not this one, and a value
from lim on is reserved (R130). -/
def runGroup (op : Nat) (p : ProcId) (f : ShortF) (sub lim : Nat) (legal mem : Bool) (body : State → Issue) (s : State) : Result :=
  if f.sub.toNat = sub then runInstr p [shortWord op f] f.cond legal mem body s
  else if lim ≤ f.sub.toNat then runInstr p [shortWord op f] f.cond false mem body s
  else .next s

/-- A long-form instruction of op [15:8] (R131). -/
def runLong (op : Nat) (p : ProcId) (f : LongF) (legal mem : Bool) (body : State → Issue) (s : State) : Result :=
  runInstr p [longWord op f, f.w2] f.cond legal mem body s

/-- The ROM's NMI handler serves this core (R447). -/
def romHandles (h : Nat) (s : State) : Bool := !s.boot.handover && decide (s.vbaseOf h = 0x30000#20)

/-- Helm0's ROM actions for the causes found, but for a reset (R447). -/
def romNmi0 (parity loss : Bool) (s : State) : State :=
  let s := if parity then clearBits 0x70C16 0x80000#20 s else s
  if loss then s.mapClk fun c => { c with relockRom := true } else s

/-- Helm1's ROM actions for the causes found (R447). -/
def romNmi1 (own parity loss mchk other : Bool) (s : State) : State :=
  let s := if own then postHost 5 s else if parity then postHost 1 s else s
  let s := if loss then postHost 2 s else s
  let s := if mchk then postHost 3 s else s
  let s := if other then postHost 4 s else s
  if own then s.modProc 1 fun p => { p with run := .romHalt, status := putBit p.status 7 false } else s

/-- The boot ROM's NMI handler acts on the causes it finds, with the stacked PC of its NMI, and saves the counters
(R447). -/
def romNmi (h : Nat) (pc : Word) (s : State) : State :=
  let p := s.proc h
  let parity := decide (s.rd 0x70C17 ≠ p.savedParity)
  let loss := decide (s.rd 0x70403 ≠ p.savedLoss)
  let mchk := decide (s.rd 0x72015 ≠ p.savedMchk)
  let own := parity && decide (s.rd 0x70C15 = pc)
  let other := !parity && !loss && !mchk
  if h = 0 then
    if own || other then sysResetWrite 0x20 0x5EA01#20 s else saveCounters 0 (romNmi0 parity loss s)
  else saveCounters 1 (romNmi1 own parity loss mchk other s)

/-- A Helm core is at a boundary, or in a wait that an exception ends (R125). -/
def takesExceptions (h : Nat) (s : State) : Bool :=
  !helmStopped s && (s.proc h).posted.isEmpty &&
    match (s.proc h).run with
    | .running => true
    | .waitEvent => true
    | .waitTime _ => true
    | _ => false

/-- The PC that an NMI or IRQ stacks: the instruction not executed, or the one after a wait (R119, R125). -/
def boundaryPc (h : Nat) (s : State) : Word :=
  if (s.proc h).run = .running then s.pcOf h else s.pcOf h + 1

/-- An NMI is taken (R119, R120); while ROM firmware runs its handler acts (R447). -/
def nmiEntry (h : Nat) (s : State) : State :=
  let pc := boundaryPc h s
  let rom := romHandles h s
  let s := takeException h 1 0 pc (s.modProc h fun p => { p with nmiPend := false })
  if rom && decide ((s.proc h).run = .running) then romNmi h pc s else s

/-- An IRQ is taken (R120, R125). -/
def irqEntry (h n : Nat) (s : State) : State := takeException h (32 + n) (s.rf (irqCfg h n) 0 3) (boundaryPc h s) s

/-- A fetch at the boundary fails: that exception comes before an IRQ (R125). A core that waits fetches nothing. -/
def fetchFirst (h : Nat) (s : State) : Bool := decide ((s.proc h).run = .running) && (fetchFails h s).isSome

/-- IRQ_ENTRY (R125). -/
def execIrqEntry (h : HelmId) (s : State) : Result :=
  match irqCandidate h.1 s with
  | some n => happens (takesExceptions h.1 s && !nmiCandidate h.1 s && !fetchFirst h.1 s) (irqEntry h.1 n) s
  | none => .next s

/-- NMI_ENTRY (R120, R124). -/
def execNmiEntry (h : HelmId) (s : State) : Result :=
  happens (takesExceptions h.1 s && nmiCandidate h.1 s) (nmiEntry h.1) s

/-- The second store of a pair follows the first: one that passes no device arbiter is performed at once (R93, R138). -/
def nextPosted (p : Nat) (s : State) : State :=
  match (s.proc p).posted with
  | x :: r =>
    if turretOnly p x.addr.toNat && !x.performed then
      (busPut (p - 2) x.addr.toNat x.data (turretServe (p - 2) s)).modProc p fun k =>
        { k with posted := { x with performed := true } :: r }
    else s
  | [] => s

/-- POSTED_STORE_COMPLETE: the oldest posted store, performed in its grant, completes (R138); a submit that is held for power
has still to be carried out (R317). -/
def execPostedStoreComplete (p : ProcId) (s : State) : Result :=
  match (s.proc p.1).posted with
  | x :: r =>
    happens (x.performed && !submitHeld (procReq p.1 x.addr.toNat s) x.addr.toNat s)
      (fun s => nextPosted p.1 (s.modProc p.1 fun k => { k with posted := r })) s
  | [] => .next s

end Sys2Proof.Machine
end

