-- ==== Sys2Proof/Machine/Alu.lean ====
section
/-! DEFINITION. Bearing arithmetic, logic, shifts, compares, conditions, multiplies and divides (R130 to R137). -/
namespace Sys2Proof.Machine

/-- A result written to rd, and then the cell flags (R130, R133). -/
def aluResult (p : Nat) (rd : BitVec 4) (v : Word) (f : Word → Word) (s : State) : Issue :=
  putG p rd v (fun t => .next (setFlags p f t)) s

/-- An operation on two words: its result and the flags it leaves. -/
structure AluOp where
  value : Word → Word → Word
  flags : Word → Word → Word → Word

/-- ADD. -/
def aluAdd : AluOp := { value := fun a b => a + b, flags := addFlags }
/-- SUB. -/
def aluSub : AluOp := { value := fun a b => a - b, flags := subFlags }
/-- AND. -/
def aluAnd : AluOp := { value := fun a b => a &&& b, flags := fun a b => zn (a &&& b) }
/-- OR. -/
def aluOr : AluOp := { value := fun a b => a ||| b, flags := fun a b => zn (a ||| b) }
/-- XOR. -/
def aluXor : AluOp := { value := fun a b => a ^^^ b, flags := fun a b => zn (a ^^^ b) }
/-- SHL by a register count (R134). -/
def aluShl : AluOp := { value := fun a b => shl a (shiftCount b), flags := fun a b => zn (shl a (shiftCount b)) }
/-- SHR by a register count (R134). -/
def aluShr : AluOp := { value := fun a b => shr a (shiftCount b), flags := fun a b => zn (shr a (shiftCount b)) }
/-- SAR by a register count (R134). -/
def aluSar : AluOp := { value := fun a b => sar a (shiftCount b), flags := fun a b => zn (sar a (shiftCount b)) }
/-- A condition as 1 or 0; flags stay (R131, R133). -/
def aluCond (c : Word → Word → Bool) : AluOp := { value := fun a b => asWord (c a b), flags := fun _ _ st => st }

/-- rd takes the operation on two words. -/
def aluBody (op : AluOp) (p : Nat) (rd : BitVec 4) (a b : Word) (s : State) : Issue :=
  aluResult p rd (op.value a b) (op.flags a b) s

/-- A short-form operation on rd and rs. -/
def aluShort (code : Nat) (op : AluOp) (p : ProcId) (f : ShortF) (s : State) : Result :=
  runShort code p f (decide (f.sub = 0)) false (fun t => aluBody op p.1 f.rd (t.g p.1 f.rd) (t.g p.1 f.rs) t) s

/-- A short-form operation on rd and imm3. -/
def aluImm3 (code : Nat) (op : AluOp) (p : ProcId) (f : ShortF) (s : State) : Result :=
  runShort code p f (decide (f.rs = 0)) false
    (fun t => aluBody op p.1 f.rd (t.g p.1 f.rd) (BitVec.ofNat 20 f.sub.toNat) t) s

/-- A short-form shift of rd by rs. -/
def aluShift (code : Nat) (op : AluOp) (sub : Nat) (p : ProcId) (f : ShortF) (s : State) : Result :=
  runGroup code p f sub 3 true false (fun t => aluBody op p.1 f.rd (t.g p.1 f.rd) (t.g p.1 f.rs) t) s

/-- A three-register operation (R131). -/
def alu3 (code : Nat) (op : AluOp) (p : ProcId) (f : LongF) (s : State) : Result :=
  runLong code p f (decide (fld f.w2 0 16 = 0)) false
    (fun t => aluBody op p.1 f.rd (t.g p.1 f.rs) (t.g p.1 (rtOf f.w2)) t) s

/-- An operation on rs and an immediate (R131). -/
def aluImm (code : Nat) (op : AluOp) (imm : Word → Word) (p : ProcId) (f : LongF) (s : State) : Result :=
  runLong code p f (decide (rtOf f.w2 = 0)) false (fun t => aluBody op p.1 f.rd (t.g p.1 f.rs) (imm f.w2) t) s

/-- A shift of rs by an immediate count of 0 to 19 (R131, R134). -/
def aluShiftImm (code : Nat) (op : AluOp) (p : ProcId) (f : LongF) (s : State) : Result :=
  runLong code p f (decide (rtOf f.w2 = 0) && decide (fld f.w2 0 16 ≤ 19)) false
    (fun t => aluBody op p.1 f.rd (t.g p.1 f.rs) (imm16 f.w2) t) s

/-- A result that issues, with its place in program order (R105, R106). -/
def issueDue (p : Nat) (d : DueResult) (s : State) : State :=
  s.modProc p fun k => { k with due := k.due ++ [(k.issued + 1, d)], issued := k.issued + 1 }

/-- A product that issues: it is written at its due cycle (R136). -/
def mulBody (due : Word → Word → DueResult) (p : Nat) (f : ShortF) (s : State) : Issue :=
  .next (issueDue p (due (s.g p f.rd) (s.g p f.rs)) s)

/-- A division that issues, or the division-by-zero trap with the division as its stacked PC (R119, R137). -/
def divBody (signed : Bool) (p : Nat) (f : ShortF) (s : State) : Issue :=
  if s.g p f.rs = 0 ∧ tst (s.proc p).status 6 = true then
    .trap 15 (s.pcOf p) (s.modProc p fun k => { k with status := putBit k.status 5 true })
  else .next (issueDue p (divide signed (s.g p f.rd) (s.g p f.rs)) s)

/-- A due result is a multiply's. -/
def isMul : DueResult → Bool
  | .quotient _ _ _ _ => false
  | _ => true

/-- The oldest due result of a kind leaves those that are due. -/
def dropDue (kind : DueResult → Bool) : List (Nat × DueResult) → List (Nat × DueResult)
  | [] => []
  | d :: r => if kind d.2 then r else d :: dropDue kind r

/-- A product, or a sum that accumulates onto MH:ML as it was before this cycle, is written (R136). -/
def putProduct (p ord : Nat) (v : BitVec 40) (s : State) : State :=
  accPut p ord (some (wordOf v.toNat 1)) (some (wordOf v.toNat 0)) s

/-- A due result is written (R105, R106, R136, R137). -/
def writeDue (p ord : Nat) (d : DueResult) (s : State) : State :=
  match d with
  | .product v => putProduct p ord v s
  | .accumulate v => putProduct p ord ((accCyc p s).prev + v) s
  | .quotient q r dz ovf => statusSet p (putBit (putBit 0 5 dz) 4 ovf) (accPut p ord (some r) (some q) s)

/-- The oldest due result of a kind is written. -/
def dueWrite (kind : DueResult → Bool) (p : Nat) (s : State) : State :=
  match (s.proc p).due.find? fun d => kind d.2 with
  | some d => writeDue p d.1 d.2 (s.modProc p fun k => { k with due := dropDue kind k.due })
  | none => s

/-- MOV (R130). -/
def execMov (p : ProcId) (f : ShortF) (s : State) : Result :=
  runShort 0x01 p f (decide (f.sub = 0)) false (fun t => putG p.1 f.rd (t.g p.1 f.rs) .next t) s

/-- ADD (R130). -/
def execAdd (p : ProcId) (f : ShortF) (s : State) : Result := aluShort 0x02 aluAdd p f s

/-- SUB (R130). -/
def execSub (p : ProcId) (f : ShortF) (s : State) : Result := aluShort 0x03 aluSub p f s

/-- AND (R130). -/
def execAnd (p : ProcId) (f : ShortF) (s : State) : Result := aluShort 0x04 aluAnd p f s

/-- OR (R130). -/
def execOr (p : ProcId) (f : ShortF) (s : State) : Result := aluShort 0x05 aluOr p f s

/-- XOR (R130). -/
def execXor (p : ProcId) (f : ShortF) (s : State) : Result := aluShort 0x06 aluXor p f s

/-- NOT (R130). -/
def execNot (p : ProcId) (f : ShortF) (s : State) : Result :=
  runShort 0x07 p f (decide (f.sub = 0)) false
    (fun t => aluResult p.1 f.rd (~~~ t.g p.1 f.rs) (zn (~~~ t.g p.1 f.rs)) t) s

/-- NEG (R135). -/
def execNeg (p : ProcId) (f : ShortF) (s : State) : Result :=
  runShort 0x08 p f (decide (f.sub = 0)) false
    (fun t => aluResult p.1 f.rd (negValue (isCell p.1) (t.g p.1 f.rs)) (negFlags (t.g p.1 f.rs)) t) s

/-- ADDI (R130). -/
def execAddi (p : ProcId) (f : ShortF) (s : State) : Result := aluImm3 0x09 aluAdd p f s

/-- SUBI (R130). -/
def execSubi (p : ProcId) (f : ShortF) (s : State) : Result := aluImm3 0x0A aluSub p f s

/-- SHL (R134). -/
def execShl (p : ProcId) (f : ShortF) (s : State) : Result := aluShift 0x0B aluShl 0 p f s

/-- SHR (R134). -/
def execShr (p : ProcId) (f : ShortF) (s : State) : Result := aluShift 0x0B aluShr 1 p f s

/-- SAR (R134). -/
def execSar (p : ProcId) (f : ShortF) (s : State) : Result := aluShift 0x0B aluSar 2 p f s

/-- CMP: the cell dialect's alone (R130, R132). -/
def execCmp (p : ProcId) (f : ShortF) (s : State) : Result :=
  runShort 0x0C p f (isCell p.1 && decide (f.sub = 0)) false
    (fun t => .next (setFlags p.1 (subFlags (t.g p.1 f.rd) (t.g p.1 f.rs)) t)) s

/-- TST: the cell dialect's alone (R130, R132). -/
def execTst (p : ProcId) (f : ShortF) (s : State) : Result :=
  runShort 0x0D p f (isCell p.1 && decide (f.sub = 0)) false
    (fun t => .next (setFlags p.1 (zn (t.g p.1 f.rd &&& t.g p.1 f.rs)) t)) s

/-- MUL (R136). -/
def execMul (p : ProcId) (f : ShortF) (s : State) : Result :=
  runGroup 0x12 p f 0 3 true false (mulBody (fun a b => .product (BitVec.ofInt 40 (a.toInt * b.toInt))) p.1 f) s

/-- MULU (R136). -/
def execMulu (p : ProcId) (f : ShortF) (s : State) : Result :=
  runGroup 0x12 p f 1 3 true false (mulBody (fun a b => .product (BitVec.ofNat 40 (a.toNat * b.toNat))) p.1 f) s

/-- MAC (R136). -/
def execMac (p : ProcId) (f : ShortF) (s : State) : Result :=
  runGroup 0x12 p f 2 3 true false (mulBody (fun a b => .accumulate (BitVec.ofInt 40 (a.toInt * b.toInt))) p.1 f) s

/-- DIV: the Helm dialect's alone (R107, R137). -/
def execDiv (p : ProcId) (f : ShortF) (s : State) : Result :=
  runGroup 0x13 p f 0 2 (!isCell p.1) false (divBody true p.1 f) s

/-- DIVU: the Helm dialect's alone (R107, R137). -/
def execDivu (p : ProcId) (f : ShortF) (s : State) : Result :=
  runGroup 0x13 p f 1 2 (!isCell p.1) false (divBody false p.1 f) s

/-- ADD of three registers (R131). -/
def execAdd3 (p : ProcId) (f : LongF) (s : State) : Result := alu3 0x01 aluAdd p f s

/-- SUB of three registers (R131). -/
def execSub3 (p : ProcId) (f : LongF) (s : State) : Result := alu3 0x02 aluSub p f s

/-- AND of three registers (R131). -/
def execAnd3 (p : ProcId) (f : LongF) (s : State) : Result := alu3 0x03 aluAnd p f s

/-- OR of three registers (R131). -/
def execOr3 (p : ProcId) (f : LongF) (s : State) : Result := alu3 0x04 aluOr p f s

/-- XOR of three registers (R131). -/
def execXor3 (p : ProcId) (f : LongF) (s : State) : Result := alu3 0x05 aluXor p f s

/-- SHL of three registers (R131, R134). -/
def execShl3 (p : ProcId) (f : LongF) (s : State) : Result := alu3 0x06 aluShl p f s

/-- SHR of three registers (R131, R134). -/
def execShr3 (p : ProcId) (f : LongF) (s : State) : Result := alu3 0x07 aluShr p f s

/-- SAR of three registers (R131, R134). -/
def execSar3 (p : ProcId) (f : LongF) (s : State) : Result := alu3 0x08 aluSar p f s

/-- ADDI with a sign-extended immediate (R131). -/
def execAddi16 (p : ProcId) (f : LongF) (s : State) : Result := aluImm 0x10 aluAdd simm16 p f s

/-- ANDI (R131). -/
def execAndi (p : ProcId) (f : LongF) (s : State) : Result := aluImm 0x11 aluAnd imm16 p f s

/-- ORI (R131). -/
def execOri (p : ProcId) (f : LongF) (s : State) : Result := aluImm 0x12 aluOr imm16 p f s

/-- XORI (R131). -/
def execXori (p : ProcId) (f : LongF) (s : State) : Result := aluImm 0x13 aluXor imm16 p f s

/-- SHLI (R131, R134). -/
def execShli (p : ProcId) (f : LongF) (s : State) : Result := aluShiftImm 0x14 aluShl p f s

/-- SHRI (R131, R134). -/
def execShri (p : ProcId) (f : LongF) (s : State) : Result := aluShiftImm 0x15 aluShr p f s

/-- SARI (R131, R134). -/
def execSari (p : ProcId) (f : LongF) (s : State) : Result := aluShiftImm 0x16 aluSar p f s

/-- CMPI: the cell dialect's alone (R131, R132). -/
def execCmpi (p : ProcId) (f : LongF) (s : State) : Result :=
  runLong 0x17 p f (isCell p.1 && decide (f.rs = 0) && decide (rtOf f.w2 = 0)) false
    (fun t => .next (setFlags p.1 (subFlags (t.g p.1 f.rd) (simm16 f.w2)) t)) s

/-- LDI (R131). -/
def execLdi (p : ProcId) (f : LongF) (s : State) : Result :=
  runLong 0x18 p f (decide (f.rs = 0)) false (putG p.1 f.rd f.w2 .next) s

/-- SEQ (R131). -/
def execSeq (p : ProcId) (f : LongF) (s : State) : Result :=
  alu3 0x20 (aluCond fun a b => decide (a = b)) p f s

/-- SNE (R131). -/
def execSne (p : ProcId) (f : LongF) (s : State) : Result :=
  alu3 0x21 (aluCond fun a b => decide (a ≠ b)) p f s

/-- SLT (R131). -/
def execSlt (p : ProcId) (f : LongF) (s : State) : Result :=
  alu3 0x22 (aluCond fun a b => decide (a.toInt < b.toInt)) p f s

/-- SLTU (R131). -/
def execSltu (p : ProcId) (f : LongF) (s : State) : Result :=
  alu3 0x23 (aluCond fun a b => decide (a.toNat < b.toNat)) p f s

/-- CARRY (R131). -/
def execCarry (p : ProcId) (f : LongF) (s : State) : Result :=
  alu3 0x24 (aluCond fun a b => decide (2 ^ 20 ≤ a.toNat + b.toNat)) p f s

/-- SNEGOV (R131, R135). -/
def execSnegov (p : ProcId) (f : LongF) (s : State) : Result :=
  runLong 0x25 p f (decide (f.w2 = 0)) false (fun t => putG p.1 f.rd (asWord (decide (t.g p.1 f.rs = 0x80000#20))) .next t) s

/-- MULTIPLY_RESULT_WRITE: a product is due (R105, R136). -/
def execMultiplyResultWrite (p : ProcId) (s : State) : Result := .next (dueWrite isMul p.1 s)

/-- DIVIDE_RESULT_WRITE: a quotient is due, with dz or ovf (R105, R137). -/
def execDivideResultWrite (p : ProcId) (s : State) : Result := .next (dueWrite (fun d => !isMul d) p.1 s)

end Sys2Proof.Machine
end

