-- ==== Sys2Proof/Machine/LoadStore.lean ====
section
/-! DEFINITION. Bearing loads and stores (R117, R118, R123, R130, R131, R138). -/
namespace Sys2Proof.Machine

/-- A load of rd from an address. -/
def loadBody (p : Nat) (rd : BitVec 4) (a : Word) (s : State) : Issue := load p a (fun v => putG p rd v .next) s

/-- A load of the pair rd:rd+1 from an address. -/
def loadPairBody (p : Nat) (rd : BitVec 4) (a : Word) (s : State) : Issue :=
  loadPair p a (fun lo hi => putPair p rd lo hi .next) s

/-- A store of the pair rd:rd+1 at an address. -/
def storePairBody (p : Nat) (rd : BitVec 4) (a : Word) (s : State) : Issue :=
  storePair p a (s.g p rd) (s.g p (rd + 1)) .next s

/-- The words that a base-update form moves; sub 1 and 3 are pairs (R117). -/
def updWords (f : ShortF) : Nat := if f.sub.toNat % 2 = 1 then 2 else 1

/-- The address of a base-update form and its base after it (R117). -/
def updAddr (p : Nat) (f : ShortF) (s : State) : Word × Word :=
  let g := s.g p f.rs
  let n := BitVec.ofNat 20 (updWords f)
  if f.sub.toNat < 2 then (g, g + n) else (g - n, g - n)

/-- The encoding of a base-update form is defined (R102, R117). -/
def updLegal (f : ShortF) : Bool := decide (f.sub.toNat < 4) && (decide (updWords f = 1) || evenReg f.rd)

/-- The load's destination is its base: the update is lost (R118). -/
def updLost (f : ShortF) : Bool := decide (f.rd = f.rs) || (decide (updWords f = 2) && decide (f.rd + 1 = f.rs))

/-- A load with base update. -/
def loadUpdate (p : Nat) (f : ShortF) (s : State) : Issue :=
  let x := updAddr p f s
  let go := if updWords f = 2 then loadPairBody p f.rd x.1 else loadBody p f.rd x.1
  if updLost f then go s else putG p f.rs x.2 go s

/-- A store with base update; its data are read before the update (R118). -/
def storeUpdate (p : Nat) (f : ShortF) (s : State) : Issue :=
  let x := updAddr p f s
  let lo := s.g p f.rd
  let hi := s.g p (f.rd + 1)
  putG p f.rs x.2 (if updWords f = 2 then storePair p x.1 lo hi .next else store p x.1 lo .next) s

/-- LD with a displacement of 0 to 7 (R117, R138). -/
def execLd (p : ProcId) (f : ShortF) (s : State) : Result :=
  runShort 0x0E p f true true (fun t => loadBody p.1 f.rd (t.g p.1 f.rs + BitVec.ofNat 20 f.sub.toNat) t) s

/-- ST with a displacement of 0 to 7 (R117, R138). -/
def execSt (p : ProcId) (f : ShortF) (s : State) : Result :=
  runShort 0x0F p f true true (fun t => store p.1 (t.g p.1 f.rs + BitVec.ofNat 20 f.sub.toNat) (t.g p.1 f.rd) .next t) s

/-- LD and LDP with base update (R117, R118). -/
def execLdUpdate (p : ProcId) (f : ShortF) (s : State) : Result := runShort 0x10 p f (updLegal f) true (loadUpdate p.1 f) s

/-- ST and STP with base update (R117, R118). -/
def execStUpdate (p : ProcId) (f : ShortF) (s : State) : Result := runShort 0x11 p f (updLegal f) true (storeUpdate p.1 f) s

/-- LD with a 20-bit displacement (R131). -/
def execLd20 (p : ProcId) (f : LongF) (s : State) : Result :=
  runLong 0x30 p f true true (fun t => loadBody p.1 f.rd (t.g p.1 f.rs + f.w2) t) s

/-- ST with a 20-bit displacement (R131). -/
def execSt20 (p : ProcId) (f : LongF) (s : State) : Result :=
  runLong 0x31 p f true true (fun t => store p.1 (t.g p.1 f.rs + f.w2) (t.g p.1 f.rd) .next t) s

/-- LDP with a 20-bit displacement (R102, R131). -/
def execLdp (p : ProcId) (f : LongF) (s : State) : Result :=
  runLong 0x32 p f (evenReg f.rd) true (fun t => loadPairBody p.1 f.rd (t.g p.1 f.rs + f.w2) t) s

/-- STP with a 20-bit displacement (R102, R131). -/
def execStp (p : ProcId) (f : LongF) (s : State) : Result :=
  runLong 0x33 p f (evenReg f.rd) true (fun t => storePairBody p.1 f.rd (t.g p.1 f.rs + f.w2) t) s

/-- imm16 of an indexed form holds a scale and nothing else (R117). -/
def scaleOnly (f : LongF) : Bool := decide (fld f.w2 0 16 < 4)

/-- LDX (R117, R131). -/
def execLdx (p : ProcId) (f : LongF) (s : State) : Result :=
  runLong 0x34 p f (scaleOnly f) true (fun t => loadBody p.1 f.rd (indexed p.1 f.rs f.w2 t) t) s

/-- STX (R117, R131). -/
def execStx (p : ProcId) (f : LongF) (s : State) : Result :=
  runLong 0x35 p f (scaleOnly f) true (fun t => store p.1 (indexed p.1 f.rs f.w2 t) (t.g p.1 f.rd) .next t) s

/-- LDPX (R102, R117, R131). -/
def execLdpx (p : ProcId) (f : LongF) (s : State) : Result :=
  runLong 0x36 p f (scaleOnly f && evenReg f.rd) true (fun t => loadPairBody p.1 f.rd (indexed p.1 f.rs f.w2 t) t) s

/-- STPX (R102, R117, R131). -/
def execStpx (p : ProcId) (f : LongF) (s : State) : Result :=
  runLong 0x37 p f (scaleOnly f && evenReg f.rd) true (fun t => storePairBody p.1 f.rd (indexed p.1 f.rs f.w2 t) t) s

end Sys2Proof.Machine
end

