-- ==== Sys2Proof/Machine/Control.lean ====
section
/-! DEFINITION. Bearing control transfer, special registers, events, waits and traps (R103, R122, R139 to R142). -/
namespace Sys2Proof.Machine

/-- The cells that an SEV pair names (R141). -/
def sevCells (lo hi : Word) : List Nat := (List.range 32).filter fun c => if c < 20 then tst lo c else tst hi (c - 20)

/-- An SEV reaches its targets (R141, R161): cells while their fabric works, Helm cores' event latches. -/
def sendEvents (lo hi : Word) (s : State) : State :=
  let s := if s.fabric then (sevCells lo hi).foldl (fun t c => cellEvent c 1 t) s else s
  let s := if tst hi 12 then eventArrives 0 s else s
  if tst hi 13 then eventArrives 1 s else s

/-- The target of WAITT is reached (R142). -/
def timeReached (target : Nat) (s : State) : Bool := decide ((s.mt % 2 ^ 40 + 2 ^ 40 - target % 2 ^ 40) % 2 ^ 40 < 2 ^ 39)

/-- WFE completes, or waits (R140). -/
def wfeBody (p : Nat) (s : State) : Issue :=
  if eventBit p s then .next (clearEvent p s) else .hold .waitEvent s

/-- WAITT completes, or waits (R142). -/
def waittBody (p : Nat) (rs : BitVec 4) (s : State) : Issue :=
  let t := ofWords [s.g p rs, s.g p (rs + 1)]
  if timeReached t s then .next s else .hold (.waitTime t) s

/-- RETI pops STATUS and then PC (R122). -/
def retiBody (h : Nat) (s : State) : Issue :=
  pop h (fun st => pop h fun pc t => .goto pc (t.modProc h fun k => { k with status := helmStatus st })) s

/-- BZ and BNZ (R131). -/
def branchBody (p : Nat) (taken : Bool) (f : LongF) (s : State) : Issue :=
  if taken then .goto (s.pcOf p + simm16 f.w2) s else .next s

/-- A wait ends, and the next instruction follows (R140, R142). -/
def endWaiting (p : Nat) (s : State) : State :=
  s.modProc p fun k => { k with run := .running, pc := k.pc + 1 }

/-- The processor is powered and clocked while it waits. -/
def waitsOn (p : Nat) (s : State) : Bool := if isCell p then s.fabric else !helmStopped s

/-- MFS (R103). -/
def execMfs (p : ProcId) (f : ShortF) (s : State) : Result :=
  runGroup 0x14 p f 0 2 (srReadable p.1 f.rs.toNat) false (fun t => putG p.1 f.rd (srRead p.1 f.rs.toNat t) .next t) s

/-- MTS (R103). -/
def execMts (p : ProcId) (f : ShortF) (s : State) : Result :=
  runGroup 0x14 p f 1 2 (srWritable p.1 f.rd.toNat) false (fun t => .next (srWrite p.1 f.rd.toNat (t.g p.1 f.rs) t)) s

/-- JR (R139). -/
def execJr (p : ProcId) (f : ShortF) (s : State) : Result :=
  runGroup 0x15 p f 0 4 (decide (f.rd = 0)) false (fun t => .goto (t.g p.1 f.rs) t) s

/-- CALLR (R139). -/
def execCallr (p : ProcId) (f : ShortF) (s : State) : Result :=
  runGroup 0x15 p f 1 4 (decide (f.rd = 0)) true (fun t => push p.1 (t.pcOf p.1 + 1) (fun u => .goto (u.g p.1 f.rs) u) t) s

/-- RET (R139). -/
def execRet (p : ProcId) (f : ShortF) (s : State) : Result :=
  runGroup 0x15 p f 2 4 (decide (f.rd = 0) && decide (f.rs = 0)) true (pop p.1 .goto) s

/-- RETI: the Helm dialect's alone (R122). -/
def execReti (p : ProcId) (f : ShortF) (s : State) : Result :=
  runGroup 0x15 p f 3 4 (!isCell p.1 && decide (f.rd = 0) && decide (f.rs = 0)) true (retiBody p.1) s

/-- NOP (R130). -/
def execNop (p : ProcId) (f : ShortF) (s : State) : Result :=
  runGroup 0x16 p f 0 5 (decide (f.rd = 0) && decide (f.rs = 0)) false .next s

/-- WFE (R140). -/
def execWfe (p : ProcId) (f : ShortF) (s : State) : Result :=
  runGroup 0x16 p f 1 5 (decide (f.rd = 0) && decide (f.rs = 0)) false (wfeBody p.1) s

/-- SEV: its targets receive the event one fabric cycle later (R141). -/
def execSev (p : ProcId) (f : ShortF) (s : State) : Result :=
  runGroup 0x16 p f 2 5 (decide (f.rd = 0) && evenReg f.rs) false
    (fun t => .next (t.at_ (t.mt + 1) (.sev (t.g p.1 f.rs) (t.g p.1 (f.rs + 1))))) s

/-- WAITT (R142). -/
def execWaitt (p : ProcId) (f : ShortF) (s : State) : Result :=
  runGroup 0x16 p f 3 5 (decide (f.rd = 0) && evenReg f.rs) false (waittBody p.1 f.rs) s

/-- TRAP: the Helm dialect's alone (R119, R139). -/
def execTrap (p : ProcId) (f : ShortF) (s : State) : Result :=
  runGroup 0x16 p f 4 5 (!isCell p.1 && decide (f.rd = 0)) false (fun t => .trap f.rs.toNat (t.pcOf p.1 + 1) t) s

/-- JMP (R139). -/
def execJmp (p : ProcId) (f : LongF) (s : State) : Result :=
  runLong 0x40 p f (decide (f.rd = 0) && decide (f.rs = 0)) false (.goto f.w2) s

/-- CALL (R139). -/
def execCall (p : ProcId) (f : LongF) (s : State) : Result :=
  runLong 0x41 p f (decide (f.rd = 0) && decide (f.rs = 0)) true (fun t => push p.1 (t.pcOf p.1 + 2) (.goto f.w2) t) s

/-- BZ (R131). -/
def execBz (p : ProcId) (f : LongF) (s : State) : Result :=
  runLong 0x42 p f (decide (f.rd = 0) && decide (rtOf f.w2 = 0)) false
    (fun t => branchBody p.1 (decide (t.g p.1 f.rs = 0)) f t) s

/-- BNZ (R131). -/
def execBnz (p : ProcId) (f : LongF) (s : State) : Result :=
  runLong 0x43 p f (decide (f.rd = 0) && decide (rtOf f.w2 = 0)) false
    (fun t => branchBody p.1 (decide (t.g p.1 f.rs ≠ 0)) f t) s

/-- WFE_COMPLETE: a waiting WFE sees its event bit, and clears it (R140). -/
def execWfeComplete (p : ProcId) (s : State) : Result :=
  happens (waitsOn p.1 s && decide ((s.proc p.1).run = .waitEvent) && eventBit p.1 s)
    (fun s => endWaiting p.1 (clearEvent p.1 s)) s

/-- A WAITT whose target is reached (R142). -/
def waitOver (p : Nat) (s : State) : Bool :=
  match (s.proc p).run with
  | .waitTime t => timeReached t s
  | _ => false

/-- WAITT_COMPLETE: master time reaches the target of a waiting WAITT (R142). -/
def execWaittComplete (p : ProcId) (s : State) : Result :=
  happens (waitsOn p.1 s && waitOver p.1 s) (endWaiting p.1) s

end Sys2Proof.Machine
end

