-- ==== Sys2Proof/Machine/Dispatch.lean ====
section
/-! DEFINITION. exec: one arm per command, each a direct call of its meaning. -/
namespace Sys2Proof.Machine

/-- The effect of a command on everything but the queue. -/
def exec (i : Instr) (s : State) : Host.Outcome State Fault Refusal :=
  match i with
  | .mov p f => Sys2Proof.Machine.execMov p f s
  | .add p f => Sys2Proof.Machine.execAdd p f s
  | .sub p f => Sys2Proof.Machine.execSub p f s
  | .and p f => Sys2Proof.Machine.execAnd p f s
  | .or p f => Sys2Proof.Machine.execOr p f s
  | .xor p f => Sys2Proof.Machine.execXor p f s
  | .not p f => Sys2Proof.Machine.execNot p f s
  | .neg p f => Sys2Proof.Machine.execNeg p f s
  | .addi p f => Sys2Proof.Machine.execAddi p f s
  | .subi p f => Sys2Proof.Machine.execSubi p f s
  | .shl p f => Sys2Proof.Machine.execShl p f s
  | .shr p f => Sys2Proof.Machine.execShr p f s
  | .sar p f => Sys2Proof.Machine.execSar p f s
  | .cmp p f => Sys2Proof.Machine.execCmp p f s
  | .tst p f => Sys2Proof.Machine.execTst p f s
  | .ld p f => Sys2Proof.Machine.execLd p f s
  | .st p f => Sys2Proof.Machine.execSt p f s
  | .ldUpdate p f => Sys2Proof.Machine.execLdUpdate p f s
  | .stUpdate p f => Sys2Proof.Machine.execStUpdate p f s
  | .mul p f => Sys2Proof.Machine.execMul p f s
  | .mulu p f => Sys2Proof.Machine.execMulu p f s
  | .mac p f => Sys2Proof.Machine.execMac p f s
  | .div p f => Sys2Proof.Machine.execDiv p f s
  | .divu p f => Sys2Proof.Machine.execDivu p f s
  | .mfs p f => Sys2Proof.Machine.execMfs p f s
  | .mts p f => Sys2Proof.Machine.execMts p f s
  | .jr p f => Sys2Proof.Machine.execJr p f s
  | .callr p f => Sys2Proof.Machine.execCallr p f s
  | .ret p f => Sys2Proof.Machine.execRet p f s
  | .reti p f => Sys2Proof.Machine.execReti p f s
  | .nop p f => Sys2Proof.Machine.execNop p f s
  | .wfe p f => Sys2Proof.Machine.execWfe p f s
  | .sev p f => Sys2Proof.Machine.execSev p f s
  | .waitt p f => Sys2Proof.Machine.execWaitt p f s
  | .trap p f => Sys2Proof.Machine.execTrap p f s
  | .add3 p f => Sys2Proof.Machine.execAdd3 p f s
  | .sub3 p f => Sys2Proof.Machine.execSub3 p f s
  | .and3 p f => Sys2Proof.Machine.execAnd3 p f s
  | .or3 p f => Sys2Proof.Machine.execOr3 p f s
  | .xor3 p f => Sys2Proof.Machine.execXor3 p f s
  | .shl3 p f => Sys2Proof.Machine.execShl3 p f s
  | .shr3 p f => Sys2Proof.Machine.execShr3 p f s
  | .sar3 p f => Sys2Proof.Machine.execSar3 p f s
  | .addi16 p f => Sys2Proof.Machine.execAddi16 p f s
  | .andi p f => Sys2Proof.Machine.execAndi p f s
  | .ori p f => Sys2Proof.Machine.execOri p f s
  | .xori p f => Sys2Proof.Machine.execXori p f s
  | .shli p f => Sys2Proof.Machine.execShli p f s
  | .shri p f => Sys2Proof.Machine.execShri p f s
  | .sari p f => Sys2Proof.Machine.execSari p f s
  | .cmpi p f => Sys2Proof.Machine.execCmpi p f s
  | .ldi p f => Sys2Proof.Machine.execLdi p f s
  | .seq p f => Sys2Proof.Machine.execSeq p f s
  | .sne p f => Sys2Proof.Machine.execSne p f s
  | .slt p f => Sys2Proof.Machine.execSlt p f s
  | .sltu p f => Sys2Proof.Machine.execSltu p f s
  | .carry p f => Sys2Proof.Machine.execCarry p f s
  | .snegov p f => Sys2Proof.Machine.execSnegov p f s
  | .ld20 p f => Sys2Proof.Machine.execLd20 p f s
  | .st20 p f => Sys2Proof.Machine.execSt20 p f s
  | .ldp p f => Sys2Proof.Machine.execLdp p f s
  | .stp p f => Sys2Proof.Machine.execStp p f s
  | .ldx p f => Sys2Proof.Machine.execLdx p f s
  | .stx p f => Sys2Proof.Machine.execStx p f s
  | .ldpx p f => Sys2Proof.Machine.execLdpx p f s
  | .stpx p f => Sys2Proof.Machine.execStpx p f s
  | .jmp p f => Sys2Proof.Machine.execJmp p f s
  | .call p f => Sys2Proof.Machine.execCall p f s
  | .bz p f => Sys2Proof.Machine.execBz p f s
  | .bnz p f => Sys2Proof.Machine.execBnz p f s
  | .multiplyResultWrite p => Sys2Proof.Machine.execMultiplyResultWrite p s
  | .divideResultWrite p => Sys2Proof.Machine.execDivideResultWrite p s
  | .postedStoreComplete p => Sys2Proof.Machine.execPostedStoreComplete p s
  | .wfeComplete p => Sys2Proof.Machine.execWfeComplete p s
  | .waittComplete p => Sys2Proof.Machine.execWaittComplete p s
  | .irqEntry h => Sys2Proof.Machine.execIrqEntry h s
  | .nmiEntry h => Sys2Proof.Machine.execNmiEntry h s
  | .busGrant => Sys2Proof.Machine.execBusGrant s
  | .registerWrite q a v => Sys2Proof.Machine.execRegisterWrite q a v s
  | .mtLowRead r => Sys2Proof.Machine.execMtLowRead r s
  | .counterLowRead q n => Sys2Proof.Machine.execCounterLowRead q n s
  | .refclkQualified => Sys2Proof.Machine.execRefclkQualified s
  | .qualificationFail => Sys2Proof.Machine.execQualificationFail s
  | .lock => Sys2Proof.Machine.execLock s
  | .lockFail => Sys2Proof.Machine.execLockFail s
  | .referenceLoss => Sys2Proof.Machine.execReferenceLoss s
  | .referenceLossSlateHold => Sys2Proof.Machine.execReferenceLossSlateHold s
  | .clkSwitchWrite q v => Sys2Proof.Machine.execClkSwitchWrite q v s
  | .clockSwitchComplete => Sys2Proof.Machine.execClockSwitchComplete s
  | .divisorChange => Sys2Proof.Machine.execDivisorChange s
  | .mtHandover => Sys2Proof.Machine.execMtHandover s
  | .fabricCounterLoad => Sys2Proof.Machine.execFabricCounterLoad s
  | .brownOut => Sys2Proof.Machine.execBrownOut s
  | .stateEntry c => Sys2Proof.Machine.execStateEntry c s
  | .entryCellsStopped => Sys2Proof.Machine.execEntryCellsStopped s
  | .handshakeAsk delays => Sys2Proof.Machine.execHandshakeAsk delays s
  | .handshakeTimeout => Sys2Proof.Machine.execHandshakeTimeout s
  | .standingOrderEvaluation => Sys2Proof.Machine.execStandingOrderEvaluation s
  | .voteSet q v => Sys2Proof.Machine.execVoteSet q v s
  | .voteWithdraw q v => Sys2Proof.Machine.execVoteWithdraw q v s
  | .domainRetentionEntry d => Sys2Proof.Machine.execDomainRetentionEntry d s
  | .domainReady d => Sys2Proof.Machine.execDomainReady d s
  | .plChange q v => Sys2Proof.Machine.execPlChange q v s
  | .plChangeComplete => Sys2Proof.Machine.execPlChangeComplete s
  | .wakeEvent src => Sys2Proof.Machine.execWakeEvent src s
  | .wakeStep => Sys2Proof.Machine.execWakeStep s
  | .wakeComplete => Sys2Proof.Machine.execWakeComplete s
  | .padHoldRelease q v => Sys2Proof.Machine.execPadHoldRelease q v s
  | .padWrite q p v => Sys2Proof.Machine.execPadWrite q p v s
  | .busClaim q v => Sys2Proof.Machine.execBusClaim q v s
  | .busRelease q v => Sys2Proof.Machine.execBusRelease q v s
  | .busQuery q v => Sys2Proof.Machine.execBusQuery q v s
  | .conversionEnd k code => Sys2Proof.Machine.execConversionEnd k code s
  | .rippleLockTimeout m => Sys2Proof.Machine.execRippleLockTimeout m s
  | .fastPathComplete c => Sys2Proof.Machine.execFastPathComplete c s
  | .forwardJobStart t => Sys2Proof.Machine.execForwardJobStart t s
  | .forwardJobEnd t => Sys2Proof.Machine.execForwardJobEnd t s
  | .inverseJobStart t => Sys2Proof.Machine.execInverseJobStart t s
  | .inverseJobEnd t => Sys2Proof.Machine.execInverseJobEnd t s
  | .cellEnable q c => Sys2Proof.Machine.execCellEnable q c s
  | .cellDisable q c => Sys2Proof.Machine.execCellDisable q c s
  | .cellStandby q c v => Sys2Proof.Machine.execCellStandby q c v s
  | .periodBoundary w => Sys2Proof.Machine.execPeriodBoundary w s
  | .commit q c => Sys2Proof.Machine.execCommit q c s
  | .commitAck q c => Sys2Proof.Machine.execCommitAck q c s
  | .commitCheckComplete c => Sys2Proof.Machine.execCommitCheckComplete c s
  | .bankCopyComplete c => Sys2Proof.Machine.execBankCopyComplete c s
  | .stagingWrite q c w v => Sys2Proof.Machine.execStagingWrite q c w v s
  | .sequencerStart q c => Sys2Proof.Machine.execSequencerStart q c s
  | .sequencerStop q c => Sys2Proof.Machine.execSequencerStop q c s
  | .sequencerHalt c => Sys2Proof.Machine.execSequencerHalt c s
  | .edgeFire w => Sys2Proof.Machine.execEdgeFire w s
  | .deadTimeEnd w high => Sys2Proof.Machine.execDeadTimeEnd w high s
  | .minPulseEnd w => Sys2Proof.Machine.execMinPulseEnd w s
  | .swdutyWrite q w v => Sys2Proof.Machine.execSwdutyWrite q w v s
  | .channelEnable q w => Sys2Proof.Machine.execChannelEnable q w s
  | .channelDisable q w => Sys2Proof.Machine.execChannelDisable q w s
  | .calibrationSettled w => Sys2Proof.Machine.execCalibrationSettled w s
  | .adcTrigger t e => Sys2Proof.Machine.execAdcTrigger t e s
  | .adcSoftwareTrigger q t v => Sys2Proof.Machine.execAdcSoftwareTrigger q t v s
  | .samplingInstant k => Sys2Proof.Machine.execSamplingInstant k s
  | .referenceSettled => Sys2Proof.Machine.execReferenceSettled s
  | .comparatorChange k level => Sys2Proof.Machine.execComparatorChange k level s
  | .blankingEnd k => Sys2Proof.Machine.execBlankingEnd k s
  | .protTripClear q v => Sys2Proof.Machine.execProtTripClear q v s
  | .protEntryEnable q n v => Sys2Proof.Machine.execProtEntryEnable q n v s
  | .protLock q v => Sys2Proof.Machine.execProtLock q v s
  | .positionEdge n lv => Sys2Proof.Machine.execPositionEdge n lv s
  | .speedTimeout n => Sys2Proof.Machine.execSpeedTimeout n s
  | .ssiFrameStart n qnb => Sys2Proof.Machine.execSsiFrameStart n qnb s
  | .ssiFrameEnd n data => Sys2Proof.Machine.execSsiFrameEnd n data s
  | .turnsClear q n v => Sys2Proof.Machine.execTurnsClear q n v s
  | .posCtrlWrite q n v => Sys2Proof.Machine.execPosCtrlWrite q n v s
  | .emuStep m => Sys2Proof.Machine.execEmuStep m s
  | .policyTick x => Sys2Proof.Machine.execPolicyTick x s
  | .dcClassify mean sag1 sag2 => Sys2Proof.Machine.execDcClassify mean sag1 sag2 s
  | .dcInputRemoved => Sys2Proof.Machine.execDcInputRemoved s
  | .mpptStep mv => Sys2Proof.Machine.execMpptStep mv s
  | .openCircuitMeasure mv => Sys2Proof.Machine.execOpenCircuitMeasure mv s
  | .generatorClimb power => Sys2Proof.Machine.execGeneratorClimb power s
  | .generatorSpeedLost => Sys2Proof.Machine.execGeneratorSpeedLost s
  | .batteryPoll r => Sys2Proof.Machine.execBatteryPoll r s
  | .chargeDoneTimeout => Sys2Proof.Machine.execChargeDoneTimeout s
  | .preChargeTimeout => Sys2Proof.Machine.execPreChargeTimeout s
  | .socReset soc => Sys2Proof.Machine.execSocReset soc s
  | .pdAttach port x => Sys2Proof.Machine.execPdAttach port x s
  | .pdDetach port => Sys2Proof.Machine.execPdDetach port s
  | .sourceCapabilities port offers => Sys2Proof.Machine.execSourceCapabilities port offers s
  | .discoverSvids port => Sys2Proof.Machine.execDiscoverSvids port s
  | .discoverModes port => Sys2Proof.Machine.execDiscoverModes port s
  | .unsupportedPdMessage port => Sys2Proof.Machine.execUnsupportedPdMessage port s
  | .prSwap port => Sys2Proof.Machine.execPrSwap port s
  | .drSwap port => Sys2Proof.Machine.execDrSwap port s
  | .vconnSwap port => Sys2Proof.Machine.execVconnSwap port s
  | .hardReset port => Sys2Proof.Machine.execHardReset port s
  | .fixTrig q => Sys2Proof.Machine.execFixTrig q s
  | .fixHost q => Sys2Proof.Machine.execFixHost q s
  | .fixPeriodic => Sys2Proof.Machine.execFixPeriodic s
  | .fixComplete => Sys2Proof.Machine.execFixComplete s
  | .fixOpen q => Sys2Proof.Machine.execFixOpen q s
  | .fixClose q v => Sys2Proof.Machine.execFixClose q v s
  | .logRecordWrite => Sys2Proof.Machine.execLogRecordWrite s
  | .logSwrec q v => Sys2Proof.Machine.execLogSwrec q v s
  | .traceArm q v => Sys2Proof.Machine.execTraceArm q v s
  | .traceDisarm q v => Sys2Proof.Machine.execTraceDisarm q v s
  | .traceSoftwareTrigger q => Sys2Proof.Machine.execTraceSoftwareTrigger q s
  | .traceSample => Sys2Proof.Machine.execTraceSample s
  | .sxtSubmitInteractive q a => Sys2Proof.Machine.execSxtSubmitInteractive q a s
  | .sxtSubmitBulk q a => Sys2Proof.Machine.execSxtSubmitBulk q a s
  | .sxtDoneRead q bulk => Sys2Proof.Machine.execSxtDoneRead q bulk s
  | .sxtAdd => Sys2Proof.Machine.execSxtAdd s
  | .sxtSub => Sys2Proof.Machine.execSxtSub s
  | .sxtMul => Sys2Proof.Machine.execSxtMul s
  | .sxtDiv => Sys2Proof.Machine.execSxtDiv s
  | .sxtRem => Sys2Proof.Machine.execSxtRem s
  | .sxtSqrt => Sys2Proof.Machine.execSxtSqrt s
  | .sxtSqr => Sys2Proof.Machine.execSxtSqr s
  | .sxtPow => Sys2Proof.Machine.execSxtPow s
  | .sxtExp => Sys2Proof.Machine.execSxtExp s
  | .sxtLn => Sys2Proof.Machine.execSxtLn s
  | .sxtExp10 => Sys2Proof.Machine.execSxtExp10 s
  | .sxtLog10 => Sys2Proof.Machine.execSxtLog10 s
  | .sxtSin => Sys2Proof.Machine.execSxtSin s
  | .sxtCos => Sys2Proof.Machine.execSxtCos s
  | .sxtTan => Sys2Proof.Machine.execSxtTan s
  | .sxtAsin => Sys2Proof.Machine.execSxtAsin s
  | .sxtAcos => Sys2Proof.Machine.execSxtAcos s
  | .sxtAtan => Sys2Proof.Machine.execSxtAtan s
  | .sxtAtan2 => Sys2Proof.Machine.execSxtAtan2 s
  | .sxtSinh => Sys2Proof.Machine.execSxtSinh s
  | .sxtCosh => Sys2Proof.Machine.execSxtCosh s
  | .sxtTanh => Sys2Proof.Machine.execSxtTanh s
  | .sxtAsinh => Sys2Proof.Machine.execSxtAsinh s
  | .sxtAcosh => Sys2Proof.Machine.execSxtAcosh s
  | .sxtAtanh => Sys2Proof.Machine.execSxtAtanh s
  | .sxtFact => Sys2Proof.Machine.execSxtFact s
  | .sxtNcr => Sys2Proof.Machine.execSxtNcr s
  | .sxtNpr => Sys2Proof.Machine.execSxtNpr s
  | .fromInt40 => Sys2Proof.Machine.execFromInt40 s
  | .toInt40 => Sys2Proof.Machine.execToInt40 s
  | .integral => Sys2Proof.Machine.execIntegral s
  | .toRad => Sys2Proof.Machine.execToRad s
  | .fromRad => Sys2Proof.Machine.execFromRad s
  | .statClr => Sys2Proof.Machine.execStatClr s
  | .statAdd => Sys2Proof.Machine.execStatAdd s
  | .statDel => Sys2Proof.Machine.execStatDel s
  | .statMean => Sys2Proof.Machine.execStatMean s
  | .statSdev => Sys2Proof.Machine.execStatSdev s
  | .statPsdev => Sys2Proof.Machine.execStatPsdev s
  | .statLinreg => Sys2Proof.Machine.execStatLinreg s
  | .statEstY => Sys2Proof.Machine.execStatEstY s
  | .statEstX => Sys2Proof.Machine.execStatEstX s
  | .badop => Sys2Proof.Machine.execBadop s
  | .microNano x nano nanoOk => Sys2Proof.Machine.execMicroNano x nano nanoOk s
  | .microJump x => Sys2Proof.Machine.execMicroJump x s
  | .microCall x => Sys2Proof.Machine.execMicroCall x s
  | .microReturn x => Sys2Proof.Machine.execMicroReturn x s
  | .microDispatch x entry entryOk => Sys2Proof.Machine.execMicroDispatch x entry entryOk s
  | .microBranch x => Sys2Proof.Machine.execMicroBranch x s
  | .microLit x => Sys2Proof.Machine.execMicroLit x s
  | .microSafe x => Sys2Proof.Machine.execMicroSafe x s
  | .microEnd x => Sys2Proof.Machine.execMicroEnd x s
  | .horizontalWord a w ok => Sys2Proof.Machine.execHorizontalWord a w ok s
  | .bulkResume ok => Sys2Proof.Machine.execBulkResume ok s
  | .mchkReread ok => Sys2Proof.Machine.execMchkReread ok s
  | .sxtSelftest pass stage => Sys2Proof.Machine.execSxtSelftest pass stage s
  | .patchHold q => Sys2Proof.Machine.execPatchHold q s
  | .patchRelease q => Sys2Proof.Machine.execPatchRelease q s
  | .patchData q v => Sys2Proof.Machine.execPatchData q v s
  | .calcClear q => Sys2Proof.Machine.execCalcClear q s
  | .calcDigit n => Sys2Proof.Machine.execCalcDigit n s
  | .calcDecimalPoint => Sys2Proof.Machine.execCalcDecimalPoint s
  | .calcExp => Sys2Proof.Machine.execCalcExp s
  | .calcSign => Sys2Proof.Machine.execCalcSign s
  | .calcDel => Sys2Proof.Machine.execCalcDel s
  | .calcC => Sys2Proof.Machine.execCalcC s
  | .calcAc => Sys2Proof.Machine.execCalcAc s
  | .calcPlus => Sys2Proof.Machine.execCalcPlus s
  | .calcMinus => Sys2Proof.Machine.execCalcMinus s
  | .calcTimes => Sys2Proof.Machine.execCalcTimes s
  | .calcDivide => Sys2Proof.Machine.execCalcDivide s
  | .calcYPowX => Sys2Proof.Machine.execCalcYPowX s
  | .calcNcr => Sys2Proof.Machine.execCalcNcr s
  | .calcNpr => Sys2Proof.Machine.execCalcNpr s
  | .calcOpenParen => Sys2Proof.Machine.execCalcOpenParen s
  | .calcCloseParen => Sys2Proof.Machine.execCalcCloseParen s
  | .calcEquals => Sys2Proof.Machine.execCalcEquals s
  | .calcAns => Sys2Proof.Machine.execCalcAns s
  | .calcSto => Sys2Proof.Machine.execCalcSto s
  | .calcRcl => Sys2Proof.Machine.execCalcRcl s
  | .calcMPlus => Sys2Proof.Machine.execCalcMPlus s
  | .calc2nd => Sys2Proof.Machine.execCalc2nd s
  | .calcUnary op => Sys2Proof.Machine.execCalcUnary op s
  | .calcSigmaPlus => Sys2Proof.Machine.execCalcSigmaPlus s
  | .calcSigmaMinus => Sys2Proof.Machine.execCalcSigmaMinus s
  | .calcXySeparator => Sys2Proof.Machine.execCalcXySeparator s
  | .calcMean => Sys2Proof.Machine.execCalcMean s
  | .calcSdev => Sys2Proof.Machine.execCalcSdev s
  | .calcPsdev => Sys2Proof.Machine.execCalcPsdev s
  | .calcRegression => Sys2Proof.Machine.execCalcRegression s
  | .calcYHat => Sys2Proof.Machine.execCalcYHat s
  | .calcXHat => Sys2Proof.Machine.execCalcXHat s
  | .calcClearStats => Sys2Proof.Machine.execCalcClearStats s
  | .calcAngleUnit => Sys2Proof.Machine.execCalcAngleUnit s
  | .calcHistoryBack => Sys2Proof.Machine.execCalcHistoryBack s
  | .calcHistoryForward => Sys2Proof.Machine.execCalcHistoryForward s
  | .calcScroll => Sys2Proof.Machine.execCalcScroll s
  | .calcBase => Sys2Proof.Machine.execCalcBase s
  | .calcReciprocal => Sys2Proof.Machine.execCalcReciprocal s
  | .scanStart => Sys2Proof.Machine.execScanStart s
  | .scanEnd raw => Sys2Proof.Machine.execScanEnd raw s
  | .unlockTimeout => Sys2Proof.Machine.execUnlockTimeout s
  | .keyFifoRead host q => Sys2Proof.Machine.execKeyFifoRead host q s
  | .lockSet host q v => Sys2Proof.Machine.execLockSet host q v s
  | .cupolaFrame => Sys2Proof.Machine.execCupolaFrame s
  | .pumpOkChange ok => Sys2Proof.Machine.execPumpOkChange ok s
  | .hostWrite a v => Sys2Proof.Machine.execHostWrite a v s
  | .hostRead a => Sys2Proof.Machine.execHostRead a s
  | .frameAbort => Sys2Proof.Machine.execFrameAbort s
  | .txDataWrite v => Sys2Proof.Machine.execTxDataWrite v s
  | .rxDataRead => Sys2Proof.Machine.execRxDataRead s
  | .txFlush => Sys2Proof.Machine.execTxFlush s
  | .rxFlush => Sys2Proof.Machine.execRxFlush s
  | .ring v => Sys2Proof.Machine.execRing v s
  | .hostifTxRead q => Sys2Proof.Machine.execHostifTxRead q s
  | .hostifRxWrite q => Sys2Proof.Machine.execHostifRxWrite q s
  | .dmsgWrite q v => Sys2Proof.Machine.execDmsgWrite q v s
  | .dmaStart q v => Sys2Proof.Machine.execDmaStart q v s
  | .hello st => Sys2Proof.Machine.execHello st s
  | .read st => Sys2Proof.Machine.execRead st s
  | .write st => Sys2Proof.Machine.execWrite st s
  | .claim st => Sys2Proof.Machine.execClaim st s
  | .release st => Sys2Proof.Machine.execRelease st s
  | .state st => Sys2Proof.Machine.execState st s
  | .protQuery st => Sys2Proof.Machine.execProtQuery st s
  | .batteryQuery st => Sys2Proof.Machine.execBatteryQuery st s
  | .imageInfo st => Sys2Proof.Machine.execImageInfo st s
  | .resume st => Sys2Proof.Machine.execResume st s
  | .keyConfig st => Sys2Proof.Machine.execKeyConfig st s
  | .cellLoad st => Sys2Proof.Machine.execCellLoad st s
  | .cellCommit st => Sys2Proof.Machine.execCellCommit st s
  | .fix st => Sys2Proof.Machine.execFix st s
  | .fixRead st => Sys2Proof.Machine.execFixRead st s
  | .logArm st => Sys2Proof.Machine.execLogArm st s
  | .logRead st => Sys2Proof.Machine.execLogRead st s
  | .standingOrder st => Sys2Proof.Machine.execStandingOrder st s
  | .voteQuery st => Sys2Proof.Machine.execVoteQuery st s
  | .policySet st => Sys2Proof.Machine.execPolicySet st s
  | .policyQuery st => Sys2Proof.Machine.execPolicyQuery st s
  | .sxtEval st => Sys2Proof.Machine.execSxtEval st s
  | .sxtResult st => Sys2Proof.Machine.execSxtResult st s
  | .moduleList st => Sys2Proof.Machine.execModuleList st s
  | .moduleQuery st => Sys2Proof.Machine.execModuleQuery st s
  | .almanacSave st => Sys2Proof.Machine.execAlmanacSave st s
  | .almanacLoad st => Sys2Proof.Machine.execAlmanacLoad st s
  | .pdStatus st => Sys2Proof.Machine.execPdStatus st s
  | .pdRequest st accepted => Sys2Proof.Machine.execPdRequest st accepted s
  | .presenceAccepted n => Sys2Proof.Machine.execPresenceAccepted n s
  | .absenceAccepted n => Sys2Proof.Machine.execAbsenceAccepted n s
  | .tlPenWrite q v => Sys2Proof.Machine.execTlPenWrite q v s
  | .readDesc addr off cnt => Sys2Proof.Machine.execReadDesc addr off cnt s
  | .setVersion addr v => Sys2Proof.Machine.execSetVersion addr v s
  | .setAddress addr n => Sys2Proof.Machine.execSetAddress addr n s
  | .tlRead addr off cnt => Sys2Proof.Machine.execTlRead addr off cnt s
  | .tlWrite addr off ws => Sys2Proof.Machine.execTlWrite addr off ws s
  | .moduleStatus addr => Sys2Proof.Machine.execModuleStatus addr s
  | .tlAnswer hdr ws good => Sys2Proof.Machine.execTlAnswer hdr ws good s
  | .tlTimeout => Sys2Proof.Machine.execTlTimeout s
  | .tlRetry => Sys2Proof.Machine.execTlRetry s
  | .slotDiscovery n => Sys2Proof.Machine.execSlotDiscovery n s
  | .descriptorPoll => Sys2Proof.Machine.execDescriptorPoll s
  | .slotRelease n => Sys2Proof.Machine.execSlotRelease n s
  | .coldReset => Sys2Proof.Machine.execColdReset s
  | .pinReset => Sys2Proof.Machine.execPinReset s
  | .lockupReset => Sys2Proof.Machine.execLockupReset s
  | .sysreset => Sys2Proof.Machine.execSysreset s
  | .softReset q v => Sys2Proof.Machine.execSoftReset q v s
  | .resetRelease => Sys2Proof.Machine.execResetRelease s
  | .bootSequence => Sys2Proof.Machine.execBootSequence s
  | .flashContainerRead kind ws => Sys2Proof.Machine.execFlashContainerRead kind ws s
  | .imageHandover => Sys2Proof.Machine.execImageHandover s
  | .otpAddrWrite q v => Sys2Proof.Machine.execOtpAddrWrite q v s
  | .otpProg a v => Sys2Proof.Machine.execOtpProg a v s
  | .powerOff => Sys2Proof.Machine.execPowerOff s
  | .vdda33Crossing above => Sys2Proof.Machine.execVdda33Crossing above s
  | .unsupportedPacket st => Sys2Proof.Machine.execUnsupportedPacket st s
  | .lockPacket st => Sys2Proof.Machine.execLockPacket st s
  | .discoverIdentity port sopPrime epr => Sys2Proof.Machine.execDiscoverIdentity port sopPrime epr s
  | .partnerRequest port n ma mv => Sys2Proof.Machine.execPartnerRequest port n ma mv s

end Sys2Proof.Machine
end

