-- ==== Sys2Proof/Machine/Tick.lean ====
section
/-! DEFINITION. What time alone does: a step on an empty queue is one tick (log 1), a fabric cycle while the fabric counts
and one REFCLK period while it does not (R52 to R54, R197, R264). -/
namespace Sys2Proof.Machine

/-- The phase of an enabled ripple detector advances by its INC (R197). -/
def phaseTick (m : Nat) (s : State) : State :=
  if s.rb (0x76E00 + 16 * m) 19 then s.modRipple m fun r => { r with phi := (r.phi + rippleInc m s) % 2 ^ 40 } else s

/-- The angle accumulator of a valid drive advances by its increment while its q cell runs (R264, R268). -/
def angleTick (c : Nat) (s : State) : State :=
  if cellRuns c s && driveValid c s then
    s.modCell c fun k => { k with acc := (k.acc + ofWords [vget 0 k.vecAct 2, vget 0 k.vecAct 3]) % 2 ^ 40 }
  else s

/-- Keep adds one REFCLK period, unless its count is frozen (R53). -/
def keepTick (s : State) : State :=
  if s.clk.frozen then s else s.mapClk fun c => { c with keepMt := (c.keepMt + 18750) % 2 ^ 60 }

/-- The fabric returns from COAST to MERIDIAN at an alignment point once the loop has locked (R50); how the edges of REFCLK
then lie to the count is free (log 96). -/
def returnTick (s : State) : State :=
  if !s.clk.fabMer && clkLock s && decide (s.clk.fabMt % 48 = 0) then
    let x := Config.freeNat s.freeCtr % 18750
    (s.mapClk fun c => { c with fabMer := true, edge := x }).advance 1
  else s

/-- Keep's count while the fabric counts (R53): on MERIDIAN an edge of REFCLK comes every 18 750 cycles; on COAST, whose
period is not REFCLK's, it is free which cycles hold one. -/
def edgeTick (s : State) : State :=
  if s.clk.fabMer then (if s.clk.fabMt % 18750 = s.clk.edge then keepTick s else s)
  else if s.clk.frozen then s
  else (if Config.freeBool s.freeCtr then keepTick s else s).advance 1

/-- An effect comes whose cycle has been fixed before. The inputs of the position interfaces act together (posEvents). -/
def occur (e : Ev) (s : State) : State :=
  match e with
  | .commits => commitNow none s
  | .edge _ _ _ => s
  | .slow _ _ => s
  | .slot i v => deliverSlot i s.mt v s
  | .sev m0 m1 => sendEvents m0 m1 s
  | .trip i start => trip i start s
  | .lowOff w => lowOff w s
  | .unblank n => unblank n s
  | .software i => softwareDue i s
  | .bin a v _ => s.wrMem a v
  | .put a v => s.wrMem a v

/-- Every slot value that is due stands in its register before the paths of the cycle take theirs (R144). -/
def slotValues (due : List Ev) (s : State) : State :=
  due.foldl (fun t e => match e with | .slot i v => if slotLives i t then slotWrite i v t else t | _ => t) s

/-- Duties whose cycle has come are in effect at their channels (R17, R209, R215). -/
def settleDue (s : State) : State :=
  forAll 32 (fun w t => if (t.chan w).loads.any fun l => decide (l.1 ≤ t.mt) then settle w t else t) s

/-- The effects that are due in this cycle come, in the order in which they were set up, after the position inputs, the duties
and the commits of this cycle's control-period boundaries: a path that starts in a boundary cycle runs on the new bank (R149). -/
def occurDue (s : State) : State :=
  let due := (s.sched.filter fun e => decide (e.1 ≤ s.mt)).map (·.2)
  let s := s.mapSched fun l => l.filter fun e => decide (s.mt < e.1)
  let s := commitNow none (settleDue (posEvents due s))
  due.foldl (fun t e => occur e t) (slotValues due s)

/-- The effect is the arrival of an event that SEV sent, which needs no fabric (R141). -/
def sevOf (e : Ev) : Bool :=
  match e with
  | .sev _ _ => true
  | _ => false

/-- Events that SEV sent arrive while the fabric is stopped: a stopped cell takes none (R141, log 29). -/
def sevDue (s : State) : State :=
  let due := (s.sched.map (·.2)).filter sevOf
  due.foldl (fun t e => occur e t) (s.mapSched fun l => l.filter fun e => !sevOf e.2)

/-- What a fabric cycle ends with, before the counter moves on: the protection scan, the angles and the phases. -/
def cycleEnd (s : State) : State :=
  if s.fabric then forAll 3 posTick (forAll 2 emuTick (forAll 32 angleTick (forAll 8 phaseTick (protTick s)))) else s

/-- A fabric cycle: the counter moves on, and Keep's count with it; then comes what is due (R50, R52, R53). -/
def fabricTick (s : State) : State :=
  let s := (cycleEnd s).mapClk fun c => { c with fabMt := (c.fabMt + 1) % 2 ^ 60 }
  let s := edgeTick (returnTick (s.mapCyc fun _ => Cyc.reset))
  if s.fabric then mpptRead (occurDue (fixTake s)) else sevDue s

/-- A tick without fabric cycles: events sent by SEV have arrived (R141). Every other effect waits in the fabric. -/
def stillTick (s : State) : State := sevDue (keepTick (s.mapCyc fun _ => Cyc.reset))

/-- One tick of time. -/
def tick (s : State) : State :=
  if s.pwr.off then s else calcDraw (calcTrim (if s.clk.fabOn then fabricTick s else stillTick s))

end Sys2Proof.Machine
end

