-- ==== Sys2Proof/WellFormed.lean ====
section
/-! DEFINITION. Which commands are well formed: a Bearing instruction whose fields are a defined encoding of the dialect of
its processor (R102, R103, R107, R113, R114, R130 to R132). Every other command is well formed by its type. An ill-formed
instruction is no error: its meaning raises UNDEF as the manual says, unless its sub value is that of another row. -/
namespace Sys2Proof

open Sys2Proof.Machine

/-- What the encoding of a Bearing instruction says before its operation does: the processor, its words (R112), its condition;
whether its sub value is the row's own, or one reserved in the row's group (R130); whether its other fields are a defined
encoding in the processor's dialect; whether it accesses memory. -/
structure Form where
  proc : ProcId
  words : List Word
  cond : BitVec 3
  own : Bool
  reserved : Bool
  legal : Bool
  mem : Bool
deriving DecidableEq, Repr

/-- How many words an instruction has (R112). -/
def Form.len (x : Form) : Nat := x.words.length

/-- The form of a short instruction whose op is its row's alone. -/
def shortForm (op : Nat) (p : ProcId) (f : ShortF) (legal mem : Bool) : Option Form :=
  some { proc := p, words := [shortWord op f], cond := f.cond, own := true, reserved := false, legal := legal, mem := mem }

/-- The form of a short instruction whose row is selected by sub; values from lim on are reserved (R130). -/
def groupForm (op : Nat) (p : ProcId) (f : ShortF) (sub lim : Nat) (legal mem : Bool) : Option Form :=
  some { proc := p, words := [shortWord op f], cond := f.cond, own := decide (f.sub.toNat = sub), reserved := decide (lim ≤ f.sub.toNat),
         legal := legal, mem := mem }

/-- The form of a long instruction. -/
def longForm (op : Nat) (p : ProcId) (f : LongF) (legal mem : Bool) : Option Form :=
  some { proc := p, words := [longWord op f, f.w2], cond := f.cond, own := true, reserved := false, legal := legal, mem := mem }

/-- The form of a Bearing instruction; none for a command that is no instruction. -/
def form (i : Instr) : Option Form :=
  match i with
  | .mov p f => shortForm 0x01 p f (decide (f.sub = 0)) false
  | .add p f => shortForm 0x02 p f (decide (f.sub = 0)) false
  | .sub p f => shortForm 0x03 p f (decide (f.sub = 0)) false
  | .and p f => shortForm 0x04 p f (decide (f.sub = 0)) false
  | .or p f => shortForm 0x05 p f (decide (f.sub = 0)) false
  | .xor p f => shortForm 0x06 p f (decide (f.sub = 0)) false
  | .not p f => shortForm 0x07 p f (decide (f.sub = 0)) false
  | .neg p f => shortForm 0x08 p f (decide (f.sub = 0)) false
  | .addi p f => shortForm 0x09 p f (decide (f.rs = 0)) false
  | .subi p f => shortForm 0x0A p f (decide (f.rs = 0)) false
  | .shl p f => groupForm 0x0B p f 0 3 true false
  | .shr p f => groupForm 0x0B p f 1 3 true false
  | .sar p f => groupForm 0x0B p f 2 3 true false
  | .cmp p f => shortForm 0x0C p f (isCell p.1 && decide (f.sub = 0)) false
  | .tst p f => shortForm 0x0D p f (isCell p.1 && decide (f.sub = 0)) false
  | .ld p f => shortForm 0x0E p f true true
  | .st p f => shortForm 0x0F p f true true
  | .ldUpdate p f => shortForm 0x10 p f (updLegal f) true
  | .stUpdate p f => shortForm 0x11 p f (updLegal f) true
  | .mul p f => groupForm 0x12 p f 0 3 true false
  | .mulu p f => groupForm 0x12 p f 1 3 true false
  | .mac p f => groupForm 0x12 p f 2 3 true false
  | .div p f => groupForm 0x13 p f 0 2 (!isCell p.1) false
  | .divu p f => groupForm 0x13 p f 1 2 (!isCell p.1) false
  | .mfs p f => groupForm 0x14 p f 0 2 (srReadable p.1 f.rs.toNat) false
  | .mts p f => groupForm 0x14 p f 1 2 (srWritable p.1 f.rd.toNat) false
  | .jr p f => groupForm 0x15 p f 0 4 (decide (f.rd = 0)) false
  | .callr p f => groupForm 0x15 p f 1 4 (decide (f.rd = 0)) true
  | .ret p f => groupForm 0x15 p f 2 4 (decide (f.rd = 0) && decide (f.rs = 0)) true
  | .reti p f => groupForm 0x15 p f 3 4 (!isCell p.1 && decide (f.rd = 0) && decide (f.rs = 0)) true
  | .nop p f => groupForm 0x16 p f 0 5 (decide (f.rd = 0) && decide (f.rs = 0)) false
  | .wfe p f => groupForm 0x16 p f 1 5 (decide (f.rd = 0) && decide (f.rs = 0)) false
  | .sev p f => groupForm 0x16 p f 2 5 (decide (f.rd = 0) && evenReg f.rs) false
  | .waitt p f => groupForm 0x16 p f 3 5 (decide (f.rd = 0) && evenReg f.rs) false
  | .trap p f => groupForm 0x16 p f 4 5 (!isCell p.1 && decide (f.rd = 0)) false
  | .add3 p f => longForm 0x01 p f (decide (fld f.w2 0 16 = 0)) false
  | .sub3 p f => longForm 0x02 p f (decide (fld f.w2 0 16 = 0)) false
  | .and3 p f => longForm 0x03 p f (decide (fld f.w2 0 16 = 0)) false
  | .or3 p f => longForm 0x04 p f (decide (fld f.w2 0 16 = 0)) false
  | .xor3 p f => longForm 0x05 p f (decide (fld f.w2 0 16 = 0)) false
  | .shl3 p f => longForm 0x06 p f (decide (fld f.w2 0 16 = 0)) false
  | .shr3 p f => longForm 0x07 p f (decide (fld f.w2 0 16 = 0)) false
  | .sar3 p f => longForm 0x08 p f (decide (fld f.w2 0 16 = 0)) false
  | .addi16 p f => longForm 0x10 p f (decide (rtOf f.w2 = 0)) false
  | .andi p f => longForm 0x11 p f (decide (rtOf f.w2 = 0)) false
  | .ori p f => longForm 0x12 p f (decide (rtOf f.w2 = 0)) false
  | .xori p f => longForm 0x13 p f (decide (rtOf f.w2 = 0)) false
  | .shli p f => longForm 0x14 p f (decide (rtOf f.w2 = 0) && decide (fld f.w2 0 16 ≤ 19)) false
  | .shri p f => longForm 0x15 p f (decide (rtOf f.w2 = 0) && decide (fld f.w2 0 16 ≤ 19)) false
  | .sari p f => longForm 0x16 p f (decide (rtOf f.w2 = 0) && decide (fld f.w2 0 16 ≤ 19)) false
  | .cmpi p f => longForm 0x17 p f (isCell p.1 && decide (f.rs = 0) && decide (rtOf f.w2 = 0)) false
  | .ldi p f => longForm 0x18 p f (decide (f.rs = 0)) false
  | .seq p f => longForm 0x20 p f (decide (fld f.w2 0 16 = 0)) false
  | .sne p f => longForm 0x21 p f (decide (fld f.w2 0 16 = 0)) false
  | .slt p f => longForm 0x22 p f (decide (fld f.w2 0 16 = 0)) false
  | .sltu p f => longForm 0x23 p f (decide (fld f.w2 0 16 = 0)) false
  | .carry p f => longForm 0x24 p f (decide (fld f.w2 0 16 = 0)) false
  | .snegov p f => longForm 0x25 p f (decide (f.w2 = 0)) false
  | .ld20 p f => longForm 0x30 p f true true
  | .st20 p f => longForm 0x31 p f true true
  | .ldp p f => longForm 0x32 p f (evenReg f.rd) true
  | .stp p f => longForm 0x33 p f (evenReg f.rd) true
  | .ldx p f => longForm 0x34 p f (scaleOnly f) true
  | .stx p f => longForm 0x35 p f (scaleOnly f) true
  | .ldpx p f => longForm 0x36 p f (scaleOnly f && evenReg f.rd) true
  | .stpx p f => longForm 0x37 p f (scaleOnly f && evenReg f.rd) true
  | .jmp p f => longForm 0x40 p f (decide (f.rd = 0) && decide (f.rs = 0)) false
  | .call p f => longForm 0x41 p f (decide (f.rd = 0) && decide (f.rs = 0)) true
  | .bz p f => longForm 0x42 p f (decide (f.rd = 0) && decide (rtOf f.w2 = 0)) false
  | .bnz p f => longForm 0x43 p f (decide (f.rd = 0) && decide (rtOf f.w2 = 0)) false
  | _ => none

/-- The condition is one of the dialect: the Helm dialect has AL only (R114). -/
def Form.condOk (x : Form) : Bool := isCell x.proc.1 || decide (x.cond = 0)

/-- The encoding is a defined one. -/
def Form.defined (x : Form) : Bool := x.condOk && x.own && x.legal

/-- A command is well formed. -/
def wellFormed (i : Instr) : Bool :=
  match form i with
  | some x => x.defined
  | none => true

end Sys2Proof
end

