-- ==== Sys2Proof/Safety.lean ====
section
/-! DEFINITION. What counts as a safe run: the sparse maps of State keep their one canonical form, so that equal contents are
equal data. And the terms in which claims speak of a command that runs and of a Bearing instruction that issues. -/
namespace Sys2Proof.Machine

/-- Memory is in canonical form: addresses strictly rise, and no entry equals what an unlisted address reads as. -/
abbrev Memory.wf (m : Mem) : Prop := canonical memDefault m = true

/-- The registers are in canonical form. -/
abbrev Registers.wf (m : Mem) : Prop := canonical regReset m = true

/-- The parameter banks are in canonical form. -/
abbrev Banks.wf (m : Mem) : Prop := canonical zeroWord m = true

/-- A table of numbers is in canonical form. -/
abbrev Table.wf (m : SMap Nat) : Prop := canonical zeroAt m = true

/-- Memory, registers, parameter banks, claims and counters of a state are in canonical form. -/
structure State.WF (s : State) : Prop where
  mem : Memory.wf s.mem
  reg : Registers.wf s.reg
  bank : Banks.wf s.bank
  claims : Table.wf s.claims
  ctr : Table.wf s.ctr

/-- Command i takes s to t. -/
def Runs (i : Instr) (s t : State) : Prop := exec i s = .next t

/-- An access of requester q to address a is carried out (R87). -/
structure Admitted (q : Req) (a : Nat) (write : Bool) (s : State) : Prop where
  alive : s.dead = false
  reached : reqFault q.toNat a write s = none

/-- The fetch at the PC of a Helm core changes nothing: it needs no grant of the bus, as in Helm SRAM and boot ROM, or nothing is
performed before its grants (R93, R138). -/
def fetchQuiet (p : Nat) (s : State) : Prop := isCell p = false → fetchTurn p s = s

/-- A Bearing instruction of form x may issue: its encoding is defined and its words lie at the PC of its processor (R112), which
is at a boundary; they are fetched without a fault or a parity error, and no posted store is in the way of the fetch or of an access
of its own (R125, R138). -/
structure Issues (x : Form) (s : State) : Prop where
  defined : x.defined = true
  may : mayIssue x.proc.1 s = true
  coded : coded x.proc.1 x.words s = true
  quiet : fetchQuiet x.proc.1 s
  fetched : fetchFails x.proc.1 s = none
  clean : fetchParity x.proc.1 s = s
  free : x.mem = true ∨ fetchWaits x.proc.1 s = true → (s.proc x.proc.1).posted = []

/-- An instruction issues and is executed: on a cell its condition holds (R115), on a Helm core no IRQ comes first (R125). -/
structure Executes (x : Form) (s : State) : Prop extends Issues x s where
  holds : isCell x.proc.1 = true → condHolds x.cond (s.proc x.proc.1).status = true
  noIrq : isCell x.proc.1 = false → irqCandidate x.proc.1 s = none

/-- Instruction i executes in s. -/
def Ready (i : Instr) (s : State) : Prop := ∃ x, form i = some x ∧ Executes x s

/-- A processor goes on at pc after an instruction of s that left t; on a Helm core it has been executed (R124). -/
def resumed (p : ProcId) (pc : Word) (s t : State) : State :=
  if isCell p.1 then t.setPc p.1 pc else executed p.1 (s.pcOf p.1) (t.setPc p.1 pc)

/-- The next instruction follows one of len words at the PC of s that left t. -/
def completed (p : ProcId) (len : Nat) (s t : State) : State := resumed p (s.pcOf p.1 + BitVec.ofNat 20 len) s t

/-- A processor waits at its own address after an instruction of s that left t. -/
def waits (p : ProcId) (r : RunCond) (s t : State) : State :=
  if isCell p.1 then t.modProc p.1 fun k => { k with run := r }
  else executed p.1 (s.pcOf p.1) (t.modProc p.1 fun k => { k with run := r })

/-- A value may be written to register rd: it is not g15, or it is not below SPLIM (R111). -/
def mayHold (p : ProcId) (rd : BitVec 4) (v : Word) (s : State) : Prop := ¬ (rd = 15#4 ∧ belowLimit p.1 v s = true)

/-- Instruction i of len words writes v to rd, and st does the rest; then the next instruction follows. -/
def Gives (i : Instr) (p : ProcId) (len : Nat) (rd : BitVec 4) (v : Word) (st : State → State) (s : State) : Prop :=
  Ready i s → mayHold p rd v s → Runs i s (completed p len s (st (s.setG p.1 rd v)))

/-- STACK is raised by an instruction that takes no other effect (R111, R124, R129). -/
def stackRaised (p : ProcId) (s : State) : State :=
  if isCell p.1 then seqFault (p.1 - 2) 2 s else takeException p.1 4 0 (s.pcOf p.1) s

/-- UNDEF is raised by an instruction that takes no other effect (R119, R129). -/
def undefRaised (p : ProcId) (s : State) : State :=
  if isCell p.1 then seqFault (p.1 - 2) 1 s else takeException p.1 2 0 (s.pcOf p.1) s

/-- STACK in place of instruction i, which would give g15 the value v below SPLIM (R111). A Helm core's pushes wait for its
posted stores (R138). -/
def Stacks (i : Instr) (p : ProcId) (v : Word) (s : State) : Prop :=
  Ready i s → belowLimit p.1 v s = true → (isCell p.1 = false → (s.proc p.1).posted = []) → Runs i s (stackRaised p s)

/-- A load of one word into rd from address a completes, once its grant has come (R93). u is s after a base update (R117, R138). -/
def Loads (i : Instr) (p : ProcId) (len : Nat) (rd : BitVec 4) (a : Word) (u s : State) : Prop :=
  Ready i s → dataFault p.1 a false u = none →
    mayHold p rd (readWord p.1 a u).1 (readWord p.1 a u).2 →
      Runs i s (completed p len s ((readWord p.1 a u).2.setG p.1 rd (readWord p.1 a u).1))

/-- The words at a and a + 1 read by a processor, each in its grant, low word first, and the state after the reads. -/
def readPair (p : Nat) (a : Word) (u : State) : Word × Word × State :=
  let x := readWord p a u
  let y := readWord p (a + 1) x.2
  (x.1, y.1, y.2)

/-- A load of the pair rd:rd+1 from address a completes. u is s after a base update (R102, R117, R138). -/
def LoadsPair (i : Instr) (p : ProcId) (len : Nat) (rd : BitVec 4) (a : Word) (u s : State) : Prop :=
  Ready i s → dataFault p.1 a false u = none → dataFault p.1 (a + 1) false u = none →
    mayHold p (rd + 1) (readPair p.1 a u).2.1 (readPair p.1 a u).2.2 →
      Runs i s (completed p len s
        (((readPair p.1 a u).2.2.setG p.1 rd (readPair p.1 a u).1).setG p.1 (rd + 1) (readPair p.1 a u).2.1))

/-- A store of v at address a completes. u is s after a base update (R117, R138). -/
def Puts (i : Instr) (p : ProcId) (len : Nat) (a v : Word) (u s : State) : Prop :=
  Ready i s → dataFault p.1 a true u = none → Runs i s (completed p len s (post p.1 a v u))

/-- A store of a pair at address a completes, low word first (R102, R117, R138). -/
def PutsPair (i : Instr) (p : ProcId) (len : Nat) (a lo hi : Word) (u s : State) : Prop :=
  Ready i s → dataFault p.1 a true u = none → dataFault p.1 (a + 1) true u = none →
    Runs i s (completed p len s (post p.1 (a + 1) hi (post p.1 a lo u)))

/-- A Helm core's access to address a faults, and the instruction gives way to DARK or BUSERR (R87, R119, R123). -/
def FaultsAt (i : Instr) (p : ProcId) (a : Word) (write : Bool) (s : State) : Prop :=
  ∀ k, Ready i s → isCell p.1 = false → dataFault p.1 a write s = some k →
    Runs i s (takeException p.1 (if k then 5 else 3) 0 (s.pcOf p.1) (recordFault a.toNat (procReq p.1 a.toNat s) k s))

/-- An instruction of form x may be taken up, whatever its encoding: its processor is at a boundary, the words at the PC are its
own or have an op that no instruction has (R130 to R132), they are fetched without a fault or a parity error, and no store is in the
way of an exception. -/
structure Reached (x : Form) (s : State) : Prop where
  may : mayIssue x.proc.1 s = true
  mine : (x.own || x.reserved) = true
  here : issuesHere x.proc.1 x.words s = true
  quiet : fetchQuiet x.proc.1 s
  fetched : fetchFails x.proc.1 s = none
  clean : fetchParity x.proc.1 s = s
  stored : (s.proc x.proc.1).posted = []

/-- The register that an instruction with a register result writes (R130, R131). -/
def destination (i : Instr) : Option (ProcId × BitVec 4) :=
  match i with
  | .mov p f => some (p, f.rd)
  | .add p f => some (p, f.rd)
  | .sub p f => some (p, f.rd)
  | .and p f => some (p, f.rd)
  | .or p f => some (p, f.rd)
  | .xor p f => some (p, f.rd)
  | .not p f => some (p, f.rd)
  | .neg p f => some (p, f.rd)
  | .addi p f => some (p, f.rd)
  | .subi p f => some (p, f.rd)
  | .shl p f => some (p, f.rd)
  | .shr p f => some (p, f.rd)
  | .sar p f => some (p, f.rd)
  | .mfs p f => some (p, f.rd)
  | .add3 p f => some (p, f.rd)
  | .sub3 p f => some (p, f.rd)
  | .and3 p f => some (p, f.rd)
  | .or3 p f => some (p, f.rd)
  | .xor3 p f => some (p, f.rd)
  | .shl3 p f => some (p, f.rd)
  | .shr3 p f => some (p, f.rd)
  | .sar3 p f => some (p, f.rd)
  | .addi16 p f => some (p, f.rd)
  | .andi p f => some (p, f.rd)
  | .ori p f => some (p, f.rd)
  | .xori p f => some (p, f.rd)
  | .shli p f => some (p, f.rd)
  | .shri p f => some (p, f.rd)
  | .sari p f => some (p, f.rd)
  | .ldi p f => some (p, f.rd)
  | .seq p f => some (p, f.rd)
  | .sne p f => some (p, f.rd)
  | .slt p f => some (p, f.rd)
  | .sltu p f => some (p, f.rd)
  | .carry p f => some (p, f.rd)
  | .snegov p f => some (p, f.rd)
  | _ => none

/-- Where a store stores, and how many words (R117). -/
def storeTarget (i : Instr) (s : State) : Option (ProcId × Word × Nat) :=
  match i with
  | .st p f => some (p, s.g p.1 f.rs + BitVec.ofNat 20 f.sub.toNat, 1)
  | .stUpdate p f => some (p, (updAddr p.1 f s).1, updWords f)
  | .st20 p f => some (p, s.g p.1 f.rs + f.w2, 1)
  | .stp p f => some (p, s.g p.1 f.rs + f.w2, 2)
  | .stx p f => some (p, indexed p.1 f.rs f.w2 s, 1)
  | .stpx p f => some (p, indexed p.1 f.rs f.w2 s, 2)
  | _ => none

/-- The register that a store changes, and its new value: the base of a base-update form (R117). -/
def storeBase (i : Instr) (s : State) : Option (BitVec 4 × Word) :=
  match i with
  | .stUpdate p f => some (f.rs, (updAddr p.1 f s).2)
  | _ => none

/-- A packet of stream st with opcode op is carried out next: none of the stream waits, its oldest packet is not held up by
another on the same thing (R378, R387), and no check of R377 fails. -/
structure Serves (st : Stream) (op : Nat) (p : Packet) (s : State) : Prop where
  runs : helm1Serves s = true
  free : waitOn st.1 s = none
  first : firstTaken st.1 s = some p
  mine : p.op = op
  clear : packetBlocked p s = false
  sound : checkPacket p s = none

/-- The state in which a packet that passes its checks is carried out: it has been taken out of those that wait, its stream
expects the next sequence, and it disarms the standing orders where R70 says so. -/
def accepted (p : Packet) (s : State) : State :=
  disarm p (advanceExpect p (s.mapHostif fun h => { h with taken := takeOut p.stream h.taken }))

/-- The stream and the opcode of a row that carries out a packet (R386). -/
def packetCommand (i : Instr) : Option (Stream × Nat) :=
  match i with
  | .hello st => some (st, 0x01)
  | .read st => some (st, 0x02)
  | .write st => some (st, 0x03)
  | .claim st => some (st, 0x04)
  | .release st => some (st, 0x05)
  | .state st => some (st, 0x06)
  | .protQuery st => some (st, 0x07)
  | .batteryQuery st => some (st, 0x08)
  | .imageInfo st => some (st, 0x09)
  | .resume st => some (st, 0x0A)
  | .keyConfig st => some (st, 0x0B)
  | .cellLoad st => some (st, 0x10)
  | .cellCommit st => some (st, 0x11)
  | .fix st => some (st, 0x12)
  | .fixRead st => some (st, 0x13)
  | .logArm st => some (st, 0x14)
  | .logRead st => some (st, 0x15)
  | .standingOrder st => some (st, 0x16)
  | .voteQuery st => some (st, 0x17)
  | .policySet st => some (st, 0x18)
  | .policyQuery st => some (st, 0x19)
  | .sxtEval st => some (st, 0x1A)
  | .sxtResult st => some (st, 0x1B)
  | .lockPacket st => some (st, 0x1C)
  | .moduleList st => some (st, 0x1D)
  | .moduleQuery st => some (st, 0x1E)
  | .almanacSave st => some (st, 0x1F)
  | .almanacLoad st => some (st, 0x20)
  | .pdStatus st => some (st, 0x21)
  | .pdRequest st _ => some (st, 0x22)
  | _ => none

end Sys2Proof.Machine
end

