-- ==== Sys2Proof/Certificates/Slice0/Obligations.lean ====
section
/-! DEFINITION. The statements for the provers: what the commands and the machine do, by the rules of spec/. -/

open Sys2Proof Sys2Proof.Machine

/-- The bus and claim commands complete (R33, R87, R88, R93, R98, R138). -/
def Obligations.BusAndClaimCommandsComplete : Prop :=
  ∀ s : State,
    (s.pwr.off = false → s.pwr.inReset = false → Runs .busGrant s ((arbiterGrant nobody s).2)) ∧
    (∀ (q : Req) (a v : Word), Admitted q a.toNat true s → a ≠ 0x72001#20 → a ≠ 0x72002#20 →
      Runs (.registerWrite q a v) s (busPut q.toNat a.toNat v s)) ∧
    (∀ (q : Req) (v : Word), Admitted q 0x70820 true s → Runs (.padHoldRelease q v) s (padHoldWrite v s)) ∧
    (∀ (q : Req) (p : Fin 285) (v : Word), Admitted q (padReg p.1) true s →
        Runs (.padWrite q p v) s (padWrite q.toNat p.1 v s)) ∧
    (∀ (q : Req) (v : Word), Admitted q 0x70C00 true s → Runs (.busClaim q v) s (claimWrite q.toNat (putFld v 18 2 1) s)) ∧
    (∀ (q : Req) (v : Word), Admitted q 0x70C00 true s →
        Runs (.busRelease q v) s (claimWrite q.toNat (putFld v 18 2 2) s)) ∧
    (∀ (q : Req) (v : Word), Admitted q 0x70C00 true s → Runs (.busQuery q v) s (claimWrite q.toNat (putFld v 18 2 0) s))

/-- The clock commands complete (R42, R44, R45, R49, R55, R78). -/
def Obligations.ClockCommandsComplete : Prop :=
  ∀ s : State,
    (∀ h : HelmId, s.pstate ≤ 1 → s.dead = false → Runs (.mtLowRead (.helm h)) s (mtHold h.1 s)) ∧
    (windowOn s = true → Runs (.mtLowRead .host) s (hostShown (wordOf s.mt 0) (mtHold 2 s))) ∧
    (∀ c : CellId, s.fabric = true → Runs (.mtLowRead (.cell c)) s (mtHold (3 + c.1) s)) ∧
    (loopRuns s = true → clkRefOk s = false → Runs .refclkQualified s (refQualified s)) ∧
    (clkRefOk s = true → clkLock s = false → Runs .qualificationFail s (qualificationFail s)) ∧
    (loopRuns s = true → clkRefOk s = true → clkLock s = false → Runs .lock s (clkLocked s)) ∧
    (s.pwr.off = false → s.pstate ≤ 1 → clkLock s = true → Runs .referenceLoss s (referenceLoss s)) ∧
    (s.dead = false → ((decide (s.pstate = 2) && clkLock s) || decide (s.pstate = 3)) = true →
        Runs .referenceLossSlateHold s (quietLoss s)) ∧
    (∀ (q : Req) (v : Word), Admitted q 0x70401 true s → Runs (.clkSwitchWrite q v) s (clkSwitchWrite v s)) ∧
    (clkBusy s = true → Runs .clockSwitchComplete s (switchComplete s)) ∧
    (s.clk.levelBusy.isSome = true → aligned s = true → Runs .divisorChange s (divisorChange s)) ∧
    (∀ (q : Req) (v : Word), Admitted q 0x70804 true s → Runs (.plChange q v) s (plWrite v s))

/-- The power commands complete (R43, R67, R70, R73, R76, R77, R81). -/
def Obligations.PowerCommandsComplete : Prop :=
  ∀ s : State,
    (loopRuns s = true → clkRefOk s = true → clkLock s = false → Runs .lockFail s (lockFail s)) ∧
    (atEdge s = true → (entryHandsOver s || (fabricLeaves s && s.clk.fabOn)) = true → Runs .mtHandover s (mtHandover s)) ∧
    (mayLoad s = true → Runs .fabricCounterLoad s (counterLoad s)) ∧
    (∀ (q : Req) (v : Word), Admitted q 0x70802 true s → Runs (.stateEntry (.write q v)) s (entryWrite q.toNat v s)) ∧
    (∀ n : Fin 8, s.rb 0x70800 6 = true → (List.range 8).find? (fun k => orderComplete k s) = some n.1 →
      Runs (.stateEntry (.order n)) s (ordersFire s)) ∧
    (entryReady s = true → Runs .entryCellsStopped s (entryAdvance s)) ∧
    (∀ (delays : Bool), asking s = true → Runs (.handshakeAsk delays) s (handshakeAsk delays s)) ∧
    (asking s = true → delaying s = true → Runs .handshakeTimeout s (handshakeTimeout s)) ∧
    (s.dead = false → Runs .standingOrderEvaluation s (ordersEvaluate s)) ∧
    (∀ (q : Req) (v : Word), Admitted q 0x70805 true s → Runs (.voteSet q v) s (voteWrite (putBit v 19 true) s)) ∧
    (∀ (q : Req) (v : Word), Admitted q 0x70805 true s → Runs (.voteWithdraw q v) s (voteWrite (putBit v 19 false) s)) ∧
    (∀ (d : DomId), mayRetain (d.1 + 1) s = true → Runs (.domainRetentionEntry d) s (retainDomain (d.1 + 1) s)) ∧
    (∀ (d : DomId), mayReady (d.1 + 1) s = true → Runs (.domainReady d) s (readyDomain (d.1 + 1) s)) ∧
    (levelDone s = true → Runs .plChangeComplete s (startWaiting (plComplete s))) ∧
    (∀ (src : BitVec 5), src.toNat < 0xA → s.dead = false → mayCome src.toNat s = true →
        Runs (.wakeEvent src) s (outsideEvent src.toNat s)) ∧
    (s.pwr.wake.isSome = true → Runs .wakeStep s (wakeStep s)) ∧
    (wakeDone s = true → Runs .wakeComplete s (wakeComplete s))

/-- The reset and boot commands complete (R80, R423, R424, R425, R430). -/
def Obligations.ResetAndBootCommandsComplete : Prop :=
  ∀ s : State,
    (s.pwr.off = false → Runs .brownOut s (brownOut s)) ∧
    (Runs .coldReset s (resetCold s)) ∧
    (s.pwr.off = false → Runs .pinReset s (resetKeep 1 s)) ∧
    ((s.proc 0).run = .lockup → (s.proc 1).run = .lockup → Runs .lockupReset s (resetKeep 5 s)) ∧
    (s.pwr.off = false → Runs .sysreset s (resetKeep 4 s)) ∧
    (∀ (q : Req) (v : Word), Admitted q 0x70002 true s → Runs (.softReset q v) s (sysResetWrite q.toNat v s)) ∧
    (mayRelease s = true → Runs .resetRelease s (release s)) ∧
    (booting s = true → Runs .bootSequence s (bootOn s)) ∧
    (∀ (kind : Bool) (ws : List Word), booting s = true → bootStage s = (if kind then 7 else 3) →
      s.boot.entryPoints = none → Runs (.flashContainerRead kind ws) s (flashRead kind ws s)) ∧
    (∀ e, s.boot.entryPoints = some e → booting s = true → Runs .imageHandover s (imageHandover e s)) ∧
    (∀ (q : Req) (v : Word), Admitted q 0x70004 true s → Runs (.otpAddrWrite q v) s (plainWrite 0x70004 v s)) ∧
    (∀ (a : Fin 256) (v : BitVec 16), s.pwr.off = false →
        Runs (.otpProg a v) s (s.mapBoot fun b =>
        { b with otp := update zeroAt b.otp a.1 (lookup zeroAt b.otp a.1 ||| v.toNat) })) ∧
    (Runs .powerOff s (goOff s)) ∧
    (∀ (above : Bool), s.pwr.off = false → Runs (.vdda33Crossing above) s (vddaCross above s))

/-- The commands of the control cells complete (R145, R147, R163, R164, R169, R185). -/
def Obligations.CellCommandsComplete : Prop :=
  ∀ s : State,
    (∀ (c : CellId), s.fabric = true → (s.cell c.1).fp.isSome = true → Runs (.fastPathComplete c) s (fpComplete c.1 s)) ∧
    (∀ (t : Turret), s.fabric = true → Runs (.forwardJobEnd t) s (forwardEnd t.1 s)) ∧
    (∀ (q : Req) (c : CellId), Admitted q (cellBase c.1) true s →
      Runs (.cellEnable q c) s (if cellWriter q.toNat then cellCtrlWrite c.1 (putBit (s.rd (cellBase c.1)) 0 true) s
        else s)) ∧
    (∀ (q : Req) (c : CellId), Admitted q (cellBase c.1) true s →
      Runs (.cellDisable q c) s (if cellWriter q.toNat then cellCtrlWrite c.1 (putBit (s.rd (cellBase c.1)) 0 false)
        s else s)) ∧
    (∀ (q : Req) (c : CellId) (v : Word), Admitted q (cellBase c.1 + 0xC) true s →
      Runs (.cellStandby q c v) s (if cellWriter q.toNat then plainWrite (cellBase c.1 + 0xC) v s else s)) ∧
    (∀ (w : ChanId), s.fabric = true → (isBoundary w.1 s.mt s || firstPeriod w.1 s) = true →
        Runs (.periodBoundary w) s (periodBoundary w.1 s)) ∧
    (∀ (q : Req) (c : CellId), Admitted q (cellBase c.1 + 0xB) true s →
      Runs (.commit q c) s (if cellWriter q.toNat then commitAsk c.1 s else s)) ∧
    (∀ (q : Req) (c : CellId), Admitted q (cellBase c.1 + 0xB) true s →
      Runs (.commitAck q c) s (if cellWriter q.toNat then commitAck c.1 s else s)) ∧
    (∀ (c : CellId), s.fabric = true → (s.cell c.1).checking = true →
        Runs (.commitCheckComplete c) s (checkComplete c.1 s)) ∧
    (∀ (c : CellId), s.fabric = true → (s.cell c.1).refill = true → Runs (.bankCopyComplete c) s (bankCopy c.1 s)) ∧
    (∀ (q : Req) (c : CellId) (w : Fin 128) (v : Word), Admitted q (cellBase c.1 + 0x100 + w.1) true s →
      Runs (.stagingWrite q c w v) s (if cellWriter q.toNat then stagingWrite c.1 w.1 v s else s)) ∧
    (∀ (q : Req) (c : CellId), Admitted q (cellBase c.1 + 7) true s →
        Runs (.sequencerStart q c) s (if isSystem q.toNat then seqCtrlWrite c.1 1 s else s)) ∧
    (∀ (q : Req) (c : CellId), Admitted q (cellBase c.1 + 7) true s →
        Runs (.sequencerStop q c) s (if isSystem q.toNat then seqCtrlWrite c.1 2 s else s)) ∧
    (∀ (c : CellId), (s.proc (seqProc c.1)).run = .running → (s.proc (seqProc c.1)).stopReq = true →
        (s.proc (seqProc c.1)).posted.isEmpty = true → Runs (.sequencerHalt c) s (seqHalt c.1 s))

/-- The commands of the PWM channels complete (R209, R211, R215, R218, R227, R229). -/
def Obligations.PwmCommandsComplete : Prop :=
  ∀ s : State,
    (∀ (w : ChanId), s.fabric = true → s.chanRuns w.1 = true → Runs (.edgeFire w) s (edgeFire w.1 s)) ∧
    (∀ (w : ChanId) (high : Bool), s.fabric = true → Runs (.deadTimeEnd w high) s (deadTimeEnd w.1 high s)) ∧
    (∀ (w : ChanId), s.fabric = true → s.chanRuns w.1 = true → Runs (.minPulseEnd w) s (minPulseEnd w.1 s)) ∧
    (∀ (q : Req) (w : ChanId) (v : Word), Admitted q (chanBase w.1 + 8) true s →
        Runs (.swdutyWrite q w v) s (chanWrite q.toNat w.1 8 v s)) ∧
    (∀ (q : Req) (w : ChanId), Admitted q (chanBase w.1) true s →
        Runs (.channelEnable q w) s (chanWrite q.toNat w.1 0 (putBit (s.rd (chanBase w.1)) 15 true) s)) ∧
    (∀ (q : Req) (w : ChanId), Admitted q (chanBase w.1) true s →
        Runs (.channelDisable q w) s (chanWrite q.toNat w.1 0 (putBit (s.rd (chanBase w.1)) 15 false) s)) ∧
    (∀ (w : ChanId), s.fabric = true → Runs (.calibrationSettled w)
        s (if w.1 < 20 then s.wb 0x73801 w.1 true else s.wb 0x73802 (w.1 - 20) true))

/-- The commands of the converters, ripple detectors and protection complete (R197, R232, R235, R240, R246, R250). -/
def Obligations.MeasurementAndProtectionCommandsComplete : Prop :=
  ∀ s : State,
    (∀ (k : Fin 16) (code : Int), s.fabric = true → s.clocked 3 = true → (s.conv k.1).busy = true →
        Runs (.conversionEnd k code) s (conversionEnd k.1 code s)) ∧
    (∀ (m : Fin 8), s.fabric = true → s.clocked 3 = true → rippleTimedOut m.1 s = true →
        Runs (.rippleLockTimeout m) s (withFreeze (rippleLost m.1) s)) ∧
    (∀ (t : Turret) (e : Fin 16), s.fabric = true → s.clocked 3 = true →
        Runs (.adcTrigger t e) s (adcTrigger (16 * t.1 + e.1) s)) ∧
    (∀ (q : Req) (t : Turret) (v : Word), Admitted q (adcBase t.1 + 4) true s →
        Runs (.adcSoftwareTrigger q t v) s (adcWrite q.toNat (adcBase t.1 + 4) v s)) ∧
    (∀ (k : Fin 16), s.fabric = true → s.clocked 3 = true → Runs (.samplingInstant k) s (samplingInstant k.1 s)) ∧
    (s.clocked 3 = true → refOk s = false → Runs .referenceSettled s (referenceSettled s)) ∧
    (∀ (k : Fin 64) (level : Nat), s.fabric = true → cmpWorks k.1 s = true →
        Runs (.comparatorChange k level) s (cmpChange k.1 level s)) ∧
    (∀ (k : Fin 64), s.fabric = true → (s.comp k.1).blanking = true → Runs (.blankingEnd k) s (blankingEnd k.1 s)) ∧
    (∀ (q : Req) (v : Word), Admitted q 0x72801 true s → Runs (.protTripClear q v) s (protTripWrite q.toNat v s)) ∧
    (∀ (q : Req) (i : Fin 16) (v : Word), Admitted q (0x72810 + 8 * i.1) true s →
        Runs (.protEntryEnable q i v) s (protCfgWrite q.toNat i.1 v s)) ∧
    (∀ (q : Req) (v : Word), Admitted q 0x72800 true s → Runs (.protLock q v) s (protLockWrite q.toNat v s))

/-- The commands of the position interfaces and vector units complete (R153, R154, R252, R258, R262, R263). -/
def Obligations.PositionAndVectorCommandsComplete : Prop :=
  ∀ s : State,
    (∀ (t : Turret), s.fabric = true → Runs (.forwardJobStart t) s (forwardStart t.1 s)) ∧
    (∀ (t : Turret), s.fabric = true → Runs (.inverseJobStart t) s (inverseStart t.1 s)) ∧
    (∀ (t : Turret), s.fabric = true → Runs (.inverseJobEnd t) s (inverseEnd t.1 s)) ∧
    (∀ (n : Fin 3) (lv : BitVec 6), s.fabric = true → filterPasses n.1 lv s = true →
        Runs (.positionEdge n lv) s (acceptLevels n.1 lv s)) ∧
    (∀ (n : Fin 3), s.fabric = true → speedTimedOut n.1 s.mt s = true →
        Runs (.speedTimeout n) s (s.at_ (s.mt + 1) (.slow n.1 s.mt))) ∧
    (∀ (n : Fin 3) (qnb : Bool), s.fabric = true → ssiDue n.1 s = true →
        Runs (.ssiFrameStart n qnb) s (ssiStart n.1 qnb s)) ∧
    (∀ (n : Fin 3) (data : Word), s.fabric = true → Runs (.ssiFrameEnd n data) s (withFreeze (ssiEnd n.1 data) s)) ∧
    (∀ (q : Req) (n : Fin 3) (v : Word), Admitted q (posBase n.1 + 0xA) true s →
        Runs (.turnsClear q n v) s (turnsWrite n.1 v s)) ∧
    (∀ (q : Req) (n : Fin 3) (v : Word), Admitted q (posBase n.1) true s →
        Runs (.posCtrlWrite q n v) s (withFreeze (posCtrlWrite n.1 v) s)) ∧
    (∀ (m : Fin 2), s.fabric = true → emuOn m.1 s = true → emuReady m.1 s = true → Runs (.emuStep m) s (emuStep m.1 s))

/-- The commands of the power policy and of USB PD complete (R269, R277, R280, R283, R284, R287). -/
def Obligations.PolicyAndPdCommandsComplete : Prop :=
  ∀ s : State,
    (∀ (x : PolicyReadings), policyRuns s = true → Runs (.policyTick x) s (policyTick x s)) ∧
    (∀ (mean : Nat) (sag1 : Nat) (sag2 : Nat), policyRuns s = true → 4000 < mean →
        Runs (.dcClassify mean sag1 sag2) s (classify (dcClassOf mean sag1 sag2 s) s)) ∧
    (policyRuns s = true → s.policy.dcPresent = true →
        Runs .dcInputRemoved s (standDown 0 true ((dcRemove s).mapPolicy fun p =>
        { p with sources := p.sources - p.sources % 2 }))) ∧
    (∀ (mv : Nat), mpptOn s = true → Runs (.mpptStep mv) s (mpptStep mv s)) ∧
    (∀ (mv : Option Nat), policyRuns s = true → srcEnabled 0 s = true → s.policy.dcClass = 4 →
        Runs (.openCircuitMeasure mv) s (openCircuit mv s)) ∧
    (∀ (power : Nat), policyRuns s = true → (crank s).isNone = true → srcEnabled 4 s = true → genSteady s = true →
        cutIn s = true → s.policy.backed = false → Runs (.generatorClimb power) s (commitGen (climb power s))) ∧
    (policyRuns s = true → genValid s = false →
        Runs .generatorSpeedLost s (commitGen (s.mapPolicy fun p => { p with gref := 0 }))) ∧
    (∀ (r : Option PackReading), policyRuns s = true → Runs (.batteryPoll r) s (batteryPoll r s)) ∧
    (∀ ma : Int, ma = (match packView s.policy.packLast s with | some v => v.ma | none => 0) →
      policyRuns s = true → s.policy.phase = 3 → ma < (bound 3 s : Int) →
        Runs .chargeDoneTimeout s ((s.mapPolicy fun p =>
          { p with phase := 4, chargeMa := 0, socNow := 100, socCount := chargeCount s,
                   fullCount := some (chargeCount s) }).wb 0x7080E 0
            (decide (s.policy.sources ≠ 0)))) ∧
    (policyRuns s = true → s.policy.phase = 1 →
        Runs .preChargeTimeout s (s.mapPolicy fun p => { p with phase := 6, chargeMa := 0 })) ∧
    (∀ (soc : Nat), policyRuns s = true → s.policy.smart = false → s.policy.packLast.packMa.natAbs < 50 →
        Runs (.socReset soc) s (s.mapPolicy fun p => { p with socNow := min 100 soc, socCount := chargeCount s })) ∧
    (∀ (port : Fin 3) (x : Attach), pdRuns port.1 s = true → (s.pdPort port.1).attached = false →
        Runs (.pdAttach port x) s (attach port.1 x s)) ∧
    (∀ (port : Fin 3), pdRuns port.1 s = true → (s.pdPort port.1).attached = true →
        Runs (.pdDetach port) s (s.modPdPort port.1 fun q => { PdPort.reset with lost := lostMark q })) ∧
    (∀ (port : Fin 3) (offers : List Pdo), pdRuns port.1 s = true → pdPort port.1 s = true →
        (s.pdPort port.1).source = false →
        Runs (.sourceCapabilities port offers)
        s (sinkRequest port.1 (s.modPdPort port.1 fun q => { q with offers := offers }))) ∧
    (∀ (port : Fin 3), pdRuns port.1 s = true → pdPort port.1 s = true →
        Runs (.discoverSvids port) s (answerWith port.1 4 s)) ∧
    (∀ (port : Fin 3), pdRuns port.1 s = true → pdPort port.1 s = true →
        Runs (.discoverModes port) s (answerWith port.1 4 s)) ∧
    (∀ (port : Fin 3), pdRuns port.1 s = true → pdPort port.1 s = true →
        Runs (.unsupportedPdMessage port) s (answerWith port.1 5 s)) ∧
    (∀ (port : Fin 3), pdRuns port.1 s = true → pdPort port.1 s = true → Runs (.prSwap port) s (prSwap port.1 s)) ∧
    (∀ (port : Fin 3), pdRuns port.1 s = true → pdPort port.1 s = true → Runs (.drSwap port) s (drSwap port.1 s)) ∧
    (∀ (port : Fin 3), pdRuns port.1 s = true → pdPort port.1 s = true → Runs (.vconnSwap port) s (vconnSwap port.1 s)) ∧
    (∀ (port : Fin 3), pdRuns port.1 s = true → pdPort port.1 s = true → Runs (.hardReset port) s (hardReset port.1 s)) ∧
    (∀ (port : Fin 3) (sopPrime : Bool) (epr : Bool), pdRuns port.1 s = true → pdPort port.1 s = true →
        Runs (.discoverIdentity port sopPrime epr)
        s (s.modPdPort port.1 fun q => { q with answer := 6, cableEpr := if sopPrime then epr else q.cableEpr })) ∧
    (∀ (port : Fin 3) (i : Nat) (ma : Nat) (mv : Nat), pdRuns port.1 s = true → pdPort port.1 s = true →
        (s.pdPort port.1).source = true → Runs (.partnerRequest port i ma mv) s (partnerRequest port.1 i ma mv s))

/-- The commands of the Fix, the counters and the Logbook complete (R292, R294, R296, R299, R301, R304). -/
def Obligations.FixAndLogbookCommandsComplete : Prop :=
  ∀ s : State,
    (∀ (q : Req) (i : Fin 320), Admitted q (0x74400 + 2 * i.1) false s →
        Runs (.counterLowRead q i) s ((fixWindowRead q.toNat (0x74400 + 2 * i.1) s).2)) ∧
    (∀ (q : Req), Admitted q 0x74000 true s → Runs (.fixTrig q) s (fixCtrlWrite q.toNat (putBit (s.rd 0x74000) 0 true) s)) ∧
    (∀ (q : Req), Admitted q 0x74000 true s → Runs (.fixHost q) s (fixCtrlWrite q.toNat (putBit (s.rd 0x74000) 1 true) s)) ∧
    (s.fabric = true → fixDue s = true → Runs .fixPeriodic s (fixPeriodic s)) ∧
    (s.fabric = true → captured s = true → Runs .fixComplete s (fixComplete s)) ∧
    (∀ (q : Req), Admitted q 0x74004 false s → Runs (.fixOpen q) s (fixOpen q.toNat s)) ∧
    (∀ (q : Req) (v : Word), Admitted q 0x74005 true s →
        Runs (.fixClose q v) s (if tst v 0 then fixUnpin q.toNat s else s)) ∧
    (s.clocked 2 = true → s.blockStopped 8 = false → Runs .logRecordWrite s (writeRecord s)) ∧
    (∀ (q : Req) (v : Word), Admitted q 0x7E00C true s → Runs (.logSwrec q v) s (logSwrec v s)) ∧
    (∀ (q : Req) (v : Word), Admitted q 0x7E01A true s → Runs (.traceArm q v) s (traceCtrlWrite (putBit v 19 true) s)) ∧
    (∀ (q : Req) (v : Word), Admitted q 0x7E01A true s → Runs (.traceDisarm q v) s (traceCtrlWrite (putBit v 19 false) s)) ∧
    (∀ (q : Req), Admitted q 0x7E01A true s → Runs (.traceSoftwareTrigger q)
        s (traceCtrlWrite (putBit (s.rd 0x7E01A) 18 true) s)) ∧
    (s.fabric = true → (decide (s.rf 0x7E001 14 2 = 1) || decide (s.rf 0x7E001 14 2 = 2)) = true → traceDue s = true →
        Runs .traceSample s (traceSample s))

/-- The commands of Sextant's queues, registers and microcode complete (R316, R317, R320, R328, R329, R334, R337,
R338). -/
def Obligations.SextantQueueAndMicrocodeCommandsComplete : Prop :=
  ∀ s : State,
    (∀ (q : Req) (a : Word), s.dead = false → (s.pstate ≤ 1 → 0x20 ≤ q.toNat) → (2 ≤ s.pstate →
        Admitted q 0x72001 true s) →
      Runs (.sxtSubmitInteractive q a) s (sxtSubmit q.toNat false a s)) ∧
    (∀ (q : Req) (a : Word), s.dead = false → (s.pstate ≤ 1 → 0x20 ≤ q.toNat) → (2 ≤ s.pstate →
        Admitted q 0x72002 true s) →
      Runs (.sxtSubmitBulk q a) s (sxtSubmit q.toNat true a s)) ∧
    (∀ (q : Req) (bulk : Bool), Admitted q (if bulk then 0x72004 else 0x72003) false s →
        Runs (.sxtDoneRead q bulk) s ((sxtDone bulk s).2)) ∧
    (∀ (x : MicroFetch) (nano : BitVec 128) (nanoOk : Bool) (w : Word) (u : State), u = microSit s →
        microRuns s = true → microFetch x u.sxt.upc u = .word w → microKind w = some .nano →
        Runs (.microNano x nano nanoOk) s (microNano nano nanoOk w u)) ∧
    (∀ (x : MicroFetch) (w : Word) (u : State), u = microSit s → microRuns s = true →
        microFetch x u.sxt.upc u = .word w → microKind w = some .jump →
        Runs (.microJump x) s (microGo (fld w 0 13) u)) ∧
    (∀ (x : MicroFetch) (w : Word) (u : State), u = microSit s → microRuns s = true →
        microFetch x u.sxt.upc u = .word w → microKind w = some .call → Runs (.microCall x) s (microCall w u)) ∧
    (∀ (x : MicroFetch) (w : Word) (u : State), u = microSit s → microRuns s = true →
        microFetch x u.sxt.upc u = .word w → microKind w = some .ret → Runs (.microReturn x) s (microReturn u)) ∧
    (∀ (x : MicroFetch) (e : BitVec 13) (ok : Bool),
      (∀ n, sxtNext s = some n → Runs (.microDispatch x e ok) s (dispatchTo e ok (sxtBegin n.1 n.2 s))) ∧
      (sxtNext s = none → sxtUp s = true → s.sxt.run.isSome = true → s.sxt.mchk = none → 0x2000 ≤ s.sxt.upc →
        Runs (.microDispatch x e ok) s (dispatchTo e ok s)) ∧
      (∀ w u, sxtNext s = none → s.sxt.upc < 0x2000 → u = microSit s → microRuns s = true →
        microFetch x u.sxt.upc u = .word w → microKind w = some .dispatch →
        Runs (.microDispatch x e ok) s (dispatchTo e ok u))) ∧
    (∀ (x : MicroFetch) (w : Word) (u : State), u = microSit s → microRuns s = true →
        microFetch x u.sxt.upc u = .word w → microKind w = some .branch → Runs (.microBranch x) s (microBranch w u)) ∧
    (∀ (x : MicroFetch) (w : Word) (u : State), u = microSit s → microRuns s = true →
        microFetch x u.sxt.upc u = .word w → microKind w = some .lit → Runs (.microLit x) s (microLit w u)) ∧
    (∀ (x : MicroFetch) (w : Word) (u : State), u = microSit s → microRuns s = true →
        microFetch x u.sxt.upc u = .word w → microKind w = some .safe → Runs (.microSafe x) s (microSafe w u)) ∧
    (∀ (x : MicroFetch) (w : Word) (u : State), u = microSit s → microRuns s = true →
        microFetch x u.sxt.upc u = .word w → microKind w = some .fin → Runs (.microEnd x) s (microEnd w u)) ∧
    (∀ (a : BitVec 8) (w : BitVec 128) (ok : Bool), s.clocked 1 = true → s.pwr.off = false → s.pwr.inReset = false →
      (s.rb 0x72017 19 = false ∨ s.sxt.mchk.isSome = true) → (s.sxt.hpc = none ∨ s.sxt.hpc = some a.toNat) →
        Runs (.horizontalWord a w ok) s (horizontalRun a.toNat w ok s)) ∧
    (∀ (o : SxtOp) (bad : Option (BitVec 8)), s.sxt.part = some o → sxtUp s = true → s.sxt.run = none →
        s.sxt.mchk = none →
      higherReady o.word0 o.closed s = false → Runs (.bulkResume bad) s (bulkResume o bad s)) ∧
    (∀ (m : Nat × Nat) (ok : Bool), s.sxt.mchk = some m → s.clocked 1 = true →
      Runs (.mchkReread ok) s (if ok && rereads m.1 m.2 s then mchkRecover s else mchkPersist s)) ∧
    (∀ (pass : Bool) (stage : BitVec 2) (u : State), s.clocked 1 = true → s.pwr.off = false → s.pwr.inReset = false →
      s.rb 0x72017 19 = false → s.sxt.mchk = none →
      (s.rb 0x72014 15 = false →
        u = s.wr 0x72017 (BitVec.ofNat 20 (2 ^ 19 + pass.toNat * 2 ^ 18 + (if pass then 0 else stage.toNat) * 2 ^
        16)) →
        Runs (.sxtSelftest pass stage) s ((u.wb 0x72000 19 (!pass)).mapSxt fun x => { x with hpc := none })) ∧
      (s.rb 0x72014 15 = true → u = s.wr 0x72017 (BitVec.ofNat 20 (2 ^ 19)) →
        Runs (.sxtSelftest pass stage) s ((u.wb 0x72000 19 true).mapSxt fun x => { x with hpc := none }))) ∧
    (∀ (q : Req), Admitted q 0x72011 true s → Runs (.patchHold q) s (patchCtrlWrite q.toNat 1 s)) ∧
    (∀ (q : Req), Admitted q 0x72011 true s → Runs (.patchRelease q) s (patchCtrlWrite q.toNat 0 s)) ∧
    (∀ (q : Req) (v : Word), Admitted q 0x72013 true s → Runs (.patchData q v) s (patchDataWrite q.toNat v s)) ∧
    (∀ (q : Req), Admitted q 0x72008 true s → Runs (.calcClear q) s (calcCtrlWrite (putBit (s.rd 0x72008) 1 true) s))

/-- Every Sextant operation runs from start to completion (R312, R318, R319, R331). -/
def Obligations.SextantOperationsComplete : Prop :=
  ∀ (s t : State) (x : Nat × Word), sxtNext s = some x → t = sxtFinish (sxtBegin x.1 x.2 s) →
    (nextOp s = some 0x01 → Runs .sxtAdd s t) ∧
    (nextOp s = some 0x02 → Runs .sxtSub s t) ∧
    (nextOp s = some 0x03 → Runs .sxtMul s t) ∧
    (nextOp s = some 0x04 → Runs .sxtDiv s t) ∧
    (nextOp s = some 0x05 → Runs .sxtRem s t) ∧
    (nextOp s = some 0x06 → Runs .sxtSqrt s t) ∧
    (nextOp s = some 0x07 → Runs .sxtSqr s t) ∧
    (nextOp s = some 0x08 → Runs .sxtPow s t) ∧
    (nextOp s = some 0x09 → Runs .sxtExp s t) ∧
    (nextOp s = some 0x0A → Runs .sxtLn s t) ∧
    (nextOp s = some 0x0B → Runs .sxtExp10 s t) ∧
    (nextOp s = some 0x0C → Runs .sxtLog10 s t) ∧
    (nextOp s = some 0x10 → Runs .sxtSin s t) ∧
    (nextOp s = some 0x11 → Runs .sxtCos s t) ∧
    (nextOp s = some 0x12 → Runs .sxtTan s t) ∧
    (nextOp s = some 0x13 → Runs .sxtAsin s t) ∧
    (nextOp s = some 0x14 → Runs .sxtAcos s t) ∧
    (nextOp s = some 0x15 → Runs .sxtAtan s t) ∧
    (nextOp s = some 0x16 → Runs .sxtAtan2 s t) ∧
    (nextOp s = some 0x17 → Runs .sxtSinh s t) ∧
    (nextOp s = some 0x18 → Runs .sxtCosh s t) ∧
    (nextOp s = some 0x19 → Runs .sxtTanh s t) ∧
    (nextOp s = some 0x1A → Runs .sxtAsinh s t) ∧
    (nextOp s = some 0x1B → Runs .sxtAcosh s t) ∧
    (nextOp s = some 0x1C → Runs .sxtAtanh s t) ∧
    (nextOp s = some 0x20 → Runs .sxtFact s t) ∧
    (nextOp s = some 0x21 → Runs .sxtNcr s t) ∧
    (nextOp s = some 0x22 → Runs .sxtNpr s t) ∧
    (nextOp s = some 0x28 → Runs .fromInt40 s t) ∧
    (nextOp s = some 0x29 → Runs .toInt40 s t) ∧
    (nextOp s = some 0x2A → Runs .integral s t) ∧
    (nextOp s = some 0x2B → Runs .toRad s t) ∧
    (nextOp s = some 0x2C → Runs .fromRad s t) ∧
    (nextOp s = some 0x30 → Runs .statClr s t) ∧
    (nextOp s = some 0x31 → Runs .statAdd s t) ∧
    (nextOp s = some 0x32 → Runs .statDel s t) ∧
    (nextOp s = some 0x33 → Runs .statMean s t) ∧
    (nextOp s = some 0x34 → Runs .statSdev s t) ∧
    (nextOp s = some 0x35 → Runs .statPsdev s t) ∧
    (nextOp s = some 0x36 → Runs .statLinreg s t) ∧
    (nextOp s = some 0x37 → Runs .statEstY s t) ∧
    (nextOp s = some 0x38 → Runs .statEstX s t) ∧
    (nextOp s = some 0x00 → Runs .badop s t)

/-- Every calculator key completes (R318, R324, R325, R326). -/
def Obligations.CalculatorKeysComplete : Prop :=
  ∀ s : State,
    (∀ (n : Fin 10) (r : List Nat), calcNext s = some (0x10 + n.1, r) → calcUp s = true → s.sxt.run = none →
        Runs (.calcDigit n) s (calcKey (0x10 + n.1) r (fun _ => digitKey n.1) (calcDispatch (0x10 + n.1) s))) ∧
    (∀ (r : List Nat), calcNext s = some (0x1A, r) → calcUp s = true → s.sxt.run = none →
      Runs .calcDecimalPoint s (calcKey 0x1A r (fun _ => onCalc fun c => { c with
        entry := some (if (entryOf c).expOn || (entryOf c).point.isSome then entryOf c
          else { entryOf c with point := some (entryOf c).digits.length }),
        opLast := false }) (calcDispatch 0x1A s))) ∧
    (∀ (r : List Nat), calcNext s = some (0x1B, r) → calcUp s = true → s.sxt.run = none →
        Runs .calcExp s (calcKey 0x1B r (fun _ => onCalc fun c =>
        { c with entry := some { entryOf c with expOn := true }, opLast := false }) (calcDispatch 0x1B s))) ∧
    (∀ (r : List Nat), calcNext s = some (0x1C, r) → calcUp s = true → s.sxt.run = none →
        Runs .calcSign s (calcKey 0x1C r (fun _ => onCalc signKey) (calcDispatch 0x1C s))) ∧
    (∀ (r : List Nat), calcNext s = some (0x1D, r) → calcUp s = true → s.sxt.run = none →
        Runs .calcDel s (calcKey 0x1D r (fun _ => onCalc fun c =>
        { c with entry := c.entry.map entryDelete }) (calcDispatch 0x1D s))) ∧
    (∀ (r : List Nat), calcNext s = some (0x1E, r) → calcUp s = true → s.sxt.run = none →
        Runs .calcC s (calcKey 0x1E r (fun _ => onCalc clearKey) (calcDispatch 0x1E s))) ∧
    (∀ (r : List Nat), calcNext s = some (0x1F, r) → calcUp s = true → s.sxt.run = none →
        Runs .calcAc s (calcKey 0x1F r (fun _ => onCalc allClearKey) (calcDispatch 0x1F s))) ∧
    (∀ (r : List Nat), calcNext s = some (0x20, r) → calcUp s = true → s.sxt.run = none →
        Runs .calcPlus s (calcKey 0x20 r (fun pick => onCalc (operatorKey 0x20 pick)) (calcDispatch 0x20 s))) ∧
    (∀ (r : List Nat), calcNext s = some (0x21, r) → calcUp s = true → s.sxt.run = none →
        Runs .calcMinus s (calcKey 0x21 r (fun pick => onCalc (operatorKey 0x21 pick)) (calcDispatch 0x21 s))) ∧
    (∀ (r : List Nat), calcNext s = some (0x22, r) → calcUp s = true → s.sxt.run = none →
        Runs .calcTimes s (calcKey 0x22 r (fun pick => onCalc (operatorKey 0x22 pick)) (calcDispatch 0x22 s))) ∧
    (∀ (r : List Nat), calcNext s = some (0x23, r) → calcUp s = true → s.sxt.run = none →
        Runs .calcDivide s (calcKey 0x23 r (fun pick => onCalc (operatorKey 0x23 pick)) (calcDispatch 0x23 s))) ∧
    (∀ (r : List Nat), calcNext s = some (0x24, r) → calcUp s = true → s.sxt.run = none →
        Runs .calcYPowX s (calcKey 0x24 r (fun pick => onCalc (operatorKey 0x24 pick)) (calcDispatch 0x24 s))) ∧
    (∀ (r : List Nat), calcNext s = some (0x25, r) → calcUp s = true → s.sxt.run = none →
        Runs .calcNcr s (calcKey 0x25 r (fun pick => onCalc (operatorKey 0x25 pick)) (calcDispatch 0x25 s))) ∧
    (∀ (r : List Nat), calcNext s = some (0x26, r) → calcUp s = true → s.sxt.run = none →
        Runs .calcNpr s (calcKey 0x26 r (fun pick => onCalc (operatorKey 0x26 pick)) (calcDispatch 0x26 s))) ∧
    (∀ (r : List Nat), calcNext s = some (0x27, r) → calcUp s = true → s.sxt.run = none →
        Runs .calcOpenParen s (calcKey 0x27 r (fun _ => onCalc openKey) (calcDispatch 0x27 s))) ∧
    (∀ (r : List Nat), calcNext s = some (0x28, r) → calcUp s = true → s.sxt.run = none →
        Runs .calcCloseParen s (calcKey 0x28 r closeKey (calcDispatch 0x28 s))) ∧
    (∀ (r : List Nat), calcNext s = some (0x29, r) → calcUp s = true → s.sxt.run = none →
        Runs .calcEquals s (calcKey 0x29 r equalsKey (calcDispatch 0x29 s))) ∧
    (∀ (r : List Nat), calcNext s = some (0x2A, r) → calcUp s = true → s.sxt.run = none →
        Runs .calcAns s (calcKey 0x2A r (fun _ => withNum 0x3D140 fun d =>
        onCalc (showResult d)) (calcDispatch 0x2A s))) ∧
    (∀ (r : List Nat), calcNext s = some (0x30, r) → calcUp s = true → s.sxt.run = none →
        Runs .calcSto s (calcKey 0x30 r (fun _ => onCalc fun c =>
        { c with memKey := some 0x30 }) (calcDispatch 0x30 s))) ∧
    (∀ (r : List Nat), calcNext s = some (0x31, r) → calcUp s = true → s.sxt.run = none →
        Runs .calcRcl s (calcKey 0x31 r (fun _ => onCalc fun c =>
        { c with memKey := some 0x31 }) (calcDispatch 0x31 s))) ∧
    (∀ (r : List Nat), calcNext s = some (0x32, r) → calcUp s = true → s.sxt.run = none →
        Runs .calcMPlus s (calcKey 0x32 r
        (fun _ => onCalc fun c => { c with memKey := some 0x32 }) (calcDispatch 0x32 s))) ∧
    (∀ (r : List Nat), calcNext s = some (0x33, r) → calcUp s = true → s.sxt.run = none →
        Runs .calc2nd s (calcKey 0x33 r (fun _ => onCalc fun c => { c with second := true }) (calcDispatch 0x33 s))) ∧
    (∀ (op : BitVec 8) (r : List Nat), op.toNat < 0x30 → calcNext s = some (0x40 + op.toNat, r) → calcUp s = true →
      s.sxt.run = none → Runs (.calcUnary op) s (calcKey (0x40 + op.toNat) r (fun pick => onCalc fun c =>
        showResult (opValue op.toNat 0 c.unit pick (calcX c) (dZero false)).1 c) (calcDispatch (0x40 + op.toNat) s))) ∧
    (∀ (r : List Nat), calcNext s = some (0x70, r) → calcUp s = true → s.sxt.run = none →
        Runs .calcSigmaPlus s (calcKey 0x70 r (fun _ => sigmaKey false) (calcDispatch 0x70 s))) ∧
    (∀ (r : List Nat), calcNext s = some (0x71, r) → calcUp s = true → s.sxt.run = none →
        Runs .calcSigmaMinus s (calcKey 0x71 r (fun _ => sigmaKey true) (calcDispatch 0x71 s))) ∧
    (∀ (r : List Nat), calcNext s = some (0x72, r) → calcUp s = true → s.sxt.run = none →
        Runs .calcXySeparator s (calcKey 0x72 r
        (fun _ => onCalc fun c => { endEntry c with xy := some (calcX c), opLast := false }) (calcDispatch 0x72 s))) ∧
    (∀ (r : List Nat), calcNext s = some (0x73, r) → calcUp s = true → s.sxt.run = none →
        Runs .calcMean s (calcKey 0x73 r (statKey 0x73) (calcDispatch 0x73 s))) ∧
    (∀ (r : List Nat), calcNext s = some (0x74, r) → calcUp s = true → s.sxt.run = none →
        Runs .calcSdev s (calcKey 0x74 r (statKey 0x74) (calcDispatch 0x74 s))) ∧
    (∀ (r : List Nat), calcNext s = some (0x75, r) → calcUp s = true → s.sxt.run = none →
        Runs .calcPsdev s (calcKey 0x75 r (statKey 0x75) (calcDispatch 0x75 s))) ∧
    (∀ (r : List Nat), calcNext s = some (0x76, r) → calcUp s = true → s.sxt.run = none →
        Runs .calcRegression s (calcKey 0x76 r (statKey 0x76) (calcDispatch 0x76 s))) ∧
    (∀ (r : List Nat), calcNext s = some (0x77, r) → calcUp s = true → s.sxt.run = none →
        Runs .calcYHat s (calcKey 0x77 r (statKey 0x77) (calcDispatch 0x77 s))) ∧
    (∀ (r : List Nat), calcNext s = some (0x78, r) → calcUp s = true → s.sxt.run = none →
        Runs .calcXHat s (calcKey 0x78 r (statKey 0x78) (calcDispatch 0x78 s))) ∧
    (∀ (r : List Nat), calcNext s = some (0x79, r) → calcUp s = true → s.sxt.run = none →
        Runs .calcClearStats s (calcKey 0x79 r (fun _ => zeroNumbers 0x3D1A0 6) (calcDispatch 0x79 s))) ∧
    (∀ (r : List Nat), calcNext s = some (0x7A, r) → calcUp s = true → s.sxt.run = none → Runs .calcAngleUnit s
      (calcKey 0x7A r (fun _ => onCalc fun c =>
        { c with unit := if c.unit = 1 then 0 else if c.unit = 0 then 2 else 1 }) (calcDispatch 0x7A s))) ∧
    (∀ (r : List Nat), calcNext s = some (0x7B, r) → calcUp s = true → s.sxt.run = none →
        Runs .calcHistoryBack s (calcKey 0x7B r (fun _ => historyKey true) (calcDispatch 0x7B s))) ∧
    (∀ (r : List Nat), calcNext s = some (0x7C, r) → calcUp s = true → s.sxt.run = none →
        Runs .calcHistoryForward s (calcKey 0x7C r (fun _ => historyKey false) (calcDispatch 0x7C s))) ∧
    (∀ (r : List Nat), calcNext s = some (0x7D, r) → calcUp s = true → s.sxt.run = none →
        Runs .calcScroll s (calcKey 0x7D r
        (fun _ => onCalc fun c => { c with scroll := (c.scroll + 1) % scrollViews c.base }) (calcDispatch 0x7D s))) ∧
    (∀ (r : List Nat), calcNext s = some (0x7E, r) → calcUp s = true → s.sxt.run = none →
        Runs .calcBase s (calcKey 0x7E r
        (fun _ => onCalc fun c => { c with base := (c.base + 1) % 4 }) (calcDispatch 0x7E s))) ∧
    (∀ (r : List Nat), calcNext s = some (0x7F, r) → calcUp s = true → s.sxt.run = none →
        Runs .calcReciprocal s (calcKey 0x7F r
        (fun _ => onCalc fun c => showResult (dDiv 0 dOne (calcX c)).1 c) (calcDispatch 0x7F s)))

/-- The commands of the keyboard scanner and of Cupola complete (R343, R351, R353, R354, R357, R361). -/
def Obligations.KeyboardAndCupolaCommandsComplete : Prop :=
  ∀ s : State,
    (scannerOn s = true → s.key.scanning = false →
        Runs .scanStart s (s.mapKey fun k => { k with scanning := true, scanAt := s.mt })) ∧
    (∀ (raw : BitVec 144), scannerOn s = true → s.key.scanning = true → Runs (.scanEnd raw) s (scanEnd raw s)) ∧
    (examLock s = true → unlockLate s = true → s.ifaceOn 5 = true →
        Runs .unlockTimeout s (s.mapKey fun k => { k with pos := 0 })) ∧
    (∀ q : Req, (windowOn s = true → Runs (.keyFifoRead true q) s (hostShown (fifoPop true s).1 (fifoPop true s).2)) ∧
      (Admitted q 0x71803 false s → Runs (.keyFifoRead false q) s (fifoPop false s).2)) ∧
    (∀ (q : Req) (v : Word), (windowOn s = true → tst v 0 = true → Runs (.lockSet true q v) s (setLock (endFrame s))) ∧
      (Admitted q 0x71822 true s → Runs (.lockSet false q v) s (keyWrite q.toNat 0x71822 v s))) ∧
    (framesRun s = true → Runs .cupolaFrame s (frameEnd s)) ∧
    (∀ (ok : Bool), s.ifaceOn 6 = true → (!ok || s.rb 0x71C00 2) = true →
        Runs (.pumpOkChange ok) s (framesBegin (framesRun s) (s.wb 0x71C02 19 ok)))

/-- The commands of the host link complete (R366, R370, R371, R372, R385). -/
def Obligations.HostLinkCommandsComplete : Prop :=
  ∀ s : State,
    (∀ (c : BitVec 8) (v : BitVec 24), windowOn s = true → cmdRead c = false → Runs (.hostWrite c v) s (hostWrite c v s)) ∧
    (∀ (g : HostGroup), windowOn s = true → groupFits g s = true → Runs (.hostRead g) s (hostRead g s)) ∧
    (windowOn s = true → Runs .frameAbort s (hostError 11 11 (endFrame s))) ∧
    (∀ (v : Word), windowOn s = true → Runs (.txDataWrite v) s (txPush v (endFrame s))) ∧
    (windowOn s = true → Runs .rxDataRead s (hostRead { cmd := 0x87, first := true } s)) ∧
    (windowOn s = true → Runs .txFlush s (txFlush (endFrame s))) ∧
    (windowOn s = true → Runs .rxFlush s (rxFlush (endFrame s))) ∧
    (∀ (v : Word), windowOn s = true → Runs (.ring v) s (ringHost v (endFrame s))) ∧
    (∀ q : Req, (q = 0x21#6 → helm1Serves s = true → s.host.taken.length < 16 →
        Runs (.hostifTxRead q) s (serviceRead s)) ∧
      (q ≠ 0x21#6 → Admitted q 0x71000 false s → Runs (.hostifTxRead q) s (txPop s).2)) ∧
    (∀ q : Req, (q = 0x21#6 → helm1Serves s = true → s.host.rx.length < 64 → Runs (.hostifRxWrite q) s (serviceWrite s)) ∧
      (q ≠ 0x21#6 → Admitted q 0x71001 true s → Runs (.hostifRxWrite q) s (hostifCfgErr s))) ∧
    (∀ (q : Req) (v : Word), Admitted q 0x71004 true s → Runs (.dmsgWrite q v) s (hostifWrite q.toNat 0x71004 v s)) ∧
    (∀ (q : Req) (v : Word), Admitted q 0x71006 true s →
        Runs (.dmaStart q v) s (hostifWrite q.toNat 0x71006 (putBit v 19 true) s))

/-- Every Nguir packet that passes its checks is carried out (R377, R378, R381, R387, R389). -/
def Obligations.NguirPacketsComplete : Prop :=
  ∀ s : State,
    (∀ (st : Stream) (p : Packet), Serves st 0x01 p s → Runs (.hello st) s (actHello p (accepted p s))) ∧
    (∀ (st : Stream) (p : Packet), Serves st 0x02 p s → Runs (.read st) s (actRead p (accepted p s))) ∧
    (∀ (st : Stream) (p : Packet), Serves st 0x03 p s → Runs (.write st) s (actWrite p (accepted p s))) ∧
    (∀ (st : Stream) (p : Packet), Serves st 0x04 p s → Runs (.claim st) s (actClaims 1 p (accepted p s))) ∧
    (∀ (st : Stream) (p : Packet), Serves st 0x05 p s → Runs (.release st) s (actClaims 2 p (accepted p s))) ∧
    (∀ (st : Stream) (p : Packet), Serves st 0x06 p s → Runs (.state st) s (actState p (accepted p s))) ∧
    (∀ (st : Stream) (p : Packet), Serves st 0x07 p s → Runs (.protQuery st) s (actProtQuery p (accepted p s))) ∧
    (∀ (st : Stream) (p : Packet), Serves st 0x08 p s → Runs (.batteryQuery st) s (actBatteryQuery p (accepted p s))) ∧
    (∀ (st : Stream) (p : Packet), Serves st 0x09 p s → Runs (.imageInfo st) s (actImageInfo p (accepted p s))) ∧
    (∀ (st : Stream) (p : Packet), Serves st 0x0A p s → Runs (.resume st) s (actResume p (accepted p s))) ∧
    (∀ (st : Stream) (p : Packet), Serves st 0x0B p s → Runs (.keyConfig st) s (actKeyConfig p (accepted p s))) ∧
    (∀ (st : Stream) (p : Packet), Serves st 0x10 p s → Runs (.cellLoad st) s (actCellLoad p (accepted p s))) ∧
    (∀ (st : Stream) (p : Packet), Serves st 0x11 p s → Runs (.cellCommit st) s (actCellCommit p (accepted p s))) ∧
    (∀ (st : Stream) (p : Packet), Serves st 0x12 p s → Runs (.fix st) s (actFix p (accepted p s))) ∧
    (∀ (st : Stream) (p : Packet), Serves st 0x13 p s → Runs (.fixRead st) s (actFixRead p (accepted p s))) ∧
    (∀ (st : Stream) (p : Packet), Serves st 0x14 p s → Runs (.logArm st) s (actLogArm p (accepted p s))) ∧
    (∀ (st : Stream) (p : Packet), Serves st 0x15 p s → Runs (.logRead st) s (actLogRead p (accepted p s))) ∧
    (∀ (st : Stream) (p : Packet), Serves st 0x16 p s → Runs (.standingOrder st) s (actStandingOrder p (accepted p s))) ∧
    (∀ (st : Stream) (p : Packet), Serves st 0x17 p s → Runs (.voteQuery st) s (actVoteQuery p (accepted p s))) ∧
    (∀ (st : Stream) (p : Packet), Serves st 0x18 p s → Runs (.policySet st) s (actPolicySet p (accepted p s))) ∧
    (∀ (st : Stream) (p : Packet), Serves st 0x19 p s → Runs (.policyQuery st) s (actPolicyQuery p (accepted p s))) ∧
    (∀ (st : Stream) (p : Packet), Serves st 0x1A p s → Runs (.sxtEval st) s (actSxtEval p (accepted p s))) ∧
    (∀ (st : Stream) (p : Packet), Serves st 0x1B p s → Runs (.sxtResult st) s (actSxtResult p (accepted p s))) ∧
    (∀ (st : Stream) (p : Packet), Serves st 0x1D p s → Runs (.moduleList st) s (actModuleList p (accepted p s))) ∧
    (∀ (st : Stream) (p : Packet), Serves st 0x1E p s → Runs (.moduleQuery st) s (actModuleQuery p (accepted p s))) ∧
    (∀ (st : Stream) (p : Packet), Serves st 0x1F p s → Runs (.almanacSave st) s (actAlmanacSave p (accepted p s))) ∧
    (∀ (st : Stream) (p : Packet), Serves st 0x20 p s → Runs (.almanacLoad st) s (actAlmanacLoad p (accepted p s))) ∧
    (∀ (st : Stream) (p : Packet), Serves st 0x21 p s → Runs (.pdStatus st) s (actPdStatus p (accepted p s))) ∧
    (∀ (st : Stream) (ok : Bool) (p : Packet), Serves st 0x22 p s →
        Runs (.pdRequest st ok) s (actPdRequest ok p (accepted p s))) ∧
    (∀ (st : Stream) (p : Packet), helm1Serves s = true → waitOn st.1 s = none → firstTaken st.1 s = some p →
      packetBlocked p s = false → checkPacket p s = some (0x02, 0) → Runs (.unsupportedPacket st) s
        (respond p 0x02 0 [] (advanceExpect p (s.mapHostif fun h => { h with taken := takeOut p.stream h.taken })))) ∧
    (∀ (st : Stream) (p : Packet), Serves st 0x1C p s → Runs (.lockPacket st) s (actLock p (accepted p s)))

/-- The commands of Turtelink complete (R413, R416, R418, R420, R421). -/
def Obligations.TurtelinkCommandsComplete : Prop :=
  ∀ s : State,
    (∀ (n : Slot), tlRuns s = true → padOf 0x36 (234 + n.1) s = true → s.rb 0x71400 n.1 = false →
        Runs (.presenceAccepted n) s (presence n.1 s)) ∧
    (∀ (n : Slot), tlRuns s = true → padOf 0x36 (234 + n.1) s = true → s.rb 0x71400 n.1 = true →
        Runs (.absenceAccepted n) s (absence n.1 s)) ∧
    (∀ (q : Req) (v : Word), Admitted q 0x71402 true s → Runs (.tlPenWrite q v) s (tlWrite q.toNat 0x71402 v s)) ∧
    (∀ (addr : BitVec 6) (off : Word) (cnt : Word), helm1Serves s = true →
        Runs (.readDesc addr off cnt) s (tlRequest 1 addr.toNat [off, cnt] s)) ∧
    (∀ (addr : BitVec 6) (v : Word), helm1Serves s = true → Runs (.setVersion addr v) s (tlRequest 2 addr.toNat [v] s)) ∧
    (∀ (addr : BitVec 6) (n : Word), helm1Serves s = true → Runs (.setAddress addr n) s (tlRequest 3 addr.toNat [n] s)) ∧
    (∀ (addr : BitVec 6) (off : Word) (cnt : Word), helm1Serves s = true →
        Runs (.tlRead addr off cnt) s (tlRequest 4 addr.toNat [off, cnt] s)) ∧
    (∀ (addr : BitVec 6) (off : Word) (ws : List Word), helm1Serves s = true →
        Runs (.tlWrite addr off ws) s (tlRequest 5 addr.toNat (off :: ws) s)) ∧
    (∀ (addr : BitVec 6), helm1Serves s = true → Runs (.moduleStatus addr) s (tlRequest 6 addr.toNat [] s)) ∧
    (∀ (hdr : Word) (ws : List Word) (good : Bool), tlLine s = true → tlAwaits s = true →
        Runs (.tlAnswer hdr ws good) s (tlAnswer hdr ws good s)) ∧
    (∀ x : Xfer, tlClocked s = true → tlAwaits s = true → s.tl.xfer = some x → Runs .tlTimeout s (tlFail 1 x s)) ∧
    (tlClocked s = true → s.tl.xfer.isSome = true → tlAwaits s = false →
        Runs .tlRetry s (s.mapTl fun t => { t with xfer := t.xfer.map fun x =>
        { x with tries := x.tries + 1, waiting := false } })) ∧
    (∀ (n : Slot), helm1Serves s = true → s.tl.disc.isNone = true → nextSlot s = some n.1 →
        Runs (.slotDiscovery n) s (discover n.1 s)) ∧
    (helm1Serves s = true → s.tl.xfer.isNone = true → Runs .descriptorPoll s (descPoll s)) ∧
    (∀ (n : Slot), helm1Serves s = true → s.rb 0x71401 (8 + n.1) = true → Runs (.slotRelease n) s (slotRelease n.1 s))

/-- Each register operation of Bearing writes its result, and the cell flags of R133, and goes on (R103, R130, R131,
R133, R134, R135, R117). -/
def Obligations.RegisterResultsOfBearing : Prop :=
  (∀ (p : ProcId) (f : ShortF) (s : State) (a b k : Word),
    a = s.g p.1 f.rd → b = s.g p.1 f.rs → k = BitVec.ofNat 20 f.sub.toNat →
      Gives (.mov p f) p 1 f.rd b id s ∧
      Gives (.add p f) p 1 f.rd (a + b) (setFlags p.1 (addFlags a b)) s ∧
      Gives (.sub p f) p 1 f.rd (a - b) (setFlags p.1 (subFlags a b)) s ∧
      Gives (.and p f) p 1 f.rd (a &&& b) (setFlags p.1 (zn (a &&& b))) s ∧
      Gives (.or p f) p 1 f.rd (a ||| b) (setFlags p.1 (zn (a ||| b))) s ∧
      Gives (.xor p f) p 1 f.rd (a ^^^ b) (setFlags p.1 (zn (a ^^^ b))) s ∧
      Gives (.not p f) p 1 f.rd (~~~ b) (setFlags p.1 (zn (~~~ b))) s ∧
      Gives (.neg p f) p 1 f.rd (negValue (isCell p.1) b) (setFlags p.1 (negFlags b)) s ∧
      Gives (.addi p f) p 1 f.rd (a + k) (setFlags p.1 (addFlags a k)) s ∧
      Gives (.subi p f) p 1 f.rd (a - k) (setFlags p.1 (subFlags a k)) s ∧
      Gives (.shl p f) p 1 f.rd (shl a (shiftCount b)) (setFlags p.1 (zn (shl a (shiftCount b)))) s ∧
      Gives (.shr p f) p 1 f.rd (shr a (shiftCount b)) (setFlags p.1 (zn (shr a (shiftCount b)))) s ∧
      Gives (.sar p f) p 1 f.rd (sar a (shiftCount b)) (setFlags p.1 (zn (sar a (shiftCount b)))) s ∧
      Gives (.mfs p f) p 1 f.rd (srRead p.1 f.rs.toNat s) id s ∧
      (Ready (.cmp p f) s → Runs (.cmp p f) s (completed p 1 s (setFlags p.1 (subFlags a b) s))) ∧
      (Ready (.tst p f) s → Runs (.tst p f) s (completed p 1 s (setFlags p.1 (zn (a &&& b)) s)))) ∧
  (∀ (p : ProcId) (f : LongF) (s : State) (a b sx zx : Word) (n : Nat),
    a = s.g p.1 f.rs → b = s.g p.1 (rtOf f.w2) → sx = simm16 f.w2 → zx = imm16 f.w2 → n = fld f.w2 0 16 →
      Gives (.add3 p f) p 2 f.rd (a + b) (setFlags p.1 (addFlags a b)) s ∧
      Gives (.sub3 p f) p 2 f.rd (a - b) (setFlags p.1 (subFlags a b)) s ∧
      Gives (.and3 p f) p 2 f.rd (a &&& b) (setFlags p.1 (zn (a &&& b))) s ∧
      Gives (.or3 p f) p 2 f.rd (a ||| b) (setFlags p.1 (zn (a ||| b))) s ∧
      Gives (.xor3 p f) p 2 f.rd (a ^^^ b) (setFlags p.1 (zn (a ^^^ b))) s ∧
      Gives (.shl3 p f) p 2 f.rd (shl a (shiftCount b)) (setFlags p.1 (zn (shl a (shiftCount b)))) s ∧
      Gives (.shr3 p f) p 2 f.rd (shr a (shiftCount b)) (setFlags p.1 (zn (shr a (shiftCount b)))) s ∧
      Gives (.sar3 p f) p 2 f.rd (sar a (shiftCount b)) (setFlags p.1 (zn (sar a (shiftCount b)))) s ∧
      Gives (.addi16 p f) p 2 f.rd (a + sx) (setFlags p.1 (addFlags a sx)) s ∧
      Gives (.andi p f) p 2 f.rd (a &&& zx) (setFlags p.1 (zn (a &&& zx))) s ∧
      Gives (.ori p f) p 2 f.rd (a ||| zx) (setFlags p.1 (zn (a ||| zx))) s ∧
      Gives (.xori p f) p 2 f.rd (a ^^^ zx) (setFlags p.1 (zn (a ^^^ zx))) s ∧
      Gives (.shli p f) p 2 f.rd (shl a n) (setFlags p.1 (zn (shl a n))) s ∧
      Gives (.shri p f) p 2 f.rd (shr a n) (setFlags p.1 (zn (shr a n))) s ∧
      Gives (.sari p f) p 2 f.rd (sar a n) (setFlags p.1 (zn (sar a n))) s ∧
      Gives (.ldi p f) p 2 f.rd f.w2 id s ∧
      Gives (.seq p f) p 2 f.rd (asWord (decide (a = b))) id s ∧
      Gives (.sne p f) p 2 f.rd (asWord (decide (a ≠ b))) id s ∧
      Gives (.slt p f) p 2 f.rd (asWord (decide (a.toInt < b.toInt))) id s ∧
      Gives (.sltu p f) p 2 f.rd (asWord (decide (a.toNat < b.toNat))) id s ∧
      Gives (.carry p f) p 2 f.rd (asWord (decide (2 ^ 20 ≤ a.toNat + b.toNat))) id s ∧
      Gives (.snegov p f) p 2 f.rd (asWord (decide (a = 0x80000#20))) id s ∧
      (Ready (.cmpi p f) s → Runs (.cmpi p f) s (completed p 2 s (setFlags p.1 (subFlags (s.g p.1 f.rd) sx) s))))

/-- The flag functions: which bits of a cell STATUS each writes, and that the rest stay (R133, R135, R109). -/
def Obligations.FlagBitsOfResults : Prop :=
  ∀ (a b r st : Word) (i : Nat), i < 20 →
    tst (addFlags a b st) i =
      (if i = 0 then decide (a + b = 0) else if i = 1 then (a + b).msb else if i = 2 then decide (2 ^ 20 ≤ a.toNat + b.toNat)
       else if i = 3 then BitVec.saddOverflow a b else tst st i) ∧
    tst (subFlags a b st) i =
      (if i = 0 then decide (a - b = 0) else if i = 1 then (a - b).msb else if i = 2 then decide (b.toNat ≤ a.toNat)
       else if i = 3 then BitVec.ssubOverflow a b else tst st i) ∧
    tst (zn r st) i = (if i = 0 then decide (r = 0) else if i = 1 then r.msb else tst st i) ∧
    tst (negFlags a st) i =
      (if i = 0 then decide (negValue true a = 0) else if i = 1 then (negValue true a).msb
       else if i = 3 then decide (a = 0x80000#20) else tst st i)

/-- SHL, SHR and SAR, register and immediate forms: the result for every count (R134). -/
def Obligations.ShiftsFollowTheirCounts : Prop :=
  ∀ (p : ProcId) (s : State) (r : Word → Nat → Word) (x : Word) (k : Nat),
    ((r = fun x k => if k ≤ 19 then BitVec.ofNat 20 (x.toNat * 2 ^ k) else 0) →
      (∀ f : ShortF, x = s.g p.1 f.rd → k = (s.g p.1 f.rs).toNat % 32 →
        Gives (.shl p f) p 1 f.rd (r x k) (setFlags p.1 (zn (r x k))) s) ∧
      (∀ f : LongF, x = s.g p.1 f.rs → k = (s.g p.1 (rtOf f.w2)).toNat % 32 →
        Gives (.shl3 p f) p 2 f.rd (r x k) (setFlags p.1 (zn (r x k))) s) ∧
      (∀ f : LongF, x = s.g p.1 f.rs → k = fld f.w2 0 16 →
        Gives (.shli p f) p 2 f.rd (r x k) (setFlags p.1 (zn (r x k))) s)) ∧
    ((r = fun x k => if k ≤ 19 then BitVec.ofNat 20 (x.toNat / 2 ^ k) else 0) →
      (∀ f : ShortF, x = s.g p.1 f.rd → k = (s.g p.1 f.rs).toNat % 32 →
        Gives (.shr p f) p 1 f.rd (r x k) (setFlags p.1 (zn (r x k))) s) ∧
      (∀ f : LongF, x = s.g p.1 f.rs → k = (s.g p.1 (rtOf f.w2)).toNat % 32 →
        Gives (.shr3 p f) p 2 f.rd (r x k) (setFlags p.1 (zn (r x k))) s) ∧
      (∀ f : LongF, x = s.g p.1 f.rs → k = fld f.w2 0 16 →
        Gives (.shri p f) p 2 f.rd (r x k) (setFlags p.1 (zn (r x k))) s)) ∧
    ((r = fun x k => if k ≤ 19 then x.sshiftRight k else if x.msb then 0xFFFFF#20 else 0) →
      (∀ f : ShortF, x = s.g p.1 f.rd → k = (s.g p.1 f.rs).toNat % 32 →
        Gives (.sar p f) p 1 f.rd (r x k) (setFlags p.1 (zn (r x k))) s) ∧
      (∀ f : LongF, x = s.g p.1 f.rs → k = (s.g p.1 (rtOf f.w2)).toNat % 32 →
        Gives (.sar3 p f) p 2 f.rd (r x k) (setFlags p.1 (zn (r x k))) s) ∧
      (∀ f : LongF, x = s.g p.1 f.rs → k = fld f.w2 0 16 →
        Gives (.sari p f) p 2 f.rd (r x k) (setFlags p.1 (zn (r x k))) s))

/-- NEG in each dialect, at 0x80000 and elsewhere (R135). -/
def Obligations.NegSaturatesOnCells : Prop :=
  ∀ (p : ProcId) (f : ShortF) (s t : State), Ready (.neg p f) s →
    mayHold p f.rd (negValue (isCell p.1) (s.g p.1 f.rs)) s → Runs (.neg p f) s t →
    (isCell p.1 = false → t.g p.1 f.rd = (if s.g p.1 f.rs = 0x80000#20 then 0x80000#20 else 0 - s.g p.1 f.rs) ∧
      (t.proc p.1).status = (s.proc p.1).status) ∧
    (isCell p.1 = true → s.g p.1 f.rs = 0x80000#20 → t.g p.1 f.rd = 0x7FFFF#20 ∧ tst (t.proc p.1).status 3 = true) ∧
    (isCell p.1 = true → s.g p.1 f.rs ≠ 0x80000#20 → t.g p.1 f.rd = - s.g p.1 f.rs ∧ tst (t.proc p.1).status 3 = false)

/-- The multiply and divide groups issue, and their results are written (R105, R106, R136, R137, R119). -/
def Obligations.MultiplyAndDivideComplete : Prop :=
  (∀ (p : ProcId) (f : ShortF) (s : State) (a b : Word) (queued : DueResult → State), a = s.g p.1 f.rd → b = s.g p.1 f.rs →
      (∀ d, queued d = s.modProc p.1 fun k => { k with due := k.due ++ [(k.issued + 1, d)], issued := k.issued + 1 }) →
      (Ready (.mul p f) s → Runs (.mul p f) s (completed p 1 s (queued (.product (BitVec.ofInt 40 (a.toInt * b.toInt)))))) ∧
      (Ready (.mulu p f) s → Runs (.mulu p f) s (completed p 1 s (queued (.product (BitVec.ofNat 40 (a.toNat * b.toNat)))))) ∧
      (Ready (.mac p f) s → Runs (.mac p f) s (completed p 1 s (queued (.accumulate (BitVec.ofInt 40 (a.toInt * b.toInt)))))) ∧
      (¬ (b = 0 ∧ tst (s.proc p.1).status 6 = true) →
        (Ready (.div p f) s → Runs (.div p f) s (completed p 1 s (queued (divide true a b)))) ∧
        (Ready (.divu p f) s → Runs (.divu p f) s (completed p 1 s (queued (divide false a b))))) ∧
      (b = 0 → tst (s.proc p.1).status 6 = true → (s.proc p.1).posted = [] → ∀ t,
        t = takeException p.1 23 0 (s.pcOf p.1) (s.modProc p.1 fun k => { k with status := putBit k.status 5 true }) →
          (Ready (.div p f) s → Runs (.div p f) s t) ∧ (Ready (.divu p f) s → Runs (.divu p f) s t))) ∧
  (∀ a b : Word,
      (b ≠ 0 → divide false a b = .quotient (a / b) (a % b) false false) ∧ divide false a 0 = .quotient 0xFFFFF#20 a true false ∧
      divide true a 0 = .quotient (if 0 ≤ a.toInt then 0x7FFFF#20 else 0x80000#20) a true false ∧
      divide true 0x80000#20 0xFFFFF#20 = .quotient 0x80000#20 0 false true ∧
      (b ≠ 0 → ¬ (a = 0x80000#20 ∧ b = 0xFFFFF#20) → divide true a b = .quotient (a.sdiv b) (a.srem b) false false)) ∧
  (∀ (p : ProcId) (s : State) (ord : Nat) (d : DueResult),
      ((s.proc p.1).due.find? (fun x => isMul x.2) = some (ord, d) → Runs (.multiplyResultWrite p) s
        (writeDue p.1 ord d (s.modProc p.1 fun k => { k with due := dropDue isMul k.due }))) ∧
      ((s.proc p.1).due.find? (fun x => !isMul x.2) = some (ord, d) → Runs (.divideResultWrite p) s
        (writeDue p.1 ord d (s.modProc p.1 fun k => { k with due := dropDue (fun x => !isMul x) k.due })))) ∧
  (∀ (p : ProcId) (s : State) (ord : Nat) (c : AccCyc) (v : BitVec 40) (q r : Word) (dz ovf : Bool) (w : DueResult → Proc),
      c = accCyc p.1 s → (∀ d, w d = (writeDue p.1 ord d s).proc p.1) →
      ((∀ x ∈ s.cyc.accs, x.p ≠ p.1) → c.prev = accOf (s.proc p.1) ∧ c.hi = 0 ∧ c.lo = 0) ∧
      (c.hi ≤ ord → c.lo ≤ ord → accOf (w (.product v)) = v ∧ accOf (w (.accumulate v)) = c.prev + v ∧
        (w (.quotient q r dz ovf)).ml = q ∧ (w (.quotient q r dz ovf)).mh = r) ∧
      (∀ d, (ord < c.hi → (w d).mh = (s.proc p.1).mh) ∧ (ord < c.lo → (w d).ml = (s.proc p.1).ml)) ∧
      tst (w (.quotient q r dz ovf)).status 5 = (tst (s.proc p.1).status 5 || dz) ∧
      tst (w (.quotient q r dz ovf)).status 4 = (tst (s.proc p.1).status 4 || ovf))

/-- Every load form reads its address, updates its base and writes its destination; a Helm load that faults takes DARK
or BUSERR (R117, R118, R123, R131, R138, R87). -/
def Obligations.LoadsComplete : Prop :=
  (∀ (p : ProcId) (f : ShortF) (s : State) (g : Word), g = s.g p.1 f.rs →
      Loads (.ld p f) p 1 f.rd (g + BitVec.ofNat 20 f.sub.toNat) s s ∧
      FaultsAt (.ld p f) p (g + BitVec.ofNat 20 f.sub.toNat) false s ∧
      (f.sub = 0#3 → f.rd ≠ f.rs → mayHold p f.rs (g + 1) s → Loads (.ldUpdate p f) p 1 f.rd g (s.setG p.1 f.rs (g + 1)) s) ∧
      (f.sub = 2#3 → f.rd ≠ f.rs → mayHold p f.rs (g - 1) s →
        Loads (.ldUpdate p f) p 1 f.rd (g - 1) (s.setG p.1 f.rs (g - 1)) s) ∧
      (f.sub = 0#3 → f.rd = f.rs → Loads (.ldUpdate p f) p 1 f.rd g s s) ∧
      (f.sub = 2#3 → f.rd = f.rs → Loads (.ldUpdate p f) p 1 f.rd (g - 1) s s) ∧
      (f.sub = 1#3 → f.rd ≠ f.rs → f.rd + 1 ≠ f.rs → mayHold p f.rs (g + 2) s →
        LoadsPair (.ldUpdate p f) p 1 f.rd g (s.setG p.1 f.rs (g + 2)) s) ∧
      (f.sub = 3#3 → f.rd ≠ f.rs → f.rd + 1 ≠ f.rs → mayHold p f.rs (g - 2) s →
        LoadsPair (.ldUpdate p f) p 1 f.rd (g - 2) (s.setG p.1 f.rs (g - 2)) s) ∧
      (f.sub = 1#3 → f.rd = f.rs ∨ f.rd + 1 = f.rs → LoadsPair (.ldUpdate p f) p 1 f.rd g s s) ∧
      (f.sub = 3#3 → f.rd = f.rs ∨ f.rd + 1 = f.rs → LoadsPair (.ldUpdate p f) p 1 f.rd (g - 2) s s)) ∧
  (∀ (p : ProcId) (f : LongF) (s : State) (g : Word), g = s.g p.1 f.rs →
      Loads (.ld20 p f) p 2 f.rd (g + f.w2) s s ∧ FaultsAt (.ld20 p f) p (g + f.w2) false s ∧
      Loads (.ldx p f) p 2 f.rd (indexed p.1 f.rs f.w2 s) s s ∧ FaultsAt (.ldx p f) p (indexed p.1 f.rs f.w2 s) false s ∧
      LoadsPair (.ldp p f) p 2 f.rd (g + f.w2) s s ∧ LoadsPair (.ldpx p f) p 2 f.rd (indexed p.1 f.rs f.w2 s) s s ∧
      (scaleOnly f = true → indexed p.1 f.rs f.w2 s = g + BitVec.ofNat 20 ((s.g p.1 (rtOf f.w2)).toNat * 2 ^ (f.w2.toNat % 4))))

/-- Every store form posts its words at its address and updates its base; a Helm store that faults takes DARK or
BUSERR (R117, R118, R123, R131, R138, R87). -/
def Obligations.StoresComplete : Prop :=
  (∀ (p : ProcId) (f : ShortF) (s : State) (g d e : Word), g = s.g p.1 f.rs → d = s.g p.1 f.rd → e = s.g p.1 (f.rd + 1) →
      Puts (.st p f) p 1 (g + BitVec.ofNat 20 f.sub.toNat) d s s ∧ FaultsAt (.st p f) p (g + BitVec.ofNat 20 f.sub.toNat) true s ∧
      (f.sub = 0#3 → mayHold p f.rs (g + 1) s → Puts (.stUpdate p f) p 1 g d (s.setG p.1 f.rs (g + 1)) s) ∧
      (f.sub = 1#3 → mayHold p f.rs (g + 2) s → PutsPair (.stUpdate p f) p 1 g d e (s.setG p.1 f.rs (g + 2)) s) ∧
      (f.sub = 2#3 → mayHold p f.rs (g - 1) s → Puts (.stUpdate p f) p 1 (g - 1) d (s.setG p.1 f.rs (g - 1)) s) ∧
      (f.sub = 3#3 → mayHold p f.rs (g - 2) s → PutsPair (.stUpdate p f) p 1 (g - 2) d e (s.setG p.1 f.rs (g - 2)) s)) ∧
  (∀ (p : ProcId) (f : LongF) (s : State) (g d e : Word), g = s.g p.1 f.rs → d = s.g p.1 f.rd → e = s.g p.1 (f.rd + 1) →
      Puts (.st20 p f) p 2 (g + f.w2) d s s ∧ FaultsAt (.st20 p f) p (g + f.w2) true s ∧
      Puts (.stx p f) p 2 (indexed p.1 f.rs f.w2 s) d s s ∧ FaultsAt (.stx p f) p (indexed p.1 f.rs f.w2 s) true s ∧
      PutsPair (.stp p f) p 2 (g + f.w2) d e s s ∧ PutsPair (.stpx p f) p 2 (indexed p.1 f.rs f.w2 s) d e s s)

/-- Jumps, calls, returns, branches, NOP, MTS, events, waits and TRAP do what R139 to R142 give them (R103, R119,
R122, R130, R131, R139, R140, R141, R142). -/
def Obligations.ControlAndWaitsComplete : Prop :=
  (∀ (p : ProcId) (f : ShortF) (s : State) (sp pc : Word), sp = s.sp p.1 → pc = s.pcOf p.1 →
      (Ready (.jr p f) s → Runs (.jr p f) s (resumed p (s.g p.1 f.rs) s s)) ∧
      (Ready (.callr p f) s → belowLimit p.1 (sp - 1) s = false → dataFault p.1 (sp - 1) true s = none →
        ∀ u, u = (post p.1 (sp - 1) (pc + 1) s).setG p.1 15 (sp - 1) → Runs (.callr p f) s (resumed p (u.g p.1 f.rs) s u)) ∧
      (Ready (.ret p f) s → belowLimit p.1 (sp + 1) s = false → dataFault p.1 sp false s = none →
        ∀ r, r = readWord p.1 sp s →
          Runs (.ret p f) s (resumed p r.1 s (r.2.setG p.1 15 (sp + 1)))) ∧
      (Ready (.reti p f) s → belowLimit p.1 (sp + 1) s = false → dataFault p.1 sp false s = none →
        ∀ r u, r = readWord p.1 sp s → u = r.2.setG p.1 15 (sp + 1) →
          belowLimit p.1 (u.sp p.1 + 1) u = false → dataFault p.1 (u.sp p.1) false u = none →
            ∀ r2, r2 = readWord p.1 (u.sp p.1) u →
              Runs (.reti p f) s (resumed p r2.1 s ((r2.2.setG p.1 15 (u.sp p.1 + 1)).modProc p.1 fun k =>
                { k with status := helmStatus r.1 }))) ∧
      (Ready (.nop p f) s → Runs (.nop p f) s (completed p 1 s s)) ∧
      (Ready (.mts p f) s → Runs (.mts p f) s (completed p 1 s (srWrite p.1 f.rd.toNat (s.g p.1 f.rs) s))) ∧
      (Ready (.sev p f) s →
        Runs (.sev p f) s (completed p 1 s (s.at_ (s.mt + 1) (.sev (s.g p.1 f.rs) (s.g p.1 (f.rs + 1)))))) ∧
      (Ready (.wfe p f) s → eventBit p.1 s = true → Runs (.wfe p f) s (completed p 1 s (clearEvent p.1 s))) ∧
      (Ready (.wfe p f) s → eventBit p.1 s = false → Runs (.wfe p f) s (waits p .waitEvent s s)) ∧
      (∀ n, n = (s.g p.1 f.rs).toNat + 2 ^ 20 * (s.g p.1 (f.rs + 1)).toNat →
        (Ready (.waitt p f) s → (s.mt + 2 ^ 40 - n) % 2 ^ 40 < 2 ^ 39 → Runs (.waitt p f) s (completed p 1 s s)) ∧
        (Ready (.waitt p f) s → 2 ^ 39 ≤ (s.mt + 2 ^ 40 - n) % 2 ^ 40 → Runs (.waitt p f) s (waits p (.waitTime n) s s))) ∧
      (Ready (.trap p f) s → (s.proc p.1).posted = [] →
        Runs (.trap p f) s (takeException p.1 (8 + f.rs.toNat) 0 (pc + 1) (executed p.1 pc s))) ∧
      (waitsOn p.1 s = true → (s.proc p.1).run = .waitEvent → eventBit p.1 s = true →
        Runs (.wfeComplete p) s (endWaiting p.1 (clearEvent p.1 s))) ∧
      (∀ n, waitsOn p.1 s = true → (s.proc p.1).run = .waitTime n → timeReached n s = true →
        Runs (.waittComplete p) s (endWaiting p.1 s))) ∧
  (∀ (p : ProcId) (f : LongF) (s : State) (sp pc : Word), sp = s.sp p.1 → pc = s.pcOf p.1 →
      (Ready (.jmp p f) s → Runs (.jmp p f) s (resumed p f.w2 s s)) ∧
      (Ready (.call p f) s → belowLimit p.1 (sp - 1) s = false → dataFault p.1 (sp - 1) true s = none →
        Runs (.call p f) s (resumed p f.w2 s ((post p.1 (sp - 1) (pc + 2) s).setG p.1 15 (sp - 1)))) ∧
      (Ready (.bz p f) s → s.g p.1 f.rs = 0 → Runs (.bz p f) s (resumed p (pc + simm16 f.w2) s s)) ∧
      (Ready (.bz p f) s → s.g p.1 f.rs ≠ 0 → Runs (.bz p f) s (completed p 2 s s)) ∧
      (Ready (.bnz p f) s → s.g p.1 f.rs ≠ 0 → Runs (.bnz p f) s (resumed p (pc + simm16 f.w2) s s)) ∧
      (Ready (.bnz p f) s → s.g p.1 f.rs = 0 → Runs (.bnz p f) s (completed p 2 s s)))

/-- IRQ_ENTRY, NMI_ENTRY and POSTED_STORE_COMPLETE complete (R119, R120, R125, R138). -/
def Obligations.InterruptsAndStoresAreTaken : Prop :=
  ∀ (h : HelmId) (p : ProcId) (s : State),
    (∀ n, irqCandidate h.1 s = some n → takesExceptions h.1 s = true → nmiCandidate h.1 s = false →
      fetchFirst h.1 s = false → Runs (.irqEntry h) s (takeException h.1 (32 + n) (s.rf (irqCfg h.1 n) 0 3) (boundaryPc h.1 s) s)) ∧
    (takesExceptions h.1 s = true → nmiCandidate h.1 s = true → Runs (.nmiEntry h) s (nmiEntry h.1 s)) ∧
    (∀ x r, (s.proc p.1).posted = x :: r → x.performed = true →
      submitHeld (procReq p.1 x.addr.toNat s) x.addr.toNat s = false →
      Runs (.postedStoreComplete p) s (s.modProc p.1 fun k => { k with posted := r }))

/-- VBASE: bits 6 to 0 read 0 in every state and ignore writes (R104). -/
def Obligations.VbaseKeepsLowBitsZero : Prop :=
  ∀ (p : ProcId) (f : ShortF) (s : State), isCell p.1 = false →
    (s.vbaseOf p.1).toNat % 128 = 0 ∧
    (f.rs = 5#4 → Ready (.mfs p f) s → mayHold p f.rd (srRead p.1 5 s) s →
      ∃ t, Runs (.mfs p f) s t ∧ (t.g p.1 f.rd).toNat % 128 = 0 ∧ t.g p.1 f.rd = s.vbaseOf p.1) ∧
    (f.rd = 5#4 → Ready (.mts p f) s →
      ∃ t, Runs (.mts p f) s t ∧ t.vbaseOf p.1 = s.g p.1 f.rs &&& 0xFFF80#20 ∧ (t.vbaseOf p.1).toNat / 128 = (s.g p.1 f.rs).toNat / 128) ∧
    (∀ v, v < 96 → (s.vbaseOf p.1 + BitVec.ofNat 20 v).toNat = (s.vbaseOf p.1).toNat + v)

/-- Every Bearing row: an encoding that is not a defined one, or an op that no instruction has, raises UNDEF, whatever
its condition (R102, R103, R113, R116, R129, R130, R132). -/
def Obligations.UndefinedEncodingsRaiseUndef : Prop :=
  ∀ (i : Instr) (x : Form) (s : State), form i = some x → Reached x s → (x.defined = false ∨ coded x.proc.1 x.words s = false) →
    Runs i s (if isCell x.proc.1 then seqFault (x.proc.1 - 2) 1 s else takeException x.proc.1 2 0 (s.pcOf x.proc.1) s)

/-- A condition other than AL on a Helm core, and DIV or DIVU on a cell, raise UNDEF (R107, R114). -/
def Obligations.HelmTakesAlAndCellsHaveNoDivider : Prop :=
  (∀ (i : Instr) (x : Form) (s : State), form i = some x → isCell x.proc.1 = false → x.cond ≠ 0 → Reached x s →
      Runs i s (takeException x.proc.1 2 0 (s.pcOf x.proc.1) s)) ∧
  (∀ (p : ProcId) (f : ShortF) (s : State) (x : Form), isCell p.1 = true →
      (form (.div p f) = some x → Reached x s → Runs (.div p f) s (seqFault (p.1 - 2) 1 s)) ∧
      (form (.divu p f) = some x → Reached x s → Runs (.divu p f) s (seqFault (p.1 - 2) 1 s)))

/-- The eight conditions of the cell dialect, and an instruction whose condition fails (R115). -/
def Obligations.CellConditionsGateInstructions : Prop :=
  (∀ st : Word, condHolds 0 st = true ∧ condHolds 1 st = tst st 0 ∧ condHolds 2 st = !tst st 0 ∧
      condHolds 3 st = (tst st 1 != tst st 3) ∧ condHolds 4 st = (tst st 1 == tst st 3) ∧ condHolds 5 st = tst st 2 ∧
      condHolds 6 st = !tst st 2 ∧ condHolds 7 st = tst st 4) ∧
  (∀ (i : Instr) (x : Form) (s : State), form i = some x → isCell x.proc.1 = true → Issues x s →
      (condHolds x.cond (s.proc x.proc.1).status = false →
        Runs i s (s.setPc x.proc.1 (s.pcOf x.proc.1 + BitVec.ofNat 20 x.len))) ∧
      (condHolds x.cond (s.proc x.proc.1).status = true → Executes x s))

/-- A write of g15 below SPLIM raises STACK and has no other effect; with SPLIM 0 none does (R111, R119, R124, R129).
-/
def Obligations.StackLimitStopsWritesOfSp : Prop :=
  (∀ (p : ProcId) (f : ShortF) (s : State),
      (f.rd = 15#4 →
        Stacks (.mov p f) p (s.g p.1 f.rs) s ∧
        Stacks (.add p f) p (s.g p.1 f.rd + s.g p.1 f.rs) s ∧
        Stacks (.sub p f) p (s.g p.1 f.rd - s.g p.1 f.rs) s ∧
        Stacks (.and p f) p (s.g p.1 f.rd &&& s.g p.1 f.rs) s ∧
        Stacks (.or p f) p (s.g p.1 f.rd ||| s.g p.1 f.rs) s ∧
        Stacks (.xor p f) p (s.g p.1 f.rd ^^^ s.g p.1 f.rs) s ∧
        Stacks (.not p f) p (~~~ s.g p.1 f.rs) s ∧
        Stacks (.addi p f) p (s.g p.1 f.rd + BitVec.ofNat 20 f.sub.toNat) s ∧
        Stacks (.subi p f) p (s.g p.1 f.rd - BitVec.ofNat 20 f.sub.toNat) s ∧
        Stacks (.mfs p f) p (srRead p.1 f.rs.toNat s) s) ∧
      Stacks (.callr p f) p (s.sp p.1 - 1) s ∧ Stacks (.ret p f) p (s.sp p.1 + 1) s ∧
      (f.rs = 15#4 →
        (f.sub = 0#3 → Stacks (.stUpdate p f) p (s.sp p.1 + 1) s ∧ (f.rd ≠ 15#4 → Stacks (.ldUpdate p f) p (s.sp p.1 + 1) s)) ∧
        (f.sub = 1#3 → Stacks (.stUpdate p f) p (s.sp p.1 + 2) s ∧ (f.rd ≠ 14#4 → Stacks (.ldUpdate p f) p (s.sp p.1 + 2) s)) ∧
        (f.sub = 2#3 → Stacks (.stUpdate p f) p (s.sp p.1 - 1) s ∧ (f.rd ≠ 15#4 → Stacks (.ldUpdate p f) p (s.sp p.1 - 1) s)) ∧
        (f.sub = 3#3 → Stacks (.stUpdate p f) p (s.sp p.1 - 2) s ∧ (f.rd ≠ 14#4 → Stacks (.ldUpdate p f) p (s.sp p.1 - 2) s)))) ∧
  (∀ (p : ProcId) (f : LongF) (s : State),
      (f.rd = 15#4 →
        Stacks (.add3 p f) p (s.g p.1 f.rs + s.g p.1 (rtOf f.w2)) s ∧
        Stacks (.sub3 p f) p (s.g p.1 f.rs - s.g p.1 (rtOf f.w2)) s ∧
        Stacks (.addi16 p f) p (s.g p.1 f.rs + simm16 f.w2) s ∧
        Stacks (.ldi p f) p (f.w2) s) ∧
      Stacks (.call p f) p (s.sp p.1 - 1) s) ∧
  (∀ (p : Nat) (v : Word) (s : State), (s.proc p).splim = 0 → belowLimit p v s = false)

/-- Entry to an exception with its stack in RAM: what it saves, what STATUS becomes, where the PC goes (R119, R120).
-/
def Obligations.ExceptionEntrySavesAndGoes : Prop :=
  ∀ (h : HelmId) (v level : Nat) (pc : Word) (s : State) (a b e : Nat), v ≠ 0 → v ≠ 4 → v < 96 → level < 8 →
    a = (s.sp h.1 - 1).toNat → b = (s.sp h.1 - 2).toNat → e = (s.vbaseOf h.1 + BitVec.ofNat 20 v).toNat →
    a < 0x30000 → b < 0x30000 → e < 0x38000 → s.badParity.contains e = false → s.dom 4 = true →
    belowLimit h.1 (s.sp h.1 - 2) s = false → s.dead = false →
    (∀ r, storeWaits r s = false) → dmaReady s = false → ∀ t, t = takeException h.1 v level pc s →
      (∀ k, t.rdMem k = if k = b then (s.proc h.1).status else if k = a then pc else s.rdMem k) ∧
      t.sp h.1 = s.sp h.1 - 2 ∧ (∀ r : BitVec 4, r ≠ 15 → t.g h.1 r = s.g h.1 r) ∧ t.pcOf h.1 = t.rdMem e ∧
      (t.proc h.1).run = .running ∧
      (∀ i, i < 20 → tst (t.proc h.1).status i =
        (if 32 ≤ v then (if 8 ≤ i ∧ i < 12 then (level + 1).testBit (i - 8) else tst (s.proc h.1).status i)
         else if i = 7 then false else if v = 1 ∧ i = 12 then true else tst (s.proc h.1).status i))

/-- Frame: an operation with a register result changes its processor alone: its destination, PC and flags (R105, R130,
R131, R133). -/
def Obligations.RegisterOperationsChangeOneRegister : Prop :=
  ∀ (i : Instr) (p : ProcId) (rd : BitVec 4) (s t : State), destination i = some (p, rd) → Ready i s → Runs i s t →
    (rd = 15#4 ∧ t = stackRaised p s) ∨ (rd = 15#4 ∧ t = s) ∨
    (t = { s with procs := t.procs } ∧ (∀ q, q ≠ p.1 → t.proc q = s.proc q) ∧ (∀ r : BitVec 4, r ≠ rd → t.g p.1 r = s.g p.1 r) ∧
      (t.proc p.1).mh = (s.proc p.1).mh ∧ (t.proc p.1).ml = (s.proc p.1).ml ∧ (t.proc p.1).splim = (s.proc p.1).splim ∧
      (t.proc p.1).vbase = (s.proc p.1).vbase ∧ (t.proc p.1).due = (s.proc p.1).due ∧ (t.proc p.1).posted = (s.proc p.1).posted ∧
      (t.proc p.1).event = (s.proc p.1).event ∧ (t.proc p.1).run = (s.proc p.1).run ∧ (t.proc p.1).issued = (s.proc p.1).issued ∧
      (t.proc p.1).nmiPend = (s.proc p.1).nmiPend ∧ (t.proc p.1).stopReq = (s.proc p.1).stopReq ∧
      (isCell p.1 = false → (t.proc p.1).status = (s.proc p.1).status) ∧
      (∀ k, 4 ≤ k → tst (t.proc p.1).status k = tst (s.proc p.1).status k))

/-- Frame: a store that issues changes at most its own words of memory, and no register but its base (R117, R118,
R138, R165). -/
def Obligations.StoresChangeOnlyTheirWords : Prop :=
  ∀ (i : Instr) (p : ProcId) (a : Word) (n : Nat) (s t : State), storeTarget i s = some (p, a, n) → Ready i s →
    (∀ k, k < n → dataFault p.1 (a + BitVec.ofNat 20 k) true s = none) →
    (∀ r v, storeBase i s = some (r, v) → mayHold p r v s) → Runs i s t →
      (∀ b, (∀ k, k < n → b ≠ (a + BitVec.ofNat 20 k).toNat) → t.rdMem b = s.rdMem b) ∧
      (isCell p.1 = false → ∀ b, t.rdMem b = s.rdMem b) ∧
      (∀ r : BitVec 4, (∀ v, storeBase i s ≠ some (r, v)) → t.g p.1 r = s.g p.1 r) ∧
      (∀ r v, storeBase i s = some (r, v) → t.g p.1 r = v) ∧
      (∀ q, q ≠ p.1 → t.proc q = s.proc q) ∧ (t.proc p.1).mh = (s.proc p.1).mh ∧ (t.proc p.1).ml = (s.proc p.1).ml ∧
      (t.proc p.1).status = (s.proc p.1).status ∧ (t.proc p.1).splim = (s.proc p.1).splim ∧
      (t.proc p.1).vbase = (s.proc p.1).vbase ∧ (t.proc p.1).due = (s.proc p.1).due ∧ (t.proc p.1).event = (s.proc p.1).event

/-- A step runs the command at the front of the queue with the rest of the queue (00_scope.md). -/
def Obligations.StepRunsTheFrontCommand : Prop :=
  ∀ (c : Instr) (rest : List Instr) (s : State),
    step { s with pending := c :: rest } = exec c { s with pending := rest }

/-- On an empty queue a step is one tick of time (the model's choice, log 1): master time moves on, and then what is
due comes (R50, R52, R53, R141). -/
def Obligations.IdleStepIsATick : Prop :=
  ∀ s : State, s.pending = [] → ∃ u v t, step s = .next t ∧
    (s.pwr.off = true → t = s) ∧
    (s.pwr.off = false →
      u.reg = s.reg ∧ u.mem = s.mem ∧ u.bank = s.bank ∧ u.procs = s.procs ∧ u.chans = s.chans ∧ u.claims = s.claims ∧
      u.ctr = s.ctr ∧ u.fix = s.fix ∧ u.pending = [] ∧ t = calcDraw (calcTrim v) ∧
      (calcActive v = false → v.calculator.drawn = false → t = v) ∧
      (s.clk.fabOn = true → u.clk.fabMt = (s.clk.fabMt + 1) % 2 ^ 60 ∧
        v = (if u.fabric then mpptRead (occurDue (fixTake u)) else sevDue u) ∧
        (s.clk.fabMer = true → u.clk.keepMt =
          (if u.clk.fabMt % 18750 = s.clk.edge ∧ s.clk.frozen = false then (s.clk.keepMt + 18750) % 2 ^ 60 else s.clk.keepMt))) ∧
      (s.clk.fabOn = false → v = sevDue u ∧
        u.clk.keepMt = (if s.clk.frozen then s.clk.keepMt else (s.clk.keepMt + 18750) % 2 ^ 60)) ∧
      (s.fabric = false → s.sched = [] → v = u))

/-- The state after reset has every map in its canonical form, and an empty queue (R90, R97, R101). -/
def Obligations.ResetIsWellFormed : Prop :=
  State.reset.WF ∧ State.reset.pending = []

/-- What reset leaves: registers 0, VBASE 0x30000, sequencers stopped, domains ready, no owner, memory 0 (R83, R90,
R97, R101, R103, R164). -/
def Obligations.ResetLeavesTheStatedValues : Prop :=
  ∀ s : State, s = State.reset →
    (∀ p, p < 34 → (∀ r : BitVec 4, s.g p r = 0) ∧ (s.proc p).mh = 0 ∧ (s.proc p).ml = 0 ∧ (s.proc p).status = 0 ∧
      (s.proc p).splim = 0) ∧
    (∀ p, p < 2 → s.vbaseOf p = 0x30000#20 ∧ (s.proc p).run = .running ∧ s.pcOf p = Config.resetEntry) ∧
    (∀ p, 2 ≤ p → p < 34 → (s.proc p).run = .stopped) ∧
    s.pstate = 0 ∧ (∀ d, 1 ≤ d → d ≤ 5 → s.dom d = true) ∧ (∀ cls idx, s.owner cls idx = 0) ∧
    s.rb 0x72800 0 = false ∧ (∀ a, a < 0x30000 → s.rdMem a = 0) ∧ (∀ a, 0x38000 ≤ a → s.rdMem a = 0) ∧
    s.rd 0x74002 = 0 ∧ (∀ i, s.counter i = 0)

/-- Every step from a well-formed state leads to a well-formed state, and takes at most the front command from the
queue (R6, R85, R90, R97, R168, R289). -/
def Obligations.StepKeepsCanonicalForms : Prop :=
  ∀ s t : State, s.WF → step s = .next t → t.WF ∧ t.pending = s.pending.tail

/-- No OTP bit returns from 1 to 0 in any step; OTP_PROG sets bits; SYS_OTP_ADDR selects the word that SYS_OTP_DATA
reads (R430, R431). -/
def Obligations.OtpBitsStay : Prop :=
  (∀ s t : State, s.WF → step s = .next t → ∀ a i, (otpWord a s).testBit i = true → (otpWord a t).testBit i = true) ∧
  (∀ (a : Fin 256) (v : BitVec 16) (s : State), s.pwr.off = false → ∃ t, Runs (.otpProg a v) s t ∧
      otpWord a.1 t = otpWord a.1 s ||| v.toNat ∧ ∀ b, b ≠ a.1 → otpWord b t = otpWord b s) ∧
  (∀ (q r : Req) (v : Word) (s : State), Admitted q 0x70004 true s → ∃ t, Runs (.otpAddrWrite q v) s t ∧
      (Admitted r 0x70005 false t → busRead r.toNat 0x70005 t = (BitVec.ofNat 20 (otpWord (fld v 0 8) s), t)))

/-- Addresses 0x70407 to 0x707FF read 0 and ignore writes (R58). -/
def Obligations.ReservedClockAddresses : Prop :=
  ∀ (q : Req) (a v : Word) (s : State), 0x70407 ≤ a.toNat → a.toNat ≤ 0x707FF →
    (busRead q.toNat a.toNat s).1 = 0 ∧ (Admitted q a.toNat false s → (busRead q.toNat a.toNat s).2 = s) ∧
    (Admitted q a.toNat true s → Runs (.registerWrite q a v) s s)

/-- Offsets 0x014 to 0x01F and 0x02A to 0x0FF of every cell's block read 0 and ignore writes (R170). -/
def Obligations.ReservedCellOffsets : Prop :=
  ∀ (c : CellId) (o : Nat) (q : Req) (a v : Word) (s : State), (0x14 ≤ o ∧ o ≤ 0x1F) ∨ (0x2A ≤ o ∧ o ≤ 0xFF) →
    a.toNat = cellBase c.1 + o →
    (busRead q.toNat a.toNat s).1 = 0 ∧ (Admitted q a.toNat false s → (busRead q.toNat a.toNat s).2 = s) ∧
    (Admitted q a.toNat true s → Runs (.registerWrite q a v) s s)

/-- A dark or BUSERR access records its address, requester and kind, and counts; a sequencer reads 0 and goes on
(R88). -/
def Obligations.FaultedAccessesAreRecorded : Prop :=
  (∀ (q : Req) (a v : Word) (w k : Bool) (s : State), s.dead = false →
      reqFault q.toNat a.toNat w s = some k →
      ∃ t, t = { s with reg := t.reg, cyc := t.cyc } ∧ t.rd 0x70C12 = a ∧ t.rf 0x70C13 0 6 = q.toNat ∧ t.rb 0x70C13 18 = k ∧
        t.rb 0x70C13 19 = true ∧ t.rd 0x70C14 = s.rd 0x70C14 + 1 ∧ (∀ b, b < 0x70C12 ∨ 0x70C14 < b → t.rd b = s.rd b) ∧
        (w = false → busRead q.toNat a.toNat s = (0, t)) ∧
        (w = true → a ≠ 0x72001#20 → a ≠ 0x72002#20 → Runs (.registerWrite q a v) s t)) ∧
  (∀ (p : ProcId) (f : ShortF) (s u : State) (a : Word) (k : Bool), isCell p.1 = true → Ready (.ld p f) s →
      a = s.g p.1 f.rs + BitVec.ofNat 20 f.sub.toNat → u = accessTurn p.1 a.toNat s → u.dead = false →
      reqFault (p.1 - 2) a.toNat false u = some k → mayHold p f.rd 0 (recordFault a.toNat (p.1 - 2) k u) →
        Runs (.ld p f) s (completed p 1 s ((recordFault a.toNat (p.1 - 2) k u).setG p.1 f.rd 0))) ∧
  (∀ (p : ProcId) (f : ShortF) (s : State) (a : Word) (k : Bool), isCell p.1 = true → Ready (.st p f) s →
      a = s.g p.1 f.rs + BitVec.ofNat 20 f.sub.toNat → reqFault (p.1 - 2) a.toNat true s = some k →
        Runs (.st p f) s (completed p 1 s (recordFault a.toNat (p.1 - 2) k s))) ∧
  (∀ (p : ProcId) (a v : Word) (k : Bool) (s u : State), isCell p.1 = true → u = accessTurn p.1 a.toNat s →
      dataFault p.1 a false s = none ∧ dataFault p.1 a true s = none ∧
      (u.dead = false → reqFault (p.1 - 2) a.toNat false u = some k →
        readWord p.1 a s = (0, recordFault a.toNat (p.1 - 2) k u)) ∧
      (reqFault (p.1 - 2) a.toNat true s = some k → post p.1 a v s = recordFault a.toNat (p.1 - 2) k s))

/-- A memory read that finds a parity error returns the stored word, records itself and gives running Helm cores an
NMI (R90, R91). -/
def Obligations.ParityErrorsOnReads : Prop :=
  ∀ (q : Req) (a : Word) (s : State), a.toNat < 0x70000 ∨ 0x80000 ≤ a.toNat → s.badParity.contains a.toNat = true →
    Admitted q a.toNat false s →
    ∃ t, busRead q.toNat a.toNat s = (s.rdMem a.toNat, t) ∧ t.mem = s.mem ∧ t.rd 0x70C15 = a ∧
      t.rf 0x70C16 0 6 = q.toNat ∧ t.rb 0x70C16 19 = true ∧ t.rd 0x70C17 = s.rd 0x70C17 + 1 ∧
      (helmStopped s = false → ∀ h, h < 2 → (s.proc h).run = .running → tst (s.proc h).status 12 = false → (t.proc h).nmiPend = true) ∧
      (∀ v, (t.wrMem a.toNat v).badParity.contains a.toNat = false)

/-- Claim, release and query: status, effect on the table, the result each core reads; other requesters are discarded
(R97, R98, R100). -/
def Obligations.ClaimCommandsFollowTheTable : Prop :=
  (∀ (h : HelmId) (q : Req) (v : Word) (s : State) (cls idx code o : Nat), q.toNat = 0x20 + h.1 → Admitted q 0x70C00 true s →
      cls = fld v 15 3 → cls ≤ 4 → idx = fld v 6 9 → code = fld v 0 6 → ownerKnown code = true → o = s.owner cls idx →
      (∃ t st, Runs (.busClaim q v) s t ∧ st = (if classSize cls ≤ idx then 4 else if o = 0 ∨ o = code then 0 else 1) ∧
        t.owner cls idx = (if st = 0 then code else o) ∧
        (∀ c i, i < 512 → ¬ (c = cls ∧ i = idx) → t.owner c i = s.owner c i) ∧
        vget 0 t.bus.result h.1 = BitVec.ofNat 20 (st * 65536 + (if st = 4 then 0 else t.owner cls idx))) ∧
      (∃ t st, Runs (.busRelease q v) s t ∧
        st = (if classSize cls ≤ idx then 4 else if o = 0x24 then 3 else if o ≠ 0 ∧ o = code then 0 else 2) ∧
        t.owner cls idx = (if st = 0 then 0 else o) ∧
        (∀ c i, i < 512 → ¬ (c = cls ∧ i = idx) → t.owner c i = s.owner c i) ∧
        vget 0 t.bus.result h.1 = BitVec.ofNat 20 (st * 65536 + (if st = 4 then 0 else t.owner cls idx))) ∧
      (∃ t st, Runs (.busQuery q v) s t ∧ st = (if classSize cls ≤ idx then 4 else 0) ∧ t.claims = s.claims ∧
        vget 0 t.bus.result h.1 = BitVec.ofNat 20 (st * 65536 + (if st = 4 then 0 else o)))) ∧
  (∀ (q : Req) (v : Word) (s : State), q ≠ 0x20#6 → q ≠ 0x21#6 → Admitted q 0x70C00 true s →
      Runs (.busClaim q v) s s ∧ Runs (.busRelease q v) s s ∧ Runs (.busQuery q v) s s)

/-- A read of the low word of MT holds the middle and high words for its reader, and the reads of those return the
held words (R55). -/
def Obligations.MasterTimeIsReadThroughPrivateHolds : Prop :=
  (∀ (h : HelmId) (q : Req) (s : State), q.toNat = 0x20 + h.1 →
      (Admitted q 0x70010 false s → ∃ t, busRead q.toNat 0x70010 s = (wordOf s.mt 0, t) ∧
        t = { s with clk := { s.clk with hold := t.clk.hold } } ∧
        (∀ k, lookup zeroAt t.clk.hold k = if k = h.1 then s.mt / 2 ^ 20 else lookup zeroAt s.clk.hold k)) ∧
      (Admitted q 0x70011 false s → busRead q.toNat 0x70011 s = (wordOf (lookup zeroAt s.clk.hold h.1) 0, s)) ∧
      (Admitted q 0x70012 false s → busRead q.toNat 0x70012 s = (wordOf (lookup zeroAt s.clk.hold h.1) 1, s))) ∧
  (∀ s : State,
      (∃ t, windowRead 0x0E s = (wordOf s.mt 0, t) ∧ t = { s with clk := { s.clk with hold := t.clk.hold } } ∧
        (∀ k, lookup zeroAt t.clk.hold k = if k = 2 then s.mt / 2 ^ 20 else lookup zeroAt s.clk.hold k)) ∧
      windowRead 0x0F s = (wordOf (lookup zeroAt s.clk.hold 2) 0, s) ∧
      windowRead 0x10 s = (wordOf (lookup zeroAt s.clk.hold 2) 1, s))

/-- FIX_SEQ is 0 after every reset, 1 at the first completion, one higher at each, and 1 again after 0xFFFFF (R294).
-/
def Obligations.FixSequenceNumbers : Prop :=
  (∀ s t : State, Runs .coldReset s t ∨ (s.pwr.off = false ∧ Runs .pinReset s t) ∨ (s.pwr.off = false ∧ Runs .sysreset s t) ∨
      ((s.proc 0).run = .lockup ∧ (s.proc 1).run = .lockup ∧ Runs .lockupReset s t) ∨
      (∃ v : Word, fld v 8 12 = 0x5EA ∧ tst v 0 = true ∧ Admitted 0x20#6 0x70002 true s ∧ Runs (.softReset 0x20#6 v) s t) ∨
      (s.pwr.off = false ∧ Runs .brownOut s t) ∨ Runs .powerOff s t → t.rd 0x74002 = 0) ∧
  (∀ (s : State) (b : FixBank), s.fabric = true → s.fix.capture = some b → b.mt ≤ s.mt → pinned (1 - s.fixCur) s = false →
      ∃ t, Runs .fixComplete s t ∧ t.rd 0x74002 = (if s.rd 0x74002 = 0xFFFFF#20 then 1 else s.rd 0x74002 + 1) ∧
        t.rd 0x74002 ≠ 0 ∧ t.fixCur = 1 - s.fixCur ∧
        (if t.fixCur = 0 then t.fix.bank0 else t.fix.bank1).seq = (t.rd 0x74002).toNat)

/-- A Fix completion never writes the current bank or a pinned bank; FIX_OPEN pins the current bank and FIX_CLOSE
releases it (R293, R296). -/
def Obligations.PinnedBanksAreNotWritten : Prop :=
  (∀ s t : State, Runs .fixComplete s t →
      (pinned 0 s = true ∨ s.fixCur = 0 → t.fix.bank0 = s.fix.bank0) ∧
      (pinned 1 s = true ∨ s.fixCur = 1 → t.fix.bank1 = s.fix.bank1)) ∧
  (∀ (q : Req) (s : State), Admitted q 0x74004 false s → ∃ t, Runs (.fixOpen q) s t ∧
      busRead q.toNat 0x74004 s = (BitVec.ofNat 20 s.fixCur, t) ∧ lookup zeroAt t.fix.pins q.toNat = s.fixCur + 1) ∧
  (∀ (q : Req) (v : Word) (s : State), Admitted q 0x74005 true s →
      (tst v 0 = true → ∃ t, Runs (.fixClose q v) s t ∧ lookup zeroAt t.fix.pins q.toNat = 0) ∧
      (tst v 0 = false → Runs (.fixClose q v) s s))

/-- A submit enqueues, or is discarded with ovf at eight; a DONE read returns the oldest completion word and frees its
place (R316, R317, R320). -/
def Obligations.SextantQueuesHoldEight : Prop :=
  (∀ (q : Req) (a : Word) (s : State), 0x20 ≤ q.toNat → s.dead = false → s.pstate ≤ 1 → sxtReady s = true →
      (sxtCount false s < 8 → Runs (.sxtSubmitInteractive q a) s (s.mapSxt fun x => { x with q0 := x.q0 ++ [a] })) ∧
      (sxtCount true s < 8 → Runs (.sxtSubmitBulk q a) s (s.mapSxt fun x => { x with q1 := x.q1 ++ [a] })) ∧
      (8 ≤ sxtCount false s → ∃ t, Runs (.sxtSubmitInteractive q a) s t ∧ t.sxt = s.sxt ∧ t.rb 0x72000 17 = true ∧
        t.rd 0x72007 = s.rd 0x72007 + 1) ∧
      (8 ≤ sxtCount true s → ∃ t, Runs (.sxtSubmitBulk q a) s t ∧ t.sxt = s.sxt ∧ t.rb 0x72000 17 = true ∧
        t.rd 0x72007 = s.rd 0x72007 + 1)) ∧
  (∀ (q : Req) (w d : Word) (r : List (Word × Word)) (s : State),
      (s.sxt.done0 = (w, d) :: r → Admitted q 0x72003 false s → ∃ t, busRead q.toNat 0x72003 s = (w, t) ∧
        Runs (.sxtDoneRead q false) s t ∧ t = s.mapSxt (fun x => { x with done0 := r }) ∧ sxtCount false t + 1 = sxtCount false s) ∧
      (s.sxt.done1 = (w, d) :: r → Admitted q 0x72004 false s → ∃ t, busRead q.toNat 0x72004 s = (w, t) ∧
        Runs (.sxtDoneRead q true) s t ∧ t = s.mapSxt (fun x => { x with done1 := r }) ∧ sxtCount true t + 1 = sxtCount true s) ∧
      (s.sxt.done0 = [] → Admitted q 0x72003 false s → busRead q.toNat 0x72003 s = (0, s)) ∧
      (s.sxt.done1 = [] → Admitted q 0x72004 false s → busRead q.toNat 0x72004 s = (0, s)))

/-- A write to LOG_SWREC queues one record with its header and data; a type outside 0x20 to 0x3B sets cfg_err and is
discarded (R301). -/
def Obligations.FirmwareRecordsAreQueued : Prop :=
  ∀ (q : Req) (v : Word) (s : State), Admitted q 0x7E00C true s → ∃ t, Runs (.logSwrec q v) s t ∧
    ((0x20 ≤ fld v 14 6 ∧ fld v 14 6 ≤ 0x3B → s.log.queue.length < 64 →
        ∃ r, recWords r = [v, wordOf s.mt 0, wordOf s.mt 1, wordOf s.mt 2, s.rd 0x7E008, s.rd 0x7E009, s.rd 0x7E00A, s.rd 0x7E00B] ∧
          r.mt = s.mt ∧ t.log.queue = placeRec r s.log.queue ∧ t.reg = s.reg) ∧
     (0x20 ≤ fld v 14 6 ∧ fld v 14 6 ≤ 0x3B → 64 ≤ s.log.queue.length →
        t.log.queue = s.log.queue ∧ t.rd 0x7E004 = s.rd 0x7E004 + 1) ∧
     (fld v 14 6 < 0x20 ∨ 0x3B < fld v 14 6 → t.log = s.log ∧ t.rb 0x7E001 17 = true))

/-- The 64-word host FIFOs: writes, reads, overflow, underflow and flushes (R368, R371, R372). -/
def Obligations.HostFifosOverflowUnderflowAndFlush : Prop :=
  ∀ s : State, windowOn s = true →
    (∀ v, s.host.tx.length < 64 → ∃ t, Runs (.txDataWrite v) s t ∧ t.host = { s.host with tx := s.host.tx ++ [v], frame := none } ∧
      t.reg = s.reg) ∧
    (∀ v, 64 ≤ s.host.tx.length → ∃ t, Runs (.txDataWrite v) s t ∧ t.host = { s.host with frame := none } ∧ t.rb 0x100002 10 = true) ∧
    (∀ w r, s.host.rx = w :: r → s.host.staged = none → ∃ t u, windowRead 0x07 s = (w, u) ∧ u.host = { s.host with rx := r } ∧
      Runs .rxDataRead s t ∧ t.host = { s.host with rx := r, shown := w, frame := none } ∧ t.reg = s.reg ∧ u.reg = s.reg) ∧
    (s.host.rx = [] → ∃ t u, windowRead 0x07 s = (0, u) ∧ u.host = s.host ∧ u.rb 0x100002 9 = true ∧
      Runs .rxDataRead s t ∧ t.host = { s.host with shown := 0, frame := none } ∧ t.rb 0x100002 9 = true) ∧
    (∃ t, Runs .txFlush s t ∧ t.host.tx = [] ∧ t.host.part = [] ∧ t.host.taken = s.host.taken ∧ t.host.expect = s.host.expect ∧
      t.host.replies = s.host.replies ∧ t.host.rx = s.host.rx) ∧
    (s.host.staged = none → ∃ t, Runs .rxFlush s t ∧ t.host.rx = [] ∧ t.host.taken = s.host.taken ∧ t.host.tx = s.host.tx ∧
      t.host.expect = s.host.expect ∧ t.host.placing = false ∧
      t.host.replies = (if s.host.placing then s.host.replies.drop 1 else s.host.replies))

/-- LOCK_SET locks, empties the key FIFO and turns the calculator on, where a sequence of 1 to 8 keys stands; else it
is ignored (R323, R353). -/
def Obligations.SettingTheExamLock : Prop :=
  ∀ (host : Bool) (q : Req) (v : Word) (s : State), (host = true → windowOn s = true ∧ tst v 0 = true) →
    (host = false → Admitted q 0x71822 true s ∧ tst v 1 = true) →
    ∃ t, Runs (.lockSet host q v) s t ∧
      (1 ≤ s.rf 0x71823 0 4 → s.rf 0x71823 0 4 ≤ 8 → examLock t = true ∧ t.key.fifo = [] ∧ calcActive t = true ∧
        t.rd 0x71824 = s.rd 0x71824 + BitVec.ofNat 20 s.key.fifo.length ∧ t.key.accepted = s.key.accepted ∧ t.mem = s.mem) ∧
      (s.rf 0x71823 0 4 = 0 ∨ 8 < s.rf 0x71823 0 4 → t.key = s.key ∧ examLock t = examLock s ∧ t.rb 0x71802 13 = true)

/-- A write by any requester but Helm0 to the PROT block, and any write to a locked entry, changes nothing (R247,
R250). -/
def Obligations.OnlyHelm0WritesTheProtectionSet : Prop :=
  (∀ (q : Req) (a v : Word) (s : State), q ≠ 0x20#6 → 0x72800 ≤ a.toNat → a.toNat < 0x73000 → Admitted q a.toNat true s →
      Runs (.registerWrite q a v) s s) ∧
  (∀ (q : Req) (i : Fin 16) (v : Word) (s : State), q ≠ 0x20#6 →
      (Admitted q 0x72801 true s → Runs (.protTripClear q v) s s) ∧ (Admitted q 0x72800 true s → Runs (.protLock q v) s s) ∧
      (Admitted q (0x72810 + 8 * i.1) true s → Runs (.protEntryEnable q i v) s s)) ∧
  (∀ (q : Req) (i : Fin 16) (a v : Word) (s : State), s.rb 0x72800 0 = true →
      (0x72810 ≤ a.toNat → a.toNat < 0x72890 → Admitted q a.toNat true s → Runs (.registerWrite q a v) s s) ∧
      (Admitted q (0x72810 + 8 * i.1) true s → Runs (.protEntryEnable q i v) s s))

/-- Every fast path: e is saturated, u lies within the limits in force, and the integrator stands still while v is
clipped (R173, R177, R178). -/
def Obligations.LawSaturatesAndDoesNotWindUp : Prop :=
  ∀ (c t θ : Nat) (job : Option (Nat × Nat)) (y ref a : Int) (s : State) (f : FastPath), f = law c t θ job y ref a s →
    f.e = max (-524288) (min 524287 (ref - y)) ∧ (limits c s).2 ≤ f.u ∧ f.u ≤ (limits c s).1 ∧
    (f.inLimit = false ∨ tst (s.live c 0x10) 3 = true → f.inc = none) ∧
    (∀ i, f.inc = some i → i = term f.e (s.live c 0x15) (fld (s.live c 0x17) 5 5))

/-- The following-error evaluation at a boundary: the timer, the time counter, and its action once per excursion
(R187, R289). -/
def Obligations.FollowingErrorTimer : Prop :=
  ∀ (c len time timer : Nat) (s t : State), c < 32 → time = fld (s.live c 0x1F) 0 16 → t = feEvaluate c len s →
    timer = (if time = 0 then 0 else if (s.cell c).withinSeen then 0
      else if (s.cell c).ran then min ((s.cell c).feTimer + 1) 0xFFFF else (s.cell c).feTimer) →
    ∃ u, (u.cell c).feTimer = timer ∧ (u.cell c).withinSeen = false ∧ (u.cell c).ran = false ∧
      ((u.cell c).feFired = true ↔ timer ≠ 0 ∧ (s.cell c).feFired = true) ∧
      u.counter (100 + 5 * c) = (if (s.cell c).feTimer < timer then (s.counter (100 + 5 * c) + len) % 2 ^ 40
        else s.counter (100 + 5 * c)) ∧ (∀ d, d ≠ c → u.cell d = s.cell d) ∧ u.reg = s.reg ∧
      (time ≠ 0 → time ≤ timer → (s.cell c).feFired = false → t = withFreeze (feFire c) u) ∧
      (time = 0 ∨ timer < time ∨ (s.cell c).feFired = true → t = u)

/-- A Cupola frame inverts the polarity; every second frame copies the image unless frozen; frames run only with en
and pump_ok (R357, R358, R360). -/
def Obligations.CupolaFramesAlternate : Prop :=
  (∀ s : State, framesRun s = true → ∃ t, Runs .cupolaFrame s t ∧ t.cup.polarity = (!s.cup.polarity) ∧
      t.cup.second = (!s.cup.second) ∧ t.rd 0x71C03 = s.rd 0x71C03 + 1 ∧
      (s.cup.second = true → s.rb 0x71C00 3 = false → t.cup.latch = displayWords s ∧ t.rb 0x71C02 18 = true) ∧
      (s.cup.second = false ∨ s.rb 0x71C00 3 = true → t.cup.latch = s.cup.latch) ∧
      framesRun t = true ∧ ∀ u, Runs .cupolaFrame t u → u.cup.polarity = s.cup.polarity) ∧
  (∀ s : State, s.rb 0x71C00 0 = false ∨ s.rb 0x71C02 19 = false → Runs .cupolaFrame s s)

/-- Sextant's encoding: declets and whole numbers read back as they were written, canonical and normal (R306, R307).
-/
def Obligations.DecimalsRoundTrip : Prop :=
  (∀ n, n < 1000 → decletOf n < 1024 ∧ decletVal (decletOf n) = n) ∧
  (∀ (neg : Bool) (c : Nat) (q : Int), 0 < c → c < 10 ^ 24 → -10022 ≤ q → q ≤ 9976 →
      (decWords (.fin neg c q)).length = 5 ∧
      ∃ k : Nat, decRead (decWords (.fin neg c q)) = .fin neg (c * 10 ^ k) (q - k) ∧ c * 10 ^ k < 10 ^ 24 ∧
        (10 ^ 23 ≤ c * 10 ^ k ∨ q - k = -10022)) ∧
  (∀ (neg : Bool) (q : Int), ∃ r, decRead (decWords (.fin neg 0 q)) = .fin neg 0 r) ∧
  (∀ neg : Bool, decRead (decWords (.inf neg)) = .inf neg) ∧
  (∀ p, p < 10 ^ 24 → decRead (decWords (.qnan p)) = .qnan p ∧ decRead (decWords (.snan p)) = .snan p)

/-- Nguir: the first check that fails gives its status and detail, and nothing of the packet is carried out (R374,
R376, R377, R379). -/
def Obligations.PacketsThatFailACheckAreAnswered : Prop :=
  (∀ (i : Instr) (st : Stream) (op : Nat) (p : Packet) (x : Nat × Nat) (s : State), packetCommand i = some (st, op) →
      helm1Serves s = true → waitOn st.1 s = none → firstTaken st.1 s = some p → p.op = op → packetBlocked p s = false →
      checkPacket p s = some x →
        ∃ t, Runs i s t ∧
          t = respond p x.1 x.2 [] (advanceExpect p (s.mapHostif fun h => { h with taken := takeOut p.stream h.taken })) ∧
          t.mem = s.mem ∧ t.bank = s.bank ∧ t.procs = s.procs ∧ t.cells = s.cells ∧ t.chans = s.chans ∧ t.claims = s.claims ∧
          t.policy = s.policy) ∧
  (∀ (p : Packet) (s : State),
      (p.crcOk = false → checkPacket p s = some (0x03, 0)) ∧
      (p.crcOk = true → p.op = 0x01 → checkPacket p s = none) ∧
      (p.crcOk = true → p.op ≠ 0x01 → streamStopped p.stream s = true →
        checkPacket p s = (if p.op = 0x0A then none else some (0x01, vget 0 s.host.stopSeq p.stream))) ∧
      (p.crcOk = true → p.op ≠ 0x01 → streamStopped p.stream s = false →
        (p.seq ≠ expected p.stream s → checkPacket p s = some (0x04, expected p.stream s)) ∧
        (p.seq = expected p.stream s →
          (p.stream < 4 → expected p.stream (advanceExpect p s) = (expected p.stream s + 1) % 64) ∧
          (p.ver = 0 ∨ s.rf 0x71003 14 4 < p.ver → checkPacket p s = some (0x05, s.rf 0x71003 14 4)) ∧
          (1 ≤ p.ver → p.ver ≤ s.rf 0x71003 14 4 → opCarried p.op p.ver = false → checkPacket p s = some (0x02, 0)) ∧
          (1 ≤ p.ver → p.ver ≤ s.rf 0x71003 14 4 → opCarried p.op p.ver = true → countOk p.op p.params.length = false →
            checkPacket p s = some (0x06, p.params.length)))))

/-- Every reset but COLD keeps Keep SRAM, the bounds, the Keep fields and MT of Keep, and clears every other memory;
COLD clears all (R61, R90, R423). -/
def Obligations.KeepSurvivesResets : Prop :=
  (∀ s t : State, (s.pwr.off = false ∧ Runs .pinReset s t) ∨ (s.pwr.off = false ∧ Runs .sysreset s t) ∨
      ((s.proc 0).run = .lockup ∧ (s.proc 1).run = .lockup ∧ Runs .lockupReset s t) ∨
      (∃ v : Word, fld v 8 12 = 0x5EA ∧ tst v 0 = true ∧ Admitted 0x20#6 0x70002 true s ∧ Runs (.softReset 0x20#6 v) s t) ∨
      (s.pwr.off = false ∧ Runs .brownOut s t) →
        (∀ a, 0x38000 ≤ a → a < 0x3A000 → t.rdMem a = s.rdMem a) ∧ (∀ a, a < 0x38000 ∨ 0x3A000 ≤ a → t.rdMem a = memDefault a) ∧
        t.policy.bounds = s.policy.bounds ∧ t.clk.keepMt = s.clk.keepMt ∧ t.boot.otp = s.boot.otp ∧
        (s.WF → t.rb 0x70800 6 = s.rb 0x70800 6 ∧ t.rb 0x70801 1 = s.rb 0x70801 1 ∧ t.rb 0x70801 0 = s.rb 0x70801 0) ∧
        t.rb 0x70801 2 = true ∧ t.procs = State.reset.procs ∧ t.claims = [] ∧ t.pwr.inReset = true) ∧
  (∀ s t : State, Runs .coldReset s t → (∀ a, t.rdMem a = memDefault a) ∧ t.clk.keepMt = 0 ∧ t.boot.otp = s.boot.otp ∧
      t.procs = State.reset.procs ∧ t.claims = [])

/-- Frame: thirteen commands of peripheral blocks leave memory, banks, processors, cells, channels, claims and
counters as they are (R55, R164, R291, R320, R347, R354, R357, R372, R430). -/
def Obligations.BlockCommandsKeepToTheirBlock : Prop :=
  ∀ (i : Instr) (s : State), (∃ r, i = .mtLowRead r) ∨ i = .cupolaFrame ∨ (∃ b, i = .pumpOkChange b) ∨
      (∃ q n, i = .counterLowRead q n) ∨ (∃ q b, i = .sxtDoneRead q b) ∨ (∃ h q, i = .keyFifoRead h q) ∨ i = .scanStart ∨
      i = .unlockTimeout ∨ i = .txFlush ∨ i = .rxFlush ∨ (∃ q v, i = .otpAddrWrite q v) ∨ (∃ q c v, i = .cellStandby q c v) ∨
      (∃ w, i = .calibrationSettled w) →
    ∃ t, Runs i s t ∧ t.mem = s.mem ∧ t.bank = s.bank ∧ t.procs = s.procs ∧ t.cells = s.cells ∧ t.chans = s.chans ∧
      t.claims = s.claims ∧ t.ctr = s.ctr ∧ t.pending = s.pending
end

