-- ==== Sys2Proof/Laws/Mem.lean ====
section
/-! SUPPORT. Sparse maps: a read after a write, and that every operation keeps the canonical form. -/
namespace Sys2Proof.Machine

variable {α : Type} {d : Nat → α} {m : SMap α} {j k : Nat} {v w : α}

/-- A key below every key of a map is not listed: it reads as the default. -/
theorem lookup_above (h : above k m = true) : lookup d m k = d k := by
  induction m with
  | nil => rfl
  | cons x m ih =>
    obtain ⟨i, w⟩ := x
    simp only [above, Bool.and_eq_true, decide_eq_true_eq] at h
    simp only [lookup]
    rw [if_neg (by omega), ih h.2]

/-- Below a smaller key lies a greater one's bound. -/
theorem above_mono (hk : j ≤ k) (h : above k m = true) : above j m = true := by
  induction m with
  | nil => rfl
  | cons x m ih =>
    obtain ⟨i, w⟩ := x
    simp only [above, Bool.and_eq_true, decide_eq_true_eq] at h ⊢
    exact ⟨by omega, ih h.2⟩

theorem lookup_insertAt_self : lookup d (insertAt k v m) k = v := by
  induction m with
  | nil => simp [insertAt, lookup]
  | cons x m ih =>
    obtain ⟨i, w⟩ := x
    simp only [insertAt]
    split
    · simp [lookup]
    · split
      · simp [lookup]
      · rename_i h1 h2
        simp [lookup, h2, ih]

theorem lookup_insertAt_ne (h : j ≠ k) : lookup d (insertAt k v m) j = lookup d m j := by
  induction m with
  | nil => simp [insertAt, lookup, h.symm]
  | cons x m ih =>
    obtain ⟨i, w⟩ := x
    simp only [insertAt]
    split
    · simp [lookup, h.symm]
    · split
      · rename_i h1 h2
        subst h2
        simp [lookup, h.symm]
      · simp only [lookup, ih]

theorem lookup_dropAt_self : lookup d (dropAt k m) k = d k := by
  induction m with
  | nil => rfl
  | cons x m ih =>
    obtain ⟨i, w⟩ := x
    simp only [dropAt]
    split
    · exact ih
    · rename_i h
      simp [lookup, h, ih]

theorem lookup_dropAt_ne (h : j ≠ k) : lookup d (dropAt k m) j = lookup d m j := by
  induction m with
  | nil => rfl
  | cons x m ih =>
    obtain ⟨i, w⟩ := x
    simp only [dropAt]
    split
    · rename_i h2
      subst h2
      simp [lookup, h.symm, ih]
    · simp only [lookup, ih]

/-- A key reads as what was last written to it. -/
@[simp] theorem lookup_update_self [DecidableEq α] : lookup d (update d m k v) k = v := by
  unfold update
  split
  · rename_i h
    rw [lookup_dropAt_self, h]
  · exact lookup_insertAt_self

/-- A write leaves every other key as it was. -/
theorem lookup_update_ne [DecidableEq α] (h : j ≠ k) : lookup d (update d m k v) j = lookup d m j := by
  unfold update
  split
  · exact lookup_dropAt_ne h
  · exact lookup_insertAt_ne h

theorem above_insertAt (hj : j < k) (h : above j m = true) : above j (insertAt k v m) = true := by
  induction m with
  | nil => simp [insertAt, above, hj]
  | cons x m ih =>
    obtain ⟨i, w⟩ := x
    simp only [above, Bool.and_eq_true, decide_eq_true_eq] at h
    simp only [insertAt]
    split
    · simp [above, hj, h.1, h.2]
    · split
      · simp [above, hj, h.2]
      · simp [above, h.1, ih h.2]

theorem above_dropAt (h : above j m = true) : above j (dropAt k m) = true := by
  induction m with
  | nil => rfl
  | cons x m ih =>
    obtain ⟨i, w⟩ := x
    simp only [above, Bool.and_eq_true, decide_eq_true_eq] at h
    simp only [dropAt]
    split
    · exact ih h.2
    · simp [above, h.1, ih h.2]

theorem canonical_insertAt [DecidableEq α] (hv : v ≠ d k) (h : canonical d m = true) : canonical d (insertAt k v m) = true := by
  induction m with
  | nil => simp [insertAt, canonical, above, hv]
  | cons x m ih =>
    obtain ⟨i, w⟩ := x
    have h' := h
    simp only [canonical, Bool.and_eq_true, decide_eq_true_eq] at h
    simp only [insertAt]
    split
    · rename_i hk
      simp only [canonical, above, Bool.and_eq_true, decide_eq_true_eq]
      exact ⟨⟨hv, hk, above_mono (Nat.le_of_lt hk) h.1.2⟩, h.1, h.2⟩
    · split
      · rename_i h1 h2
        subst h2
        simp [canonical, hv, h.1.2, h.2]
      · rename_i h1 h2
        simp only [canonical, Bool.and_eq_true, decide_eq_true_eq]
        exact ⟨⟨h.1.1, above_insertAt (by omega) h.1.2⟩, ih h.2⟩

theorem canonical_dropAt [DecidableEq α] (h : canonical d m = true) : canonical d (dropAt k m) = true := by
  induction m with
  | nil => rfl
  | cons x m ih =>
    obtain ⟨i, w⟩ := x
    simp only [canonical, Bool.and_eq_true, decide_eq_true_eq] at h
    simp only [dropAt]
    split
    · exact ih h.2
    · simp only [canonical, Bool.and_eq_true, decide_eq_true_eq]
      exact ⟨⟨h.1.1, above_dropAt h.1.2⟩, ih h.2⟩

/-- A write keeps the canonical form. -/
theorem canonical_update [DecidableEq α] (h : canonical d m = true) : canonical d (update d m k v) = true := by
  unfold update
  split
  · exact canonical_dropAt h
  · exact canonical_insertAt (by assumption) h

theorem above_filter {p : Nat × α → Bool} (h : above j m = true) : above j (m.filter p) = true := by
  induction m with
  | nil => rfl
  | cons x m ih =>
    obtain ⟨i, w⟩ := x
    simp only [above, Bool.and_eq_true, decide_eq_true_eq] at h
    rw [List.filter_cons]
    split
    · simp [above, h.1, ih h.2]
    · exact ih h.2

/-- A selection of entries keeps the canonical form. -/
theorem canonical_filter [DecidableEq α] {p : Nat × α → Bool} (h : canonical d m = true) : canonical d (m.filter p) = true := by
  induction m with
  | nil => rfl
  | cons x m ih =>
    obtain ⟨i, w⟩ := x
    simp only [canonical, Bool.and_eq_true, decide_eq_true_eq] at h
    rw [List.filter_cons]
    split
    · simp only [canonical, Bool.and_eq_true, decide_eq_true_eq]
      exact ⟨⟨h.1.1, above_filter h.1.2⟩, ih h.2⟩
    · exact ih h.2

end Sys2Proof.Machine
end

