-- ==== Sys2Proof/Laws/State.lean ====
section
/-! SUPPORT. What each named update of State leaves in each field, so that no proof unfolds a record update. -/
namespace Sys2Proof.Machine

section wr
variable (s : State) (a : Nat) (v : Word)
@[simp] theorem wr_pending : (s.wr a v).pending = s.pending := rfl
@[simp] theorem wr_freeCtr : (s.wr a v).freeCtr = s.freeCtr := rfl
@[simp] theorem wr_reg : (s.wr a v).reg = update regReset s.reg a v := rfl
@[simp] theorem wr_mem : (s.wr a v).mem = s.mem := rfl
@[simp] theorem wr_bank : (s.wr a v).bank = s.bank := rfl
@[simp] theorem wr_loaded : (s.wr a v).loaded = s.loaded := rfl
@[simp] theorem wr_badParity : (s.wr a v).badParity = s.badParity := rfl
@[simp] theorem wr_procs : (s.wr a v).procs = s.procs := rfl
@[simp] theorem wr_clk : (s.wr a v).clk = s.clk := rfl
@[simp] theorem wr_pwr : (s.wr a v).pwr = s.pwr := rfl
@[simp] theorem wr_bus : (s.wr a v).bus = s.bus := rfl
@[simp] theorem wr_claims : (s.wr a v).claims = s.claims := rfl
@[simp] theorem wr_cells : (s.wr a v).cells = s.cells := rfl
@[simp] theorem wr_chans : (s.wr a v).chans = s.chans := rfl
@[simp] theorem wr_convs : (s.wr a v).convs = s.convs := rfl
@[simp] theorem wr_entries : (s.wr a v).entries = s.entries := rfl
@[simp] theorem wr_comps : (s.wr a v).comps = s.comps := rfl
@[simp] theorem wr_protWas : (s.wr a v).protWas = s.protWas := rfl
@[simp] theorem wr_ripples : (s.wr a v).ripples = s.ripples := rfl
@[simp] theorem wr_pos : (s.wr a v).pos = s.pos := rfl
@[simp] theorem wr_emus : (s.wr a v).emus = s.emus := rfl
@[simp] theorem wr_vecs : (s.wr a v).vecs = s.vecs := rfl
@[simp] theorem wr_ctr : (s.wr a v).ctr = s.ctr := rfl
@[simp] theorem wr_fix : (s.wr a v).fix = s.fix := rfl
@[simp] theorem wr_log : (s.wr a v).log = s.log := rfl
@[simp] theorem wr_sxt : (s.wr a v).sxt = s.sxt := rfl
@[simp] theorem wr_calculator : (s.wr a v).calculator = s.calculator := rfl
@[simp] theorem wr_key : (s.wr a v).key = s.key := rfl
@[simp] theorem wr_cup : (s.wr a v).cup = s.cup := rfl
@[simp] theorem wr_host : (s.wr a v).host = s.host := rfl
@[simp] theorem wr_tl : (s.wr a v).tl = s.tl := rfl
@[simp] theorem wr_boot : (s.wr a v).boot = s.boot := rfl
@[simp] theorem wr_policy : (s.wr a v).policy = s.policy := rfl
@[simp] theorem wr_ports : (s.wr a v).ports = s.ports := rfl
@[simp] theorem wr_cyc : (s.wr a v).cyc = s.cyc := rfl
@[simp] theorem wr_sched : (s.wr a v).sched = s.sched := rfl
end wr

section wrMem
variable (s : State) (a : Nat) (v : Word)
@[simp] theorem wrMem_pending : (s.wrMem a v).pending = s.pending := rfl
@[simp] theorem wrMem_freeCtr : (s.wrMem a v).freeCtr = s.freeCtr := rfl
@[simp] theorem wrMem_reg : (s.wrMem a v).reg = s.reg := rfl
@[simp] theorem wrMem_mem : (s.wrMem a v).mem = update memDefault s.mem a v := rfl
@[simp] theorem wrMem_bank : (s.wrMem a v).bank = s.bank := rfl
@[simp] theorem wrMem_loaded : (s.wrMem a v).loaded = s.loaded := rfl
@[simp] theorem wrMem_badParity : (s.wrMem a v).badParity = s.badParity.filter (· ≠ a) := rfl
@[simp] theorem wrMem_procs : (s.wrMem a v).procs = s.procs := rfl
@[simp] theorem wrMem_clk : (s.wrMem a v).clk = s.clk := rfl
@[simp] theorem wrMem_pwr : (s.wrMem a v).pwr = s.pwr := rfl
@[simp] theorem wrMem_bus : (s.wrMem a v).bus = s.bus := rfl
@[simp] theorem wrMem_claims : (s.wrMem a v).claims = s.claims := rfl
@[simp] theorem wrMem_cells : (s.wrMem a v).cells = s.cells := rfl
@[simp] theorem wrMem_chans : (s.wrMem a v).chans = s.chans := rfl
@[simp] theorem wrMem_convs : (s.wrMem a v).convs = s.convs := rfl
@[simp] theorem wrMem_entries : (s.wrMem a v).entries = s.entries := rfl
@[simp] theorem wrMem_comps : (s.wrMem a v).comps = s.comps := rfl
@[simp] theorem wrMem_protWas : (s.wrMem a v).protWas = s.protWas := rfl
@[simp] theorem wrMem_ripples : (s.wrMem a v).ripples = s.ripples := rfl
@[simp] theorem wrMem_pos : (s.wrMem a v).pos = s.pos := rfl
@[simp] theorem wrMem_emus : (s.wrMem a v).emus = s.emus := rfl
@[simp] theorem wrMem_vecs : (s.wrMem a v).vecs = s.vecs := rfl
@[simp] theorem wrMem_ctr : (s.wrMem a v).ctr = s.ctr := rfl
@[simp] theorem wrMem_fix : (s.wrMem a v).fix = s.fix := rfl
@[simp] theorem wrMem_log : (s.wrMem a v).log = s.log := rfl
@[simp] theorem wrMem_sxt : (s.wrMem a v).sxt = s.sxt := rfl
@[simp] theorem wrMem_calculator : (s.wrMem a v).calculator = s.calculator := rfl
@[simp] theorem wrMem_key : (s.wrMem a v).key = s.key := rfl
@[simp] theorem wrMem_cup : (s.wrMem a v).cup = s.cup := rfl
@[simp] theorem wrMem_host : (s.wrMem a v).host = s.host := rfl
@[simp] theorem wrMem_tl : (s.wrMem a v).tl = s.tl := rfl
@[simp] theorem wrMem_boot : (s.wrMem a v).boot = s.boot := rfl
@[simp] theorem wrMem_policy : (s.wrMem a v).policy = s.policy := rfl
@[simp] theorem wrMem_ports : (s.wrMem a v).ports = s.ports := rfl
@[simp] theorem wrMem_cyc : (s.wrMem a v).cyc = s.cyc := rfl
@[simp] theorem wrMem_sched : (s.wrMem a v).sched = s.sched := rfl
end wrMem

section setBankWord
variable (s : State) (c b w : Nat) (v : Word)
@[simp] theorem setBankWord_pending : (s.setBankWord c b w v).pending = s.pending := rfl
@[simp] theorem setBankWord_freeCtr : (s.setBankWord c b w v).freeCtr = s.freeCtr := rfl
@[simp] theorem setBankWord_reg : (s.setBankWord c b w v).reg = s.reg := rfl
@[simp] theorem setBankWord_mem : (s.setBankWord c b w v).mem = s.mem := rfl
@[simp] theorem setBankWord_bank : (s.setBankWord c b w v).bank = update zeroWord s.bank (bankKey c b w) v := rfl
@[simp] theorem setBankWord_loaded : (s.setBankWord c b w v).loaded = s.loaded := rfl
@[simp] theorem setBankWord_badParity : (s.setBankWord c b w v).badParity = s.badParity.filter (· ≠ 0x200000 + bankKey c b w) := rfl
@[simp] theorem setBankWord_procs : (s.setBankWord c b w v).procs = s.procs := rfl
@[simp] theorem setBankWord_clk : (s.setBankWord c b w v).clk = s.clk := rfl
@[simp] theorem setBankWord_pwr : (s.setBankWord c b w v).pwr = s.pwr := rfl
@[simp] theorem setBankWord_bus : (s.setBankWord c b w v).bus = s.bus := rfl
@[simp] theorem setBankWord_claims : (s.setBankWord c b w v).claims = s.claims := rfl
@[simp] theorem setBankWord_cells : (s.setBankWord c b w v).cells = s.cells := rfl
@[simp] theorem setBankWord_chans : (s.setBankWord c b w v).chans = s.chans := rfl
@[simp] theorem setBankWord_convs : (s.setBankWord c b w v).convs = s.convs := rfl
@[simp] theorem setBankWord_entries : (s.setBankWord c b w v).entries = s.entries := rfl
@[simp] theorem setBankWord_comps : (s.setBankWord c b w v).comps = s.comps := rfl
@[simp] theorem setBankWord_protWas : (s.setBankWord c b w v).protWas = s.protWas := rfl
@[simp] theorem setBankWord_ripples : (s.setBankWord c b w v).ripples = s.ripples := rfl
@[simp] theorem setBankWord_pos : (s.setBankWord c b w v).pos = s.pos := rfl
@[simp] theorem setBankWord_emus : (s.setBankWord c b w v).emus = s.emus := rfl
@[simp] theorem setBankWord_vecs : (s.setBankWord c b w v).vecs = s.vecs := rfl
@[simp] theorem setBankWord_ctr : (s.setBankWord c b w v).ctr = s.ctr := rfl
@[simp] theorem setBankWord_fix : (s.setBankWord c b w v).fix = s.fix := rfl
@[simp] theorem setBankWord_log : (s.setBankWord c b w v).log = s.log := rfl
@[simp] theorem setBankWord_sxt : (s.setBankWord c b w v).sxt = s.sxt := rfl
@[simp] theorem setBankWord_calculator : (s.setBankWord c b w v).calculator = s.calculator := rfl
@[simp] theorem setBankWord_key : (s.setBankWord c b w v).key = s.key := rfl
@[simp] theorem setBankWord_cup : (s.setBankWord c b w v).cup = s.cup := rfl
@[simp] theorem setBankWord_host : (s.setBankWord c b w v).host = s.host := rfl
@[simp] theorem setBankWord_tl : (s.setBankWord c b w v).tl = s.tl := rfl
@[simp] theorem setBankWord_boot : (s.setBankWord c b w v).boot = s.boot := rfl
@[simp] theorem setBankWord_policy : (s.setBankWord c b w v).policy = s.policy := rfl
@[simp] theorem setBankWord_ports : (s.setBankWord c b w v).ports = s.ports := rfl
@[simp] theorem setBankWord_cyc : (s.setBankWord c b w v).cyc = s.cyc := rfl
@[simp] theorem setBankWord_sched : (s.setBankWord c b w v).sched = s.sched := rfl
end setBankWord

section setOwner
variable (s : State) (cls idx code : Nat)
@[simp] theorem setOwner_pending : (s.setOwner cls idx code).pending = s.pending := rfl
@[simp] theorem setOwner_freeCtr : (s.setOwner cls idx code).freeCtr = s.freeCtr := rfl
@[simp] theorem setOwner_reg : (s.setOwner cls idx code).reg = s.reg := rfl
@[simp] theorem setOwner_mem : (s.setOwner cls idx code).mem = s.mem := rfl
@[simp] theorem setOwner_bank : (s.setOwner cls idx code).bank = s.bank := rfl
@[simp] theorem setOwner_loaded : (s.setOwner cls idx code).loaded = s.loaded := rfl
@[simp] theorem setOwner_badParity : (s.setOwner cls idx code).badParity = s.badParity := rfl
@[simp] theorem setOwner_procs : (s.setOwner cls idx code).procs = s.procs := rfl
@[simp] theorem setOwner_clk : (s.setOwner cls idx code).clk = s.clk := rfl
@[simp] theorem setOwner_pwr : (s.setOwner cls idx code).pwr = s.pwr := rfl
@[simp] theorem setOwner_bus : (s.setOwner cls idx code).bus = s.bus := rfl
@[simp] theorem setOwner_claims : (s.setOwner cls idx code).claims = update zeroAt s.claims (cls * 1000 + idx) code := rfl
@[simp] theorem setOwner_cells : (s.setOwner cls idx code).cells = s.cells := rfl
@[simp] theorem setOwner_chans : (s.setOwner cls idx code).chans = s.chans := rfl
@[simp] theorem setOwner_convs : (s.setOwner cls idx code).convs = s.convs := rfl
@[simp] theorem setOwner_entries : (s.setOwner cls idx code).entries = s.entries := rfl
@[simp] theorem setOwner_comps : (s.setOwner cls idx code).comps = s.comps := rfl
@[simp] theorem setOwner_protWas : (s.setOwner cls idx code).protWas = s.protWas := rfl
@[simp] theorem setOwner_ripples : (s.setOwner cls idx code).ripples = s.ripples := rfl
@[simp] theorem setOwner_pos : (s.setOwner cls idx code).pos = s.pos := rfl
@[simp] theorem setOwner_emus : (s.setOwner cls idx code).emus = s.emus := rfl
@[simp] theorem setOwner_vecs : (s.setOwner cls idx code).vecs = s.vecs := rfl
@[simp] theorem setOwner_ctr : (s.setOwner cls idx code).ctr = s.ctr := rfl
@[simp] theorem setOwner_fix : (s.setOwner cls idx code).fix = s.fix := rfl
@[simp] theorem setOwner_log : (s.setOwner cls idx code).log = s.log := rfl
@[simp] theorem setOwner_sxt : (s.setOwner cls idx code).sxt = s.sxt := rfl
@[simp] theorem setOwner_calculator : (s.setOwner cls idx code).calculator = s.calculator := rfl
@[simp] theorem setOwner_key : (s.setOwner cls idx code).key = s.key := rfl
@[simp] theorem setOwner_cup : (s.setOwner cls idx code).cup = s.cup := rfl
@[simp] theorem setOwner_host : (s.setOwner cls idx code).host = s.host := rfl
@[simp] theorem setOwner_tl : (s.setOwner cls idx code).tl = s.tl := rfl
@[simp] theorem setOwner_boot : (s.setOwner cls idx code).boot = s.boot := rfl
@[simp] theorem setOwner_policy : (s.setOwner cls idx code).policy = s.policy := rfl
@[simp] theorem setOwner_ports : (s.setOwner cls idx code).ports = s.ports := rfl
@[simp] theorem setOwner_cyc : (s.setOwner cls idx code).cyc = s.cyc := rfl
@[simp] theorem setOwner_sched : (s.setOwner cls idx code).sched = s.sched := rfl
end setOwner

section advance
variable (s : State) (n : Nat)
@[simp] theorem advance_pending : (s.advance n).pending = s.pending := rfl
@[simp] theorem advance_freeCtr : (s.advance n).freeCtr = s.freeCtr + n := rfl
@[simp] theorem advance_reg : (s.advance n).reg = s.reg := rfl
@[simp] theorem advance_mem : (s.advance n).mem = s.mem := rfl
@[simp] theorem advance_bank : (s.advance n).bank = s.bank := rfl
@[simp] theorem advance_loaded : (s.advance n).loaded = s.loaded := rfl
@[simp] theorem advance_badParity : (s.advance n).badParity = s.badParity := rfl
@[simp] theorem advance_procs : (s.advance n).procs = s.procs := rfl
@[simp] theorem advance_clk : (s.advance n).clk = s.clk := rfl
@[simp] theorem advance_pwr : (s.advance n).pwr = s.pwr := rfl
@[simp] theorem advance_bus : (s.advance n).bus = s.bus := rfl
@[simp] theorem advance_claims : (s.advance n).claims = s.claims := rfl
@[simp] theorem advance_cells : (s.advance n).cells = s.cells := rfl
@[simp] theorem advance_chans : (s.advance n).chans = s.chans := rfl
@[simp] theorem advance_convs : (s.advance n).convs = s.convs := rfl
@[simp] theorem advance_entries : (s.advance n).entries = s.entries := rfl
@[simp] theorem advance_comps : (s.advance n).comps = s.comps := rfl
@[simp] theorem advance_protWas : (s.advance n).protWas = s.protWas := rfl
@[simp] theorem advance_ripples : (s.advance n).ripples = s.ripples := rfl
@[simp] theorem advance_pos : (s.advance n).pos = s.pos := rfl
@[simp] theorem advance_emus : (s.advance n).emus = s.emus := rfl
@[simp] theorem advance_vecs : (s.advance n).vecs = s.vecs := rfl
@[simp] theorem advance_ctr : (s.advance n).ctr = s.ctr := rfl
@[simp] theorem advance_fix : (s.advance n).fix = s.fix := rfl
@[simp] theorem advance_log : (s.advance n).log = s.log := rfl
@[simp] theorem advance_sxt : (s.advance n).sxt = s.sxt := rfl
@[simp] theorem advance_calculator : (s.advance n).calculator = s.calculator := rfl
@[simp] theorem advance_key : (s.advance n).key = s.key := rfl
@[simp] theorem advance_cup : (s.advance n).cup = s.cup := rfl
@[simp] theorem advance_host : (s.advance n).host = s.host := rfl
@[simp] theorem advance_tl : (s.advance n).tl = s.tl := rfl
@[simp] theorem advance_boot : (s.advance n).boot = s.boot := rfl
@[simp] theorem advance_policy : (s.advance n).policy = s.policy := rfl
@[simp] theorem advance_ports : (s.advance n).ports = s.ports := rfl
@[simp] theorem advance_cyc : (s.advance n).cyc = s.cyc := rfl
@[simp] theorem advance_sched : (s.advance n).sched = s.sched := rfl
end advance

section setCtr
variable (s : State) (i n : Nat)
@[simp] theorem setCtr_pending : (s.setCtr i n).pending = s.pending := rfl
@[simp] theorem setCtr_freeCtr : (s.setCtr i n).freeCtr = s.freeCtr := rfl
@[simp] theorem setCtr_reg : (s.setCtr i n).reg = s.reg := rfl
@[simp] theorem setCtr_mem : (s.setCtr i n).mem = s.mem := rfl
@[simp] theorem setCtr_bank : (s.setCtr i n).bank = s.bank := rfl
@[simp] theorem setCtr_loaded : (s.setCtr i n).loaded = s.loaded := rfl
@[simp] theorem setCtr_badParity : (s.setCtr i n).badParity = s.badParity := rfl
@[simp] theorem setCtr_procs : (s.setCtr i n).procs = s.procs := rfl
@[simp] theorem setCtr_clk : (s.setCtr i n).clk = s.clk := rfl
@[simp] theorem setCtr_pwr : (s.setCtr i n).pwr = s.pwr := rfl
@[simp] theorem setCtr_bus : (s.setCtr i n).bus = s.bus := rfl
@[simp] theorem setCtr_claims : (s.setCtr i n).claims = s.claims := rfl
@[simp] theorem setCtr_cells : (s.setCtr i n).cells = s.cells := rfl
@[simp] theorem setCtr_chans : (s.setCtr i n).chans = s.chans := rfl
@[simp] theorem setCtr_convs : (s.setCtr i n).convs = s.convs := rfl
@[simp] theorem setCtr_entries : (s.setCtr i n).entries = s.entries := rfl
@[simp] theorem setCtr_comps : (s.setCtr i n).comps = s.comps := rfl
@[simp] theorem setCtr_protWas : (s.setCtr i n).protWas = s.protWas := rfl
@[simp] theorem setCtr_ripples : (s.setCtr i n).ripples = s.ripples := rfl
@[simp] theorem setCtr_pos : (s.setCtr i n).pos = s.pos := rfl
@[simp] theorem setCtr_emus : (s.setCtr i n).emus = s.emus := rfl
@[simp] theorem setCtr_vecs : (s.setCtr i n).vecs = s.vecs := rfl
@[simp] theorem setCtr_ctr : (s.setCtr i n).ctr = update zeroAt s.ctr i n := rfl
@[simp] theorem setCtr_fix : (s.setCtr i n).fix = s.fix := rfl
@[simp] theorem setCtr_log : (s.setCtr i n).log = s.log := rfl
@[simp] theorem setCtr_sxt : (s.setCtr i n).sxt = s.sxt := rfl
@[simp] theorem setCtr_calculator : (s.setCtr i n).calculator = s.calculator := rfl
@[simp] theorem setCtr_key : (s.setCtr i n).key = s.key := rfl
@[simp] theorem setCtr_cup : (s.setCtr i n).cup = s.cup := rfl
@[simp] theorem setCtr_host : (s.setCtr i n).host = s.host := rfl
@[simp] theorem setCtr_tl : (s.setCtr i n).tl = s.tl := rfl
@[simp] theorem setCtr_boot : (s.setCtr i n).boot = s.boot := rfl
@[simp] theorem setCtr_policy : (s.setCtr i n).policy = s.policy := rfl
@[simp] theorem setCtr_ports : (s.setCtr i n).ports = s.ports := rfl
@[simp] theorem setCtr_cyc : (s.setCtr i n).cyc = s.cyc := rfl
@[simp] theorem setCtr_sched : (s.setCtr i n).sched = s.sched := rfl
end setCtr

section setProtWas
variable (s : State) (v : Vector Bool 16)
@[simp] theorem setProtWas_pending : (s.setProtWas v).pending = s.pending := rfl
@[simp] theorem setProtWas_freeCtr : (s.setProtWas v).freeCtr = s.freeCtr := rfl
@[simp] theorem setProtWas_reg : (s.setProtWas v).reg = s.reg := rfl
@[simp] theorem setProtWas_mem : (s.setProtWas v).mem = s.mem := rfl
@[simp] theorem setProtWas_bank : (s.setProtWas v).bank = s.bank := rfl
@[simp] theorem setProtWas_loaded : (s.setProtWas v).loaded = s.loaded := rfl
@[simp] theorem setProtWas_badParity : (s.setProtWas v).badParity = s.badParity := rfl
@[simp] theorem setProtWas_procs : (s.setProtWas v).procs = s.procs := rfl
@[simp] theorem setProtWas_clk : (s.setProtWas v).clk = s.clk := rfl
@[simp] theorem setProtWas_pwr : (s.setProtWas v).pwr = s.pwr := rfl
@[simp] theorem setProtWas_bus : (s.setProtWas v).bus = s.bus := rfl
@[simp] theorem setProtWas_claims : (s.setProtWas v).claims = s.claims := rfl
@[simp] theorem setProtWas_cells : (s.setProtWas v).cells = s.cells := rfl
@[simp] theorem setProtWas_chans : (s.setProtWas v).chans = s.chans := rfl
@[simp] theorem setProtWas_convs : (s.setProtWas v).convs = s.convs := rfl
@[simp] theorem setProtWas_entries : (s.setProtWas v).entries = s.entries := rfl
@[simp] theorem setProtWas_comps : (s.setProtWas v).comps = s.comps := rfl
@[simp] theorem setProtWas_protWas : (s.setProtWas v).protWas = v := rfl
@[simp] theorem setProtWas_ripples : (s.setProtWas v).ripples = s.ripples := rfl
@[simp] theorem setProtWas_pos : (s.setProtWas v).pos = s.pos := rfl
@[simp] theorem setProtWas_emus : (s.setProtWas v).emus = s.emus := rfl
@[simp] theorem setProtWas_vecs : (s.setProtWas v).vecs = s.vecs := rfl
@[simp] theorem setProtWas_ctr : (s.setProtWas v).ctr = s.ctr := rfl
@[simp] theorem setProtWas_fix : (s.setProtWas v).fix = s.fix := rfl
@[simp] theorem setProtWas_log : (s.setProtWas v).log = s.log := rfl
@[simp] theorem setProtWas_sxt : (s.setProtWas v).sxt = s.sxt := rfl
@[simp] theorem setProtWas_calculator : (s.setProtWas v).calculator = s.calculator := rfl
@[simp] theorem setProtWas_key : (s.setProtWas v).key = s.key := rfl
@[simp] theorem setProtWas_cup : (s.setProtWas v).cup = s.cup := rfl
@[simp] theorem setProtWas_host : (s.setProtWas v).host = s.host := rfl
@[simp] theorem setProtWas_tl : (s.setProtWas v).tl = s.tl := rfl
@[simp] theorem setProtWas_boot : (s.setProtWas v).boot = s.boot := rfl
@[simp] theorem setProtWas_policy : (s.setProtWas v).policy = s.policy := rfl
@[simp] theorem setProtWas_ports : (s.setProtWas v).ports = s.ports := rfl
@[simp] theorem setProtWas_cyc : (s.setProtWas v).cyc = s.cyc := rfl
@[simp] theorem setProtWas_sched : (s.setProtWas v).sched = s.sched := rfl
end setProtWas

section at_
variable (s : State) (t : Nat) (e : Ev)
@[simp] theorem at__pending : (s.at_ t e).pending = s.pending := rfl
@[simp] theorem at__freeCtr : (s.at_ t e).freeCtr = s.freeCtr := rfl
@[simp] theorem at__reg : (s.at_ t e).reg = s.reg := rfl
@[simp] theorem at__mem : (s.at_ t e).mem = s.mem := rfl
@[simp] theorem at__bank : (s.at_ t e).bank = s.bank := rfl
@[simp] theorem at__loaded : (s.at_ t e).loaded = s.loaded := rfl
@[simp] theorem at__badParity : (s.at_ t e).badParity = s.badParity := rfl
@[simp] theorem at__procs : (s.at_ t e).procs = s.procs := rfl
@[simp] theorem at__clk : (s.at_ t e).clk = s.clk := rfl
@[simp] theorem at__pwr : (s.at_ t e).pwr = s.pwr := rfl
@[simp] theorem at__bus : (s.at_ t e).bus = s.bus := rfl
@[simp] theorem at__claims : (s.at_ t e).claims = s.claims := rfl
@[simp] theorem at__cells : (s.at_ t e).cells = s.cells := rfl
@[simp] theorem at__chans : (s.at_ t e).chans = s.chans := rfl
@[simp] theorem at__convs : (s.at_ t e).convs = s.convs := rfl
@[simp] theorem at__entries : (s.at_ t e).entries = s.entries := rfl
@[simp] theorem at__comps : (s.at_ t e).comps = s.comps := rfl
@[simp] theorem at__protWas : (s.at_ t e).protWas = s.protWas := rfl
@[simp] theorem at__ripples : (s.at_ t e).ripples = s.ripples := rfl
@[simp] theorem at__pos : (s.at_ t e).pos = s.pos := rfl
@[simp] theorem at__emus : (s.at_ t e).emus = s.emus := rfl
@[simp] theorem at__vecs : (s.at_ t e).vecs = s.vecs := rfl
@[simp] theorem at__ctr : (s.at_ t e).ctr = s.ctr := rfl
@[simp] theorem at__fix : (s.at_ t e).fix = s.fix := rfl
@[simp] theorem at__log : (s.at_ t e).log = s.log := rfl
@[simp] theorem at__sxt : (s.at_ t e).sxt = s.sxt := rfl
@[simp] theorem at__calculator : (s.at_ t e).calculator = s.calculator := rfl
@[simp] theorem at__key : (s.at_ t e).key = s.key := rfl
@[simp] theorem at__cup : (s.at_ t e).cup = s.cup := rfl
@[simp] theorem at__host : (s.at_ t e).host = s.host := rfl
@[simp] theorem at__tl : (s.at_ t e).tl = s.tl := rfl
@[simp] theorem at__boot : (s.at_ t e).boot = s.boot := rfl
@[simp] theorem at__policy : (s.at_ t e).policy = s.policy := rfl
@[simp] theorem at__ports : (s.at_ t e).ports = s.ports := rfl
@[simp] theorem at__cyc : (s.at_ t e).cyc = s.cyc := rfl
@[simp] theorem at__sched : (s.at_ t e).sched = s.sched ++ [(t, e)] := rfl
end at_

section modCell
variable (s : State) (i : Nat) (f : Cell → Cell)
@[simp] theorem modCell_pending : (s.modCell i f).pending = s.pending := rfl
@[simp] theorem modCell_freeCtr : (s.modCell i f).freeCtr = s.freeCtr := rfl
@[simp] theorem modCell_reg : (s.modCell i f).reg = s.reg := rfl
@[simp] theorem modCell_mem : (s.modCell i f).mem = s.mem := rfl
@[simp] theorem modCell_bank : (s.modCell i f).bank = s.bank := rfl
@[simp] theorem modCell_loaded : (s.modCell i f).loaded = s.loaded := rfl
@[simp] theorem modCell_badParity : (s.modCell i f).badParity = s.badParity := rfl
@[simp] theorem modCell_procs : (s.modCell i f).procs = s.procs := rfl
@[simp] theorem modCell_clk : (s.modCell i f).clk = s.clk := rfl
@[simp] theorem modCell_pwr : (s.modCell i f).pwr = s.pwr := rfl
@[simp] theorem modCell_bus : (s.modCell i f).bus = s.bus := rfl
@[simp] theorem modCell_claims : (s.modCell i f).claims = s.claims := rfl
@[simp] theorem modCell_cells : (s.modCell i f).cells = vset s.cells i (f (s.cell i)) := rfl
@[simp] theorem modCell_chans : (s.modCell i f).chans = s.chans := rfl
@[simp] theorem modCell_convs : (s.modCell i f).convs = s.convs := rfl
@[simp] theorem modCell_entries : (s.modCell i f).entries = s.entries := rfl
@[simp] theorem modCell_comps : (s.modCell i f).comps = s.comps := rfl
@[simp] theorem modCell_protWas : (s.modCell i f).protWas = s.protWas := rfl
@[simp] theorem modCell_ripples : (s.modCell i f).ripples = s.ripples := rfl
@[simp] theorem modCell_pos : (s.modCell i f).pos = s.pos := rfl
@[simp] theorem modCell_emus : (s.modCell i f).emus = s.emus := rfl
@[simp] theorem modCell_vecs : (s.modCell i f).vecs = s.vecs := rfl
@[simp] theorem modCell_ctr : (s.modCell i f).ctr = s.ctr := rfl
@[simp] theorem modCell_fix : (s.modCell i f).fix = s.fix := rfl
@[simp] theorem modCell_log : (s.modCell i f).log = s.log := rfl
@[simp] theorem modCell_sxt : (s.modCell i f).sxt = s.sxt := rfl
@[simp] theorem modCell_calculator : (s.modCell i f).calculator = s.calculator := rfl
@[simp] theorem modCell_key : (s.modCell i f).key = s.key := rfl
@[simp] theorem modCell_cup : (s.modCell i f).cup = s.cup := rfl
@[simp] theorem modCell_host : (s.modCell i f).host = s.host := rfl
@[simp] theorem modCell_tl : (s.modCell i f).tl = s.tl := rfl
@[simp] theorem modCell_boot : (s.modCell i f).boot = s.boot := rfl
@[simp] theorem modCell_policy : (s.modCell i f).policy = s.policy := rfl
@[simp] theorem modCell_ports : (s.modCell i f).ports = s.ports := rfl
@[simp] theorem modCell_cyc : (s.modCell i f).cyc = s.cyc := rfl
@[simp] theorem modCell_sched : (s.modCell i f).sched = s.sched := rfl
end modCell

section modChan
variable (s : State) (i : Nat) (f : Chan → Chan)
@[simp] theorem modChan_pending : (s.modChan i f).pending = s.pending := rfl
@[simp] theorem modChan_freeCtr : (s.modChan i f).freeCtr = s.freeCtr := rfl
@[simp] theorem modChan_reg : (s.modChan i f).reg = s.reg := rfl
@[simp] theorem modChan_mem : (s.modChan i f).mem = s.mem := rfl
@[simp] theorem modChan_bank : (s.modChan i f).bank = s.bank := rfl
@[simp] theorem modChan_loaded : (s.modChan i f).loaded = s.loaded := rfl
@[simp] theorem modChan_badParity : (s.modChan i f).badParity = s.badParity := rfl
@[simp] theorem modChan_procs : (s.modChan i f).procs = s.procs := rfl
@[simp] theorem modChan_clk : (s.modChan i f).clk = s.clk := rfl
@[simp] theorem modChan_pwr : (s.modChan i f).pwr = s.pwr := rfl
@[simp] theorem modChan_bus : (s.modChan i f).bus = s.bus := rfl
@[simp] theorem modChan_claims : (s.modChan i f).claims = s.claims := rfl
@[simp] theorem modChan_cells : (s.modChan i f).cells = s.cells := rfl
@[simp] theorem modChan_chans : (s.modChan i f).chans = vset s.chans i (f (s.chan i)) := rfl
@[simp] theorem modChan_convs : (s.modChan i f).convs = s.convs := rfl
@[simp] theorem modChan_entries : (s.modChan i f).entries = s.entries := rfl
@[simp] theorem modChan_comps : (s.modChan i f).comps = s.comps := rfl
@[simp] theorem modChan_protWas : (s.modChan i f).protWas = s.protWas := rfl
@[simp] theorem modChan_ripples : (s.modChan i f).ripples = s.ripples := rfl
@[simp] theorem modChan_pos : (s.modChan i f).pos = s.pos := rfl
@[simp] theorem modChan_emus : (s.modChan i f).emus = s.emus := rfl
@[simp] theorem modChan_vecs : (s.modChan i f).vecs = s.vecs := rfl
@[simp] theorem modChan_ctr : (s.modChan i f).ctr = s.ctr := rfl
@[simp] theorem modChan_fix : (s.modChan i f).fix = s.fix := rfl
@[simp] theorem modChan_log : (s.modChan i f).log = s.log := rfl
@[simp] theorem modChan_sxt : (s.modChan i f).sxt = s.sxt := rfl
@[simp] theorem modChan_calculator : (s.modChan i f).calculator = s.calculator := rfl
@[simp] theorem modChan_key : (s.modChan i f).key = s.key := rfl
@[simp] theorem modChan_cup : (s.modChan i f).cup = s.cup := rfl
@[simp] theorem modChan_host : (s.modChan i f).host = s.host := rfl
@[simp] theorem modChan_tl : (s.modChan i f).tl = s.tl := rfl
@[simp] theorem modChan_boot : (s.modChan i f).boot = s.boot := rfl
@[simp] theorem modChan_policy : (s.modChan i f).policy = s.policy := rfl
@[simp] theorem modChan_ports : (s.modChan i f).ports = s.ports := rfl
@[simp] theorem modChan_cyc : (s.modChan i f).cyc = s.cyc := rfl
@[simp] theorem modChan_sched : (s.modChan i f).sched = s.sched := rfl
end modChan

section modProc
variable (s : State) (i : Nat) (f : Proc → Proc)
@[simp] theorem modProc_pending : (s.modProc i f).pending = s.pending := rfl
@[simp] theorem modProc_freeCtr : (s.modProc i f).freeCtr = s.freeCtr := rfl
@[simp] theorem modProc_reg : (s.modProc i f).reg = s.reg := rfl
@[simp] theorem modProc_mem : (s.modProc i f).mem = s.mem := rfl
@[simp] theorem modProc_bank : (s.modProc i f).bank = s.bank := rfl
@[simp] theorem modProc_loaded : (s.modProc i f).loaded = s.loaded := rfl
@[simp] theorem modProc_badParity : (s.modProc i f).badParity = s.badParity := rfl
@[simp] theorem modProc_procs : (s.modProc i f).procs = vset s.procs i (f (s.proc i)) := rfl
@[simp] theorem modProc_clk : (s.modProc i f).clk = s.clk := rfl
@[simp] theorem modProc_pwr : (s.modProc i f).pwr = s.pwr := rfl
@[simp] theorem modProc_bus : (s.modProc i f).bus = s.bus := rfl
@[simp] theorem modProc_claims : (s.modProc i f).claims = s.claims := rfl
@[simp] theorem modProc_cells : (s.modProc i f).cells = s.cells := rfl
@[simp] theorem modProc_chans : (s.modProc i f).chans = s.chans := rfl
@[simp] theorem modProc_convs : (s.modProc i f).convs = s.convs := rfl
@[simp] theorem modProc_entries : (s.modProc i f).entries = s.entries := rfl
@[simp] theorem modProc_comps : (s.modProc i f).comps = s.comps := rfl
@[simp] theorem modProc_protWas : (s.modProc i f).protWas = s.protWas := rfl
@[simp] theorem modProc_ripples : (s.modProc i f).ripples = s.ripples := rfl
@[simp] theorem modProc_pos : (s.modProc i f).pos = s.pos := rfl
@[simp] theorem modProc_emus : (s.modProc i f).emus = s.emus := rfl
@[simp] theorem modProc_vecs : (s.modProc i f).vecs = s.vecs := rfl
@[simp] theorem modProc_ctr : (s.modProc i f).ctr = s.ctr := rfl
@[simp] theorem modProc_fix : (s.modProc i f).fix = s.fix := rfl
@[simp] theorem modProc_log : (s.modProc i f).log = s.log := rfl
@[simp] theorem modProc_sxt : (s.modProc i f).sxt = s.sxt := rfl
@[simp] theorem modProc_calculator : (s.modProc i f).calculator = s.calculator := rfl
@[simp] theorem modProc_key : (s.modProc i f).key = s.key := rfl
@[simp] theorem modProc_cup : (s.modProc i f).cup = s.cup := rfl
@[simp] theorem modProc_host : (s.modProc i f).host = s.host := rfl
@[simp] theorem modProc_tl : (s.modProc i f).tl = s.tl := rfl
@[simp] theorem modProc_boot : (s.modProc i f).boot = s.boot := rfl
@[simp] theorem modProc_policy : (s.modProc i f).policy = s.policy := rfl
@[simp] theorem modProc_ports : (s.modProc i f).ports = s.ports := rfl
@[simp] theorem modProc_cyc : (s.modProc i f).cyc = s.cyc := rfl
@[simp] theorem modProc_sched : (s.modProc i f).sched = s.sched := rfl
end modProc

section modConv
variable (s : State) (i : Nat) (f : Conv → Conv)
@[simp] theorem modConv_pending : (s.modConv i f).pending = s.pending := rfl
@[simp] theorem modConv_freeCtr : (s.modConv i f).freeCtr = s.freeCtr := rfl
@[simp] theorem modConv_reg : (s.modConv i f).reg = s.reg := rfl
@[simp] theorem modConv_mem : (s.modConv i f).mem = s.mem := rfl
@[simp] theorem modConv_bank : (s.modConv i f).bank = s.bank := rfl
@[simp] theorem modConv_loaded : (s.modConv i f).loaded = s.loaded := rfl
@[simp] theorem modConv_badParity : (s.modConv i f).badParity = s.badParity := rfl
@[simp] theorem modConv_procs : (s.modConv i f).procs = s.procs := rfl
@[simp] theorem modConv_clk : (s.modConv i f).clk = s.clk := rfl
@[simp] theorem modConv_pwr : (s.modConv i f).pwr = s.pwr := rfl
@[simp] theorem modConv_bus : (s.modConv i f).bus = s.bus := rfl
@[simp] theorem modConv_claims : (s.modConv i f).claims = s.claims := rfl
@[simp] theorem modConv_cells : (s.modConv i f).cells = s.cells := rfl
@[simp] theorem modConv_chans : (s.modConv i f).chans = s.chans := rfl
@[simp] theorem modConv_convs : (s.modConv i f).convs = vset s.convs i (f (s.conv i)) := rfl
@[simp] theorem modConv_entries : (s.modConv i f).entries = s.entries := rfl
@[simp] theorem modConv_comps : (s.modConv i f).comps = s.comps := rfl
@[simp] theorem modConv_protWas : (s.modConv i f).protWas = s.protWas := rfl
@[simp] theorem modConv_ripples : (s.modConv i f).ripples = s.ripples := rfl
@[simp] theorem modConv_pos : (s.modConv i f).pos = s.pos := rfl
@[simp] theorem modConv_emus : (s.modConv i f).emus = s.emus := rfl
@[simp] theorem modConv_vecs : (s.modConv i f).vecs = s.vecs := rfl
@[simp] theorem modConv_ctr : (s.modConv i f).ctr = s.ctr := rfl
@[simp] theorem modConv_fix : (s.modConv i f).fix = s.fix := rfl
@[simp] theorem modConv_log : (s.modConv i f).log = s.log := rfl
@[simp] theorem modConv_sxt : (s.modConv i f).sxt = s.sxt := rfl
@[simp] theorem modConv_calculator : (s.modConv i f).calculator = s.calculator := rfl
@[simp] theorem modConv_key : (s.modConv i f).key = s.key := rfl
@[simp] theorem modConv_cup : (s.modConv i f).cup = s.cup := rfl
@[simp] theorem modConv_host : (s.modConv i f).host = s.host := rfl
@[simp] theorem modConv_tl : (s.modConv i f).tl = s.tl := rfl
@[simp] theorem modConv_boot : (s.modConv i f).boot = s.boot := rfl
@[simp] theorem modConv_policy : (s.modConv i f).policy = s.policy := rfl
@[simp] theorem modConv_ports : (s.modConv i f).ports = s.ports := rfl
@[simp] theorem modConv_cyc : (s.modConv i f).cyc = s.cyc := rfl
@[simp] theorem modConv_sched : (s.modConv i f).sched = s.sched := rfl
end modConv

section modEntryS
variable (s : State) (i : Nat) (f : EntryS → EntryS)
@[simp] theorem modEntryS_pending : (s.modEntryS i f).pending = s.pending := rfl
@[simp] theorem modEntryS_freeCtr : (s.modEntryS i f).freeCtr = s.freeCtr := rfl
@[simp] theorem modEntryS_reg : (s.modEntryS i f).reg = s.reg := rfl
@[simp] theorem modEntryS_mem : (s.modEntryS i f).mem = s.mem := rfl
@[simp] theorem modEntryS_bank : (s.modEntryS i f).bank = s.bank := rfl
@[simp] theorem modEntryS_loaded : (s.modEntryS i f).loaded = s.loaded := rfl
@[simp] theorem modEntryS_badParity : (s.modEntryS i f).badParity = s.badParity := rfl
@[simp] theorem modEntryS_procs : (s.modEntryS i f).procs = s.procs := rfl
@[simp] theorem modEntryS_clk : (s.modEntryS i f).clk = s.clk := rfl
@[simp] theorem modEntryS_pwr : (s.modEntryS i f).pwr = s.pwr := rfl
@[simp] theorem modEntryS_bus : (s.modEntryS i f).bus = s.bus := rfl
@[simp] theorem modEntryS_claims : (s.modEntryS i f).claims = s.claims := rfl
@[simp] theorem modEntryS_cells : (s.modEntryS i f).cells = s.cells := rfl
@[simp] theorem modEntryS_chans : (s.modEntryS i f).chans = s.chans := rfl
@[simp] theorem modEntryS_convs : (s.modEntryS i f).convs = s.convs := rfl
@[simp] theorem modEntryS_entries : (s.modEntryS i f).entries = vset s.entries i (f (s.entryS i)) := rfl
@[simp] theorem modEntryS_comps : (s.modEntryS i f).comps = s.comps := rfl
@[simp] theorem modEntryS_protWas : (s.modEntryS i f).protWas = s.protWas := rfl
@[simp] theorem modEntryS_ripples : (s.modEntryS i f).ripples = s.ripples := rfl
@[simp] theorem modEntryS_pos : (s.modEntryS i f).pos = s.pos := rfl
@[simp] theorem modEntryS_emus : (s.modEntryS i f).emus = s.emus := rfl
@[simp] theorem modEntryS_vecs : (s.modEntryS i f).vecs = s.vecs := rfl
@[simp] theorem modEntryS_ctr : (s.modEntryS i f).ctr = s.ctr := rfl
@[simp] theorem modEntryS_fix : (s.modEntryS i f).fix = s.fix := rfl
@[simp] theorem modEntryS_log : (s.modEntryS i f).log = s.log := rfl
@[simp] theorem modEntryS_sxt : (s.modEntryS i f).sxt = s.sxt := rfl
@[simp] theorem modEntryS_calculator : (s.modEntryS i f).calculator = s.calculator := rfl
@[simp] theorem modEntryS_key : (s.modEntryS i f).key = s.key := rfl
@[simp] theorem modEntryS_cup : (s.modEntryS i f).cup = s.cup := rfl
@[simp] theorem modEntryS_host : (s.modEntryS i f).host = s.host := rfl
@[simp] theorem modEntryS_tl : (s.modEntryS i f).tl = s.tl := rfl
@[simp] theorem modEntryS_boot : (s.modEntryS i f).boot = s.boot := rfl
@[simp] theorem modEntryS_policy : (s.modEntryS i f).policy = s.policy := rfl
@[simp] theorem modEntryS_ports : (s.modEntryS i f).ports = s.ports := rfl
@[simp] theorem modEntryS_cyc : (s.modEntryS i f).cyc = s.cyc := rfl
@[simp] theorem modEntryS_sched : (s.modEntryS i f).sched = s.sched := rfl
end modEntryS

section modComp
variable (s : State) (i : Nat) (f : Comp → Comp)
@[simp] theorem modComp_pending : (s.modComp i f).pending = s.pending := rfl
@[simp] theorem modComp_freeCtr : (s.modComp i f).freeCtr = s.freeCtr := rfl
@[simp] theorem modComp_reg : (s.modComp i f).reg = s.reg := rfl
@[simp] theorem modComp_mem : (s.modComp i f).mem = s.mem := rfl
@[simp] theorem modComp_bank : (s.modComp i f).bank = s.bank := rfl
@[simp] theorem modComp_loaded : (s.modComp i f).loaded = s.loaded := rfl
@[simp] theorem modComp_badParity : (s.modComp i f).badParity = s.badParity := rfl
@[simp] theorem modComp_procs : (s.modComp i f).procs = s.procs := rfl
@[simp] theorem modComp_clk : (s.modComp i f).clk = s.clk := rfl
@[simp] theorem modComp_pwr : (s.modComp i f).pwr = s.pwr := rfl
@[simp] theorem modComp_bus : (s.modComp i f).bus = s.bus := rfl
@[simp] theorem modComp_claims : (s.modComp i f).claims = s.claims := rfl
@[simp] theorem modComp_cells : (s.modComp i f).cells = s.cells := rfl
@[simp] theorem modComp_chans : (s.modComp i f).chans = s.chans := rfl
@[simp] theorem modComp_convs : (s.modComp i f).convs = s.convs := rfl
@[simp] theorem modComp_entries : (s.modComp i f).entries = s.entries := rfl
@[simp] theorem modComp_comps : (s.modComp i f).comps = vset s.comps i (f (s.comp i)) := rfl
@[simp] theorem modComp_protWas : (s.modComp i f).protWas = s.protWas := rfl
@[simp] theorem modComp_ripples : (s.modComp i f).ripples = s.ripples := rfl
@[simp] theorem modComp_pos : (s.modComp i f).pos = s.pos := rfl
@[simp] theorem modComp_emus : (s.modComp i f).emus = s.emus := rfl
@[simp] theorem modComp_vecs : (s.modComp i f).vecs = s.vecs := rfl
@[simp] theorem modComp_ctr : (s.modComp i f).ctr = s.ctr := rfl
@[simp] theorem modComp_fix : (s.modComp i f).fix = s.fix := rfl
@[simp] theorem modComp_log : (s.modComp i f).log = s.log := rfl
@[simp] theorem modComp_sxt : (s.modComp i f).sxt = s.sxt := rfl
@[simp] theorem modComp_calculator : (s.modComp i f).calculator = s.calculator := rfl
@[simp] theorem modComp_key : (s.modComp i f).key = s.key := rfl
@[simp] theorem modComp_cup : (s.modComp i f).cup = s.cup := rfl
@[simp] theorem modComp_host : (s.modComp i f).host = s.host := rfl
@[simp] theorem modComp_tl : (s.modComp i f).tl = s.tl := rfl
@[simp] theorem modComp_boot : (s.modComp i f).boot = s.boot := rfl
@[simp] theorem modComp_policy : (s.modComp i f).policy = s.policy := rfl
@[simp] theorem modComp_ports : (s.modComp i f).ports = s.ports := rfl
@[simp] theorem modComp_cyc : (s.modComp i f).cyc = s.cyc := rfl
@[simp] theorem modComp_sched : (s.modComp i f).sched = s.sched := rfl
end modComp

section modRipple
variable (s : State) (i : Nat) (f : Ripple → Ripple)
@[simp] theorem modRipple_pending : (s.modRipple i f).pending = s.pending := rfl
@[simp] theorem modRipple_freeCtr : (s.modRipple i f).freeCtr = s.freeCtr := rfl
@[simp] theorem modRipple_reg : (s.modRipple i f).reg = s.reg := rfl
@[simp] theorem modRipple_mem : (s.modRipple i f).mem = s.mem := rfl
@[simp] theorem modRipple_bank : (s.modRipple i f).bank = s.bank := rfl
@[simp] theorem modRipple_loaded : (s.modRipple i f).loaded = s.loaded := rfl
@[simp] theorem modRipple_badParity : (s.modRipple i f).badParity = s.badParity := rfl
@[simp] theorem modRipple_procs : (s.modRipple i f).procs = s.procs := rfl
@[simp] theorem modRipple_clk : (s.modRipple i f).clk = s.clk := rfl
@[simp] theorem modRipple_pwr : (s.modRipple i f).pwr = s.pwr := rfl
@[simp] theorem modRipple_bus : (s.modRipple i f).bus = s.bus := rfl
@[simp] theorem modRipple_claims : (s.modRipple i f).claims = s.claims := rfl
@[simp] theorem modRipple_cells : (s.modRipple i f).cells = s.cells := rfl
@[simp] theorem modRipple_chans : (s.modRipple i f).chans = s.chans := rfl
@[simp] theorem modRipple_convs : (s.modRipple i f).convs = s.convs := rfl
@[simp] theorem modRipple_entries : (s.modRipple i f).entries = s.entries := rfl
@[simp] theorem modRipple_comps : (s.modRipple i f).comps = s.comps := rfl
@[simp] theorem modRipple_protWas : (s.modRipple i f).protWas = s.protWas := rfl
@[simp] theorem modRipple_ripples : (s.modRipple i f).ripples = vset s.ripples i (f (s.ripple i)) := rfl
@[simp] theorem modRipple_pos : (s.modRipple i f).pos = s.pos := rfl
@[simp] theorem modRipple_emus : (s.modRipple i f).emus = s.emus := rfl
@[simp] theorem modRipple_vecs : (s.modRipple i f).vecs = s.vecs := rfl
@[simp] theorem modRipple_ctr : (s.modRipple i f).ctr = s.ctr := rfl
@[simp] theorem modRipple_fix : (s.modRipple i f).fix = s.fix := rfl
@[simp] theorem modRipple_log : (s.modRipple i f).log = s.log := rfl
@[simp] theorem modRipple_sxt : (s.modRipple i f).sxt = s.sxt := rfl
@[simp] theorem modRipple_calculator : (s.modRipple i f).calculator = s.calculator := rfl
@[simp] theorem modRipple_key : (s.modRipple i f).key = s.key := rfl
@[simp] theorem modRipple_cup : (s.modRipple i f).cup = s.cup := rfl
@[simp] theorem modRipple_host : (s.modRipple i f).host = s.host := rfl
@[simp] theorem modRipple_tl : (s.modRipple i f).tl = s.tl := rfl
@[simp] theorem modRipple_boot : (s.modRipple i f).boot = s.boot := rfl
@[simp] theorem modRipple_policy : (s.modRipple i f).policy = s.policy := rfl
@[simp] theorem modRipple_ports : (s.modRipple i f).ports = s.ports := rfl
@[simp] theorem modRipple_cyc : (s.modRipple i f).cyc = s.cyc := rfl
@[simp] theorem modRipple_sched : (s.modRipple i f).sched = s.sched := rfl
end modRipple

section modPos
variable (s : State) (i : Nat) (f : Pos → Pos)
@[simp] theorem modPos_pending : (s.modPos i f).pending = s.pending := rfl
@[simp] theorem modPos_freeCtr : (s.modPos i f).freeCtr = s.freeCtr := rfl
@[simp] theorem modPos_reg : (s.modPos i f).reg = s.reg := rfl
@[simp] theorem modPos_mem : (s.modPos i f).mem = s.mem := rfl
@[simp] theorem modPos_bank : (s.modPos i f).bank = s.bank := rfl
@[simp] theorem modPos_loaded : (s.modPos i f).loaded = s.loaded := rfl
@[simp] theorem modPos_badParity : (s.modPos i f).badParity = s.badParity := rfl
@[simp] theorem modPos_procs : (s.modPos i f).procs = s.procs := rfl
@[simp] theorem modPos_clk : (s.modPos i f).clk = s.clk := rfl
@[simp] theorem modPos_pwr : (s.modPos i f).pwr = s.pwr := rfl
@[simp] theorem modPos_bus : (s.modPos i f).bus = s.bus := rfl
@[simp] theorem modPos_claims : (s.modPos i f).claims = s.claims := rfl
@[simp] theorem modPos_cells : (s.modPos i f).cells = s.cells := rfl
@[simp] theorem modPos_chans : (s.modPos i f).chans = s.chans := rfl
@[simp] theorem modPos_convs : (s.modPos i f).convs = s.convs := rfl
@[simp] theorem modPos_entries : (s.modPos i f).entries = s.entries := rfl
@[simp] theorem modPos_comps : (s.modPos i f).comps = s.comps := rfl
@[simp] theorem modPos_protWas : (s.modPos i f).protWas = s.protWas := rfl
@[simp] theorem modPos_ripples : (s.modPos i f).ripples = s.ripples := rfl
@[simp] theorem modPos_pos : (s.modPos i f).pos = vset s.pos i (f (s.posn i)) := rfl
@[simp] theorem modPos_emus : (s.modPos i f).emus = s.emus := rfl
@[simp] theorem modPos_vecs : (s.modPos i f).vecs = s.vecs := rfl
@[simp] theorem modPos_ctr : (s.modPos i f).ctr = s.ctr := rfl
@[simp] theorem modPos_fix : (s.modPos i f).fix = s.fix := rfl
@[simp] theorem modPos_log : (s.modPos i f).log = s.log := rfl
@[simp] theorem modPos_sxt : (s.modPos i f).sxt = s.sxt := rfl
@[simp] theorem modPos_calculator : (s.modPos i f).calculator = s.calculator := rfl
@[simp] theorem modPos_key : (s.modPos i f).key = s.key := rfl
@[simp] theorem modPos_cup : (s.modPos i f).cup = s.cup := rfl
@[simp] theorem modPos_host : (s.modPos i f).host = s.host := rfl
@[simp] theorem modPos_tl : (s.modPos i f).tl = s.tl := rfl
@[simp] theorem modPos_boot : (s.modPos i f).boot = s.boot := rfl
@[simp] theorem modPos_policy : (s.modPos i f).policy = s.policy := rfl
@[simp] theorem modPos_ports : (s.modPos i f).ports = s.ports := rfl
@[simp] theorem modPos_cyc : (s.modPos i f).cyc = s.cyc := rfl
@[simp] theorem modPos_sched : (s.modPos i f).sched = s.sched := rfl
end modPos

section modVec
variable (s : State) (i : Nat) (f : Vec → Vec)
@[simp] theorem modVec_pending : (s.modVec i f).pending = s.pending := rfl
@[simp] theorem modVec_freeCtr : (s.modVec i f).freeCtr = s.freeCtr := rfl
@[simp] theorem modVec_reg : (s.modVec i f).reg = s.reg := rfl
@[simp] theorem modVec_mem : (s.modVec i f).mem = s.mem := rfl
@[simp] theorem modVec_bank : (s.modVec i f).bank = s.bank := rfl
@[simp] theorem modVec_loaded : (s.modVec i f).loaded = s.loaded := rfl
@[simp] theorem modVec_badParity : (s.modVec i f).badParity = s.badParity := rfl
@[simp] theorem modVec_procs : (s.modVec i f).procs = s.procs := rfl
@[simp] theorem modVec_clk : (s.modVec i f).clk = s.clk := rfl
@[simp] theorem modVec_pwr : (s.modVec i f).pwr = s.pwr := rfl
@[simp] theorem modVec_bus : (s.modVec i f).bus = s.bus := rfl
@[simp] theorem modVec_claims : (s.modVec i f).claims = s.claims := rfl
@[simp] theorem modVec_cells : (s.modVec i f).cells = s.cells := rfl
@[simp] theorem modVec_chans : (s.modVec i f).chans = s.chans := rfl
@[simp] theorem modVec_convs : (s.modVec i f).convs = s.convs := rfl
@[simp] theorem modVec_entries : (s.modVec i f).entries = s.entries := rfl
@[simp] theorem modVec_comps : (s.modVec i f).comps = s.comps := rfl
@[simp] theorem modVec_protWas : (s.modVec i f).protWas = s.protWas := rfl
@[simp] theorem modVec_ripples : (s.modVec i f).ripples = s.ripples := rfl
@[simp] theorem modVec_pos : (s.modVec i f).pos = s.pos := rfl
@[simp] theorem modVec_emus : (s.modVec i f).emus = s.emus := rfl
@[simp] theorem modVec_vecs : (s.modVec i f).vecs = vset s.vecs i (f (s.vec i)) := rfl
@[simp] theorem modVec_ctr : (s.modVec i f).ctr = s.ctr := rfl
@[simp] theorem modVec_fix : (s.modVec i f).fix = s.fix := rfl
@[simp] theorem modVec_log : (s.modVec i f).log = s.log := rfl
@[simp] theorem modVec_sxt : (s.modVec i f).sxt = s.sxt := rfl
@[simp] theorem modVec_calculator : (s.modVec i f).calculator = s.calculator := rfl
@[simp] theorem modVec_key : (s.modVec i f).key = s.key := rfl
@[simp] theorem modVec_cup : (s.modVec i f).cup = s.cup := rfl
@[simp] theorem modVec_host : (s.modVec i f).host = s.host := rfl
@[simp] theorem modVec_tl : (s.modVec i f).tl = s.tl := rfl
@[simp] theorem modVec_boot : (s.modVec i f).boot = s.boot := rfl
@[simp] theorem modVec_policy : (s.modVec i f).policy = s.policy := rfl
@[simp] theorem modVec_ports : (s.modVec i f).ports = s.ports := rfl
@[simp] theorem modVec_cyc : (s.modVec i f).cyc = s.cyc := rfl
@[simp] theorem modVec_sched : (s.modVec i f).sched = s.sched := rfl
end modVec

section modPdPort
variable (s : State) (i : Nat) (f : PdPort → PdPort)
@[simp] theorem modPdPort_pending : (s.modPdPort i f).pending = s.pending := rfl
@[simp] theorem modPdPort_freeCtr : (s.modPdPort i f).freeCtr = s.freeCtr := rfl
@[simp] theorem modPdPort_reg : (s.modPdPort i f).reg = s.reg := rfl
@[simp] theorem modPdPort_mem : (s.modPdPort i f).mem = s.mem := rfl
@[simp] theorem modPdPort_bank : (s.modPdPort i f).bank = s.bank := rfl
@[simp] theorem modPdPort_loaded : (s.modPdPort i f).loaded = s.loaded := rfl
@[simp] theorem modPdPort_badParity : (s.modPdPort i f).badParity = s.badParity := rfl
@[simp] theorem modPdPort_procs : (s.modPdPort i f).procs = s.procs := rfl
@[simp] theorem modPdPort_clk : (s.modPdPort i f).clk = s.clk := rfl
@[simp] theorem modPdPort_pwr : (s.modPdPort i f).pwr = s.pwr := rfl
@[simp] theorem modPdPort_bus : (s.modPdPort i f).bus = s.bus := rfl
@[simp] theorem modPdPort_claims : (s.modPdPort i f).claims = s.claims := rfl
@[simp] theorem modPdPort_cells : (s.modPdPort i f).cells = s.cells := rfl
@[simp] theorem modPdPort_chans : (s.modPdPort i f).chans = s.chans := rfl
@[simp] theorem modPdPort_convs : (s.modPdPort i f).convs = s.convs := rfl
@[simp] theorem modPdPort_entries : (s.modPdPort i f).entries = s.entries := rfl
@[simp] theorem modPdPort_comps : (s.modPdPort i f).comps = s.comps := rfl
@[simp] theorem modPdPort_protWas : (s.modPdPort i f).protWas = s.protWas := rfl
@[simp] theorem modPdPort_ripples : (s.modPdPort i f).ripples = s.ripples := rfl
@[simp] theorem modPdPort_pos : (s.modPdPort i f).pos = s.pos := rfl
@[simp] theorem modPdPort_emus : (s.modPdPort i f).emus = s.emus := rfl
@[simp] theorem modPdPort_vecs : (s.modPdPort i f).vecs = s.vecs := rfl
@[simp] theorem modPdPort_ctr : (s.modPdPort i f).ctr = s.ctr := rfl
@[simp] theorem modPdPort_fix : (s.modPdPort i f).fix = s.fix := rfl
@[simp] theorem modPdPort_log : (s.modPdPort i f).log = s.log := rfl
@[simp] theorem modPdPort_sxt : (s.modPdPort i f).sxt = s.sxt := rfl
@[simp] theorem modPdPort_calculator : (s.modPdPort i f).calculator = s.calculator := rfl
@[simp] theorem modPdPort_key : (s.modPdPort i f).key = s.key := rfl
@[simp] theorem modPdPort_cup : (s.modPdPort i f).cup = s.cup := rfl
@[simp] theorem modPdPort_host : (s.modPdPort i f).host = s.host := rfl
@[simp] theorem modPdPort_tl : (s.modPdPort i f).tl = s.tl := rfl
@[simp] theorem modPdPort_boot : (s.modPdPort i f).boot = s.boot := rfl
@[simp] theorem modPdPort_policy : (s.modPdPort i f).policy = s.policy := rfl
@[simp] theorem modPdPort_ports : (s.modPdPort i f).ports = vset s.ports i (f (s.pdPort i)) := rfl
@[simp] theorem modPdPort_cyc : (s.modPdPort i f).cyc = s.cyc := rfl
@[simp] theorem modPdPort_sched : (s.modPdPort i f).sched = s.sched := rfl
end modPdPort

section modEmu
variable (s : State) (i : Nat) (f : Emu → Emu)
@[simp] theorem modEmu_pending : (s.modEmu i f).pending = s.pending := rfl
@[simp] theorem modEmu_freeCtr : (s.modEmu i f).freeCtr = s.freeCtr := rfl
@[simp] theorem modEmu_reg : (s.modEmu i f).reg = s.reg := rfl
@[simp] theorem modEmu_mem : (s.modEmu i f).mem = s.mem := rfl
@[simp] theorem modEmu_bank : (s.modEmu i f).bank = s.bank := rfl
@[simp] theorem modEmu_loaded : (s.modEmu i f).loaded = s.loaded := rfl
@[simp] theorem modEmu_badParity : (s.modEmu i f).badParity = s.badParity := rfl
@[simp] theorem modEmu_procs : (s.modEmu i f).procs = s.procs := rfl
@[simp] theorem modEmu_clk : (s.modEmu i f).clk = s.clk := rfl
@[simp] theorem modEmu_pwr : (s.modEmu i f).pwr = s.pwr := rfl
@[simp] theorem modEmu_bus : (s.modEmu i f).bus = s.bus := rfl
@[simp] theorem modEmu_claims : (s.modEmu i f).claims = s.claims := rfl
@[simp] theorem modEmu_cells : (s.modEmu i f).cells = s.cells := rfl
@[simp] theorem modEmu_chans : (s.modEmu i f).chans = s.chans := rfl
@[simp] theorem modEmu_convs : (s.modEmu i f).convs = s.convs := rfl
@[simp] theorem modEmu_entries : (s.modEmu i f).entries = s.entries := rfl
@[simp] theorem modEmu_comps : (s.modEmu i f).comps = s.comps := rfl
@[simp] theorem modEmu_protWas : (s.modEmu i f).protWas = s.protWas := rfl
@[simp] theorem modEmu_ripples : (s.modEmu i f).ripples = s.ripples := rfl
@[simp] theorem modEmu_pos : (s.modEmu i f).pos = s.pos := rfl
@[simp] theorem modEmu_emus : (s.modEmu i f).emus = vset s.emus i (f (s.emu i)) := rfl
@[simp] theorem modEmu_vecs : (s.modEmu i f).vecs = s.vecs := rfl
@[simp] theorem modEmu_ctr : (s.modEmu i f).ctr = s.ctr := rfl
@[simp] theorem modEmu_fix : (s.modEmu i f).fix = s.fix := rfl
@[simp] theorem modEmu_log : (s.modEmu i f).log = s.log := rfl
@[simp] theorem modEmu_sxt : (s.modEmu i f).sxt = s.sxt := rfl
@[simp] theorem modEmu_calculator : (s.modEmu i f).calculator = s.calculator := rfl
@[simp] theorem modEmu_key : (s.modEmu i f).key = s.key := rfl
@[simp] theorem modEmu_cup : (s.modEmu i f).cup = s.cup := rfl
@[simp] theorem modEmu_host : (s.modEmu i f).host = s.host := rfl
@[simp] theorem modEmu_tl : (s.modEmu i f).tl = s.tl := rfl
@[simp] theorem modEmu_boot : (s.modEmu i f).boot = s.boot := rfl
@[simp] theorem modEmu_policy : (s.modEmu i f).policy = s.policy := rfl
@[simp] theorem modEmu_ports : (s.modEmu i f).ports = s.ports := rfl
@[simp] theorem modEmu_cyc : (s.modEmu i f).cyc = s.cyc := rfl
@[simp] theorem modEmu_sched : (s.modEmu i f).sched = s.sched := rfl
end modEmu

section mapClk
variable (s : State) (f : Clk → Clk)
@[simp] theorem mapClk_pending : (s.mapClk f).pending = s.pending := rfl
@[simp] theorem mapClk_freeCtr : (s.mapClk f).freeCtr = s.freeCtr := rfl
@[simp] theorem mapClk_reg : (s.mapClk f).reg = s.reg := rfl
@[simp] theorem mapClk_mem : (s.mapClk f).mem = s.mem := rfl
@[simp] theorem mapClk_bank : (s.mapClk f).bank = s.bank := rfl
@[simp] theorem mapClk_loaded : (s.mapClk f).loaded = s.loaded := rfl
@[simp] theorem mapClk_badParity : (s.mapClk f).badParity = s.badParity := rfl
@[simp] theorem mapClk_procs : (s.mapClk f).procs = s.procs := rfl
@[simp] theorem mapClk_clk : (s.mapClk f).clk = f s.clk := rfl
@[simp] theorem mapClk_pwr : (s.mapClk f).pwr = s.pwr := rfl
@[simp] theorem mapClk_bus : (s.mapClk f).bus = s.bus := rfl
@[simp] theorem mapClk_claims : (s.mapClk f).claims = s.claims := rfl
@[simp] theorem mapClk_cells : (s.mapClk f).cells = s.cells := rfl
@[simp] theorem mapClk_chans : (s.mapClk f).chans = s.chans := rfl
@[simp] theorem mapClk_convs : (s.mapClk f).convs = s.convs := rfl
@[simp] theorem mapClk_entries : (s.mapClk f).entries = s.entries := rfl
@[simp] theorem mapClk_comps : (s.mapClk f).comps = s.comps := rfl
@[simp] theorem mapClk_protWas : (s.mapClk f).protWas = s.protWas := rfl
@[simp] theorem mapClk_ripples : (s.mapClk f).ripples = s.ripples := rfl
@[simp] theorem mapClk_pos : (s.mapClk f).pos = s.pos := rfl
@[simp] theorem mapClk_emus : (s.mapClk f).emus = s.emus := rfl
@[simp] theorem mapClk_vecs : (s.mapClk f).vecs = s.vecs := rfl
@[simp] theorem mapClk_ctr : (s.mapClk f).ctr = s.ctr := rfl
@[simp] theorem mapClk_fix : (s.mapClk f).fix = s.fix := rfl
@[simp] theorem mapClk_log : (s.mapClk f).log = s.log := rfl
@[simp] theorem mapClk_sxt : (s.mapClk f).sxt = s.sxt := rfl
@[simp] theorem mapClk_calculator : (s.mapClk f).calculator = s.calculator := rfl
@[simp] theorem mapClk_key : (s.mapClk f).key = s.key := rfl
@[simp] theorem mapClk_cup : (s.mapClk f).cup = s.cup := rfl
@[simp] theorem mapClk_host : (s.mapClk f).host = s.host := rfl
@[simp] theorem mapClk_tl : (s.mapClk f).tl = s.tl := rfl
@[simp] theorem mapClk_boot : (s.mapClk f).boot = s.boot := rfl
@[simp] theorem mapClk_policy : (s.mapClk f).policy = s.policy := rfl
@[simp] theorem mapClk_ports : (s.mapClk f).ports = s.ports := rfl
@[simp] theorem mapClk_cyc : (s.mapClk f).cyc = s.cyc := rfl
@[simp] theorem mapClk_sched : (s.mapClk f).sched = s.sched := rfl
end mapClk

section mapPwr
variable (s : State) (f : Pwr → Pwr)
@[simp] theorem mapPwr_pending : (s.mapPwr f).pending = s.pending := rfl
@[simp] theorem mapPwr_freeCtr : (s.mapPwr f).freeCtr = s.freeCtr := rfl
@[simp] theorem mapPwr_reg : (s.mapPwr f).reg = s.reg := rfl
@[simp] theorem mapPwr_mem : (s.mapPwr f).mem = s.mem := rfl
@[simp] theorem mapPwr_bank : (s.mapPwr f).bank = s.bank := rfl
@[simp] theorem mapPwr_loaded : (s.mapPwr f).loaded = s.loaded := rfl
@[simp] theorem mapPwr_badParity : (s.mapPwr f).badParity = s.badParity := rfl
@[simp] theorem mapPwr_procs : (s.mapPwr f).procs = s.procs := rfl
@[simp] theorem mapPwr_clk : (s.mapPwr f).clk = s.clk := rfl
@[simp] theorem mapPwr_pwr : (s.mapPwr f).pwr = f s.pwr := rfl
@[simp] theorem mapPwr_bus : (s.mapPwr f).bus = s.bus := rfl
@[simp] theorem mapPwr_claims : (s.mapPwr f).claims = s.claims := rfl
@[simp] theorem mapPwr_cells : (s.mapPwr f).cells = s.cells := rfl
@[simp] theorem mapPwr_chans : (s.mapPwr f).chans = s.chans := rfl
@[simp] theorem mapPwr_convs : (s.mapPwr f).convs = s.convs := rfl
@[simp] theorem mapPwr_entries : (s.mapPwr f).entries = s.entries := rfl
@[simp] theorem mapPwr_comps : (s.mapPwr f).comps = s.comps := rfl
@[simp] theorem mapPwr_protWas : (s.mapPwr f).protWas = s.protWas := rfl
@[simp] theorem mapPwr_ripples : (s.mapPwr f).ripples = s.ripples := rfl
@[simp] theorem mapPwr_pos : (s.mapPwr f).pos = s.pos := rfl
@[simp] theorem mapPwr_emus : (s.mapPwr f).emus = s.emus := rfl
@[simp] theorem mapPwr_vecs : (s.mapPwr f).vecs = s.vecs := rfl
@[simp] theorem mapPwr_ctr : (s.mapPwr f).ctr = s.ctr := rfl
@[simp] theorem mapPwr_fix : (s.mapPwr f).fix = s.fix := rfl
@[simp] theorem mapPwr_log : (s.mapPwr f).log = s.log := rfl
@[simp] theorem mapPwr_sxt : (s.mapPwr f).sxt = s.sxt := rfl
@[simp] theorem mapPwr_calculator : (s.mapPwr f).calculator = s.calculator := rfl
@[simp] theorem mapPwr_key : (s.mapPwr f).key = s.key := rfl
@[simp] theorem mapPwr_cup : (s.mapPwr f).cup = s.cup := rfl
@[simp] theorem mapPwr_host : (s.mapPwr f).host = s.host := rfl
@[simp] theorem mapPwr_tl : (s.mapPwr f).tl = s.tl := rfl
@[simp] theorem mapPwr_boot : (s.mapPwr f).boot = s.boot := rfl
@[simp] theorem mapPwr_policy : (s.mapPwr f).policy = s.policy := rfl
@[simp] theorem mapPwr_ports : (s.mapPwr f).ports = s.ports := rfl
@[simp] theorem mapPwr_cyc : (s.mapPwr f).cyc = s.cyc := rfl
@[simp] theorem mapPwr_sched : (s.mapPwr f).sched = s.sched := rfl
end mapPwr

section mapBus
variable (s : State) (f : Bus → Bus)
@[simp] theorem mapBus_pending : (s.mapBus f).pending = s.pending := rfl
@[simp] theorem mapBus_freeCtr : (s.mapBus f).freeCtr = s.freeCtr := rfl
@[simp] theorem mapBus_reg : (s.mapBus f).reg = s.reg := rfl
@[simp] theorem mapBus_mem : (s.mapBus f).mem = s.mem := rfl
@[simp] theorem mapBus_bank : (s.mapBus f).bank = s.bank := rfl
@[simp] theorem mapBus_loaded : (s.mapBus f).loaded = s.loaded := rfl
@[simp] theorem mapBus_badParity : (s.mapBus f).badParity = s.badParity := rfl
@[simp] theorem mapBus_procs : (s.mapBus f).procs = s.procs := rfl
@[simp] theorem mapBus_clk : (s.mapBus f).clk = s.clk := rfl
@[simp] theorem mapBus_pwr : (s.mapBus f).pwr = s.pwr := rfl
@[simp] theorem mapBus_bus : (s.mapBus f).bus = f s.bus := rfl
@[simp] theorem mapBus_claims : (s.mapBus f).claims = s.claims := rfl
@[simp] theorem mapBus_cells : (s.mapBus f).cells = s.cells := rfl
@[simp] theorem mapBus_chans : (s.mapBus f).chans = s.chans := rfl
@[simp] theorem mapBus_convs : (s.mapBus f).convs = s.convs := rfl
@[simp] theorem mapBus_entries : (s.mapBus f).entries = s.entries := rfl
@[simp] theorem mapBus_comps : (s.mapBus f).comps = s.comps := rfl
@[simp] theorem mapBus_protWas : (s.mapBus f).protWas = s.protWas := rfl
@[simp] theorem mapBus_ripples : (s.mapBus f).ripples = s.ripples := rfl
@[simp] theorem mapBus_pos : (s.mapBus f).pos = s.pos := rfl
@[simp] theorem mapBus_emus : (s.mapBus f).emus = s.emus := rfl
@[simp] theorem mapBus_vecs : (s.mapBus f).vecs = s.vecs := rfl
@[simp] theorem mapBus_ctr : (s.mapBus f).ctr = s.ctr := rfl
@[simp] theorem mapBus_fix : (s.mapBus f).fix = s.fix := rfl
@[simp] theorem mapBus_log : (s.mapBus f).log = s.log := rfl
@[simp] theorem mapBus_sxt : (s.mapBus f).sxt = s.sxt := rfl
@[simp] theorem mapBus_calculator : (s.mapBus f).calculator = s.calculator := rfl
@[simp] theorem mapBus_key : (s.mapBus f).key = s.key := rfl
@[simp] theorem mapBus_cup : (s.mapBus f).cup = s.cup := rfl
@[simp] theorem mapBus_host : (s.mapBus f).host = s.host := rfl
@[simp] theorem mapBus_tl : (s.mapBus f).tl = s.tl := rfl
@[simp] theorem mapBus_boot : (s.mapBus f).boot = s.boot := rfl
@[simp] theorem mapBus_policy : (s.mapBus f).policy = s.policy := rfl
@[simp] theorem mapBus_ports : (s.mapBus f).ports = s.ports := rfl
@[simp] theorem mapBus_cyc : (s.mapBus f).cyc = s.cyc := rfl
@[simp] theorem mapBus_sched : (s.mapBus f).sched = s.sched := rfl
end mapBus

section mapFix
variable (s : State) (f : Fix → Fix)
@[simp] theorem mapFix_pending : (s.mapFix f).pending = s.pending := rfl
@[simp] theorem mapFix_freeCtr : (s.mapFix f).freeCtr = s.freeCtr := rfl
@[simp] theorem mapFix_reg : (s.mapFix f).reg = s.reg := rfl
@[simp] theorem mapFix_mem : (s.mapFix f).mem = s.mem := rfl
@[simp] theorem mapFix_bank : (s.mapFix f).bank = s.bank := rfl
@[simp] theorem mapFix_loaded : (s.mapFix f).loaded = s.loaded := rfl
@[simp] theorem mapFix_badParity : (s.mapFix f).badParity = s.badParity := rfl
@[simp] theorem mapFix_procs : (s.mapFix f).procs = s.procs := rfl
@[simp] theorem mapFix_clk : (s.mapFix f).clk = s.clk := rfl
@[simp] theorem mapFix_pwr : (s.mapFix f).pwr = s.pwr := rfl
@[simp] theorem mapFix_bus : (s.mapFix f).bus = s.bus := rfl
@[simp] theorem mapFix_claims : (s.mapFix f).claims = s.claims := rfl
@[simp] theorem mapFix_cells : (s.mapFix f).cells = s.cells := rfl
@[simp] theorem mapFix_chans : (s.mapFix f).chans = s.chans := rfl
@[simp] theorem mapFix_convs : (s.mapFix f).convs = s.convs := rfl
@[simp] theorem mapFix_entries : (s.mapFix f).entries = s.entries := rfl
@[simp] theorem mapFix_comps : (s.mapFix f).comps = s.comps := rfl
@[simp] theorem mapFix_protWas : (s.mapFix f).protWas = s.protWas := rfl
@[simp] theorem mapFix_ripples : (s.mapFix f).ripples = s.ripples := rfl
@[simp] theorem mapFix_pos : (s.mapFix f).pos = s.pos := rfl
@[simp] theorem mapFix_emus : (s.mapFix f).emus = s.emus := rfl
@[simp] theorem mapFix_vecs : (s.mapFix f).vecs = s.vecs := rfl
@[simp] theorem mapFix_ctr : (s.mapFix f).ctr = s.ctr := rfl
@[simp] theorem mapFix_fix : (s.mapFix f).fix = f s.fix := rfl
@[simp] theorem mapFix_log : (s.mapFix f).log = s.log := rfl
@[simp] theorem mapFix_sxt : (s.mapFix f).sxt = s.sxt := rfl
@[simp] theorem mapFix_calculator : (s.mapFix f).calculator = s.calculator := rfl
@[simp] theorem mapFix_key : (s.mapFix f).key = s.key := rfl
@[simp] theorem mapFix_cup : (s.mapFix f).cup = s.cup := rfl
@[simp] theorem mapFix_host : (s.mapFix f).host = s.host := rfl
@[simp] theorem mapFix_tl : (s.mapFix f).tl = s.tl := rfl
@[simp] theorem mapFix_boot : (s.mapFix f).boot = s.boot := rfl
@[simp] theorem mapFix_policy : (s.mapFix f).policy = s.policy := rfl
@[simp] theorem mapFix_ports : (s.mapFix f).ports = s.ports := rfl
@[simp] theorem mapFix_cyc : (s.mapFix f).cyc = s.cyc := rfl
@[simp] theorem mapFix_sched : (s.mapFix f).sched = s.sched := rfl
end mapFix

section mapLog
variable (s : State) (f : Log → Log)
@[simp] theorem mapLog_pending : (s.mapLog f).pending = s.pending := rfl
@[simp] theorem mapLog_freeCtr : (s.mapLog f).freeCtr = s.freeCtr := rfl
@[simp] theorem mapLog_reg : (s.mapLog f).reg = s.reg := rfl
@[simp] theorem mapLog_mem : (s.mapLog f).mem = s.mem := rfl
@[simp] theorem mapLog_bank : (s.mapLog f).bank = s.bank := rfl
@[simp] theorem mapLog_loaded : (s.mapLog f).loaded = s.loaded := rfl
@[simp] theorem mapLog_badParity : (s.mapLog f).badParity = s.badParity := rfl
@[simp] theorem mapLog_procs : (s.mapLog f).procs = s.procs := rfl
@[simp] theorem mapLog_clk : (s.mapLog f).clk = s.clk := rfl
@[simp] theorem mapLog_pwr : (s.mapLog f).pwr = s.pwr := rfl
@[simp] theorem mapLog_bus : (s.mapLog f).bus = s.bus := rfl
@[simp] theorem mapLog_claims : (s.mapLog f).claims = s.claims := rfl
@[simp] theorem mapLog_cells : (s.mapLog f).cells = s.cells := rfl
@[simp] theorem mapLog_chans : (s.mapLog f).chans = s.chans := rfl
@[simp] theorem mapLog_convs : (s.mapLog f).convs = s.convs := rfl
@[simp] theorem mapLog_entries : (s.mapLog f).entries = s.entries := rfl
@[simp] theorem mapLog_comps : (s.mapLog f).comps = s.comps := rfl
@[simp] theorem mapLog_protWas : (s.mapLog f).protWas = s.protWas := rfl
@[simp] theorem mapLog_ripples : (s.mapLog f).ripples = s.ripples := rfl
@[simp] theorem mapLog_pos : (s.mapLog f).pos = s.pos := rfl
@[simp] theorem mapLog_emus : (s.mapLog f).emus = s.emus := rfl
@[simp] theorem mapLog_vecs : (s.mapLog f).vecs = s.vecs := rfl
@[simp] theorem mapLog_ctr : (s.mapLog f).ctr = s.ctr := rfl
@[simp] theorem mapLog_fix : (s.mapLog f).fix = s.fix := rfl
@[simp] theorem mapLog_log : (s.mapLog f).log = f s.log := rfl
@[simp] theorem mapLog_sxt : (s.mapLog f).sxt = s.sxt := rfl
@[simp] theorem mapLog_calculator : (s.mapLog f).calculator = s.calculator := rfl
@[simp] theorem mapLog_key : (s.mapLog f).key = s.key := rfl
@[simp] theorem mapLog_cup : (s.mapLog f).cup = s.cup := rfl
@[simp] theorem mapLog_host : (s.mapLog f).host = s.host := rfl
@[simp] theorem mapLog_tl : (s.mapLog f).tl = s.tl := rfl
@[simp] theorem mapLog_boot : (s.mapLog f).boot = s.boot := rfl
@[simp] theorem mapLog_policy : (s.mapLog f).policy = s.policy := rfl
@[simp] theorem mapLog_ports : (s.mapLog f).ports = s.ports := rfl
@[simp] theorem mapLog_cyc : (s.mapLog f).cyc = s.cyc := rfl
@[simp] theorem mapLog_sched : (s.mapLog f).sched = s.sched := rfl
end mapLog

section mapSxt
variable (s : State) (f : Sxt → Sxt)
@[simp] theorem mapSxt_pending : (s.mapSxt f).pending = s.pending := rfl
@[simp] theorem mapSxt_freeCtr : (s.mapSxt f).freeCtr = s.freeCtr := rfl
@[simp] theorem mapSxt_reg : (s.mapSxt f).reg = s.reg := rfl
@[simp] theorem mapSxt_mem : (s.mapSxt f).mem = s.mem := rfl
@[simp] theorem mapSxt_bank : (s.mapSxt f).bank = s.bank := rfl
@[simp] theorem mapSxt_loaded : (s.mapSxt f).loaded = s.loaded := rfl
@[simp] theorem mapSxt_badParity : (s.mapSxt f).badParity = s.badParity := rfl
@[simp] theorem mapSxt_procs : (s.mapSxt f).procs = s.procs := rfl
@[simp] theorem mapSxt_clk : (s.mapSxt f).clk = s.clk := rfl
@[simp] theorem mapSxt_pwr : (s.mapSxt f).pwr = s.pwr := rfl
@[simp] theorem mapSxt_bus : (s.mapSxt f).bus = s.bus := rfl
@[simp] theorem mapSxt_claims : (s.mapSxt f).claims = s.claims := rfl
@[simp] theorem mapSxt_cells : (s.mapSxt f).cells = s.cells := rfl
@[simp] theorem mapSxt_chans : (s.mapSxt f).chans = s.chans := rfl
@[simp] theorem mapSxt_convs : (s.mapSxt f).convs = s.convs := rfl
@[simp] theorem mapSxt_entries : (s.mapSxt f).entries = s.entries := rfl
@[simp] theorem mapSxt_comps : (s.mapSxt f).comps = s.comps := rfl
@[simp] theorem mapSxt_protWas : (s.mapSxt f).protWas = s.protWas := rfl
@[simp] theorem mapSxt_ripples : (s.mapSxt f).ripples = s.ripples := rfl
@[simp] theorem mapSxt_pos : (s.mapSxt f).pos = s.pos := rfl
@[simp] theorem mapSxt_emus : (s.mapSxt f).emus = s.emus := rfl
@[simp] theorem mapSxt_vecs : (s.mapSxt f).vecs = s.vecs := rfl
@[simp] theorem mapSxt_ctr : (s.mapSxt f).ctr = s.ctr := rfl
@[simp] theorem mapSxt_fix : (s.mapSxt f).fix = s.fix := rfl
@[simp] theorem mapSxt_log : (s.mapSxt f).log = s.log := rfl
@[simp] theorem mapSxt_sxt : (s.mapSxt f).sxt = f s.sxt := rfl
@[simp] theorem mapSxt_calculator : (s.mapSxt f).calculator = s.calculator := rfl
@[simp] theorem mapSxt_key : (s.mapSxt f).key = s.key := rfl
@[simp] theorem mapSxt_cup : (s.mapSxt f).cup = s.cup := rfl
@[simp] theorem mapSxt_host : (s.mapSxt f).host = s.host := rfl
@[simp] theorem mapSxt_tl : (s.mapSxt f).tl = s.tl := rfl
@[simp] theorem mapSxt_boot : (s.mapSxt f).boot = s.boot := rfl
@[simp] theorem mapSxt_policy : (s.mapSxt f).policy = s.policy := rfl
@[simp] theorem mapSxt_ports : (s.mapSxt f).ports = s.ports := rfl
@[simp] theorem mapSxt_cyc : (s.mapSxt f).cyc = s.cyc := rfl
@[simp] theorem mapSxt_sched : (s.mapSxt f).sched = s.sched := rfl
end mapSxt

section mapCalc
variable (s : State) (f : Calc → Calc)
@[simp] theorem mapCalc_pending : (s.mapCalc f).pending = s.pending := rfl
@[simp] theorem mapCalc_freeCtr : (s.mapCalc f).freeCtr = s.freeCtr := rfl
@[simp] theorem mapCalc_reg : (s.mapCalc f).reg = s.reg := rfl
@[simp] theorem mapCalc_mem : (s.mapCalc f).mem = s.mem := rfl
@[simp] theorem mapCalc_bank : (s.mapCalc f).bank = s.bank := rfl
@[simp] theorem mapCalc_loaded : (s.mapCalc f).loaded = s.loaded := rfl
@[simp] theorem mapCalc_badParity : (s.mapCalc f).badParity = s.badParity := rfl
@[simp] theorem mapCalc_procs : (s.mapCalc f).procs = s.procs := rfl
@[simp] theorem mapCalc_clk : (s.mapCalc f).clk = s.clk := rfl
@[simp] theorem mapCalc_pwr : (s.mapCalc f).pwr = s.pwr := rfl
@[simp] theorem mapCalc_bus : (s.mapCalc f).bus = s.bus := rfl
@[simp] theorem mapCalc_claims : (s.mapCalc f).claims = s.claims := rfl
@[simp] theorem mapCalc_cells : (s.mapCalc f).cells = s.cells := rfl
@[simp] theorem mapCalc_chans : (s.mapCalc f).chans = s.chans := rfl
@[simp] theorem mapCalc_convs : (s.mapCalc f).convs = s.convs := rfl
@[simp] theorem mapCalc_entries : (s.mapCalc f).entries = s.entries := rfl
@[simp] theorem mapCalc_comps : (s.mapCalc f).comps = s.comps := rfl
@[simp] theorem mapCalc_protWas : (s.mapCalc f).protWas = s.protWas := rfl
@[simp] theorem mapCalc_ripples : (s.mapCalc f).ripples = s.ripples := rfl
@[simp] theorem mapCalc_pos : (s.mapCalc f).pos = s.pos := rfl
@[simp] theorem mapCalc_emus : (s.mapCalc f).emus = s.emus := rfl
@[simp] theorem mapCalc_vecs : (s.mapCalc f).vecs = s.vecs := rfl
@[simp] theorem mapCalc_ctr : (s.mapCalc f).ctr = s.ctr := rfl
@[simp] theorem mapCalc_fix : (s.mapCalc f).fix = s.fix := rfl
@[simp] theorem mapCalc_log : (s.mapCalc f).log = s.log := rfl
@[simp] theorem mapCalc_sxt : (s.mapCalc f).sxt = s.sxt := rfl
@[simp] theorem mapCalc_calculator : (s.mapCalc f).calculator = f s.calculator := rfl
@[simp] theorem mapCalc_key : (s.mapCalc f).key = s.key := rfl
@[simp] theorem mapCalc_cup : (s.mapCalc f).cup = s.cup := rfl
@[simp] theorem mapCalc_host : (s.mapCalc f).host = s.host := rfl
@[simp] theorem mapCalc_tl : (s.mapCalc f).tl = s.tl := rfl
@[simp] theorem mapCalc_boot : (s.mapCalc f).boot = s.boot := rfl
@[simp] theorem mapCalc_policy : (s.mapCalc f).policy = s.policy := rfl
@[simp] theorem mapCalc_ports : (s.mapCalc f).ports = s.ports := rfl
@[simp] theorem mapCalc_cyc : (s.mapCalc f).cyc = s.cyc := rfl
@[simp] theorem mapCalc_sched : (s.mapCalc f).sched = s.sched := rfl
end mapCalc

section mapKey
variable (s : State) (f : Key → Key)
@[simp] theorem mapKey_pending : (s.mapKey f).pending = s.pending := rfl
@[simp] theorem mapKey_freeCtr : (s.mapKey f).freeCtr = s.freeCtr := rfl
@[simp] theorem mapKey_reg : (s.mapKey f).reg = s.reg := rfl
@[simp] theorem mapKey_mem : (s.mapKey f).mem = s.mem := rfl
@[simp] theorem mapKey_bank : (s.mapKey f).bank = s.bank := rfl
@[simp] theorem mapKey_loaded : (s.mapKey f).loaded = s.loaded := rfl
@[simp] theorem mapKey_badParity : (s.mapKey f).badParity = s.badParity := rfl
@[simp] theorem mapKey_procs : (s.mapKey f).procs = s.procs := rfl
@[simp] theorem mapKey_clk : (s.mapKey f).clk = s.clk := rfl
@[simp] theorem mapKey_pwr : (s.mapKey f).pwr = s.pwr := rfl
@[simp] theorem mapKey_bus : (s.mapKey f).bus = s.bus := rfl
@[simp] theorem mapKey_claims : (s.mapKey f).claims = s.claims := rfl
@[simp] theorem mapKey_cells : (s.mapKey f).cells = s.cells := rfl
@[simp] theorem mapKey_chans : (s.mapKey f).chans = s.chans := rfl
@[simp] theorem mapKey_convs : (s.mapKey f).convs = s.convs := rfl
@[simp] theorem mapKey_entries : (s.mapKey f).entries = s.entries := rfl
@[simp] theorem mapKey_comps : (s.mapKey f).comps = s.comps := rfl
@[simp] theorem mapKey_protWas : (s.mapKey f).protWas = s.protWas := rfl
@[simp] theorem mapKey_ripples : (s.mapKey f).ripples = s.ripples := rfl
@[simp] theorem mapKey_pos : (s.mapKey f).pos = s.pos := rfl
@[simp] theorem mapKey_emus : (s.mapKey f).emus = s.emus := rfl
@[simp] theorem mapKey_vecs : (s.mapKey f).vecs = s.vecs := rfl
@[simp] theorem mapKey_ctr : (s.mapKey f).ctr = s.ctr := rfl
@[simp] theorem mapKey_fix : (s.mapKey f).fix = s.fix := rfl
@[simp] theorem mapKey_log : (s.mapKey f).log = s.log := rfl
@[simp] theorem mapKey_sxt : (s.mapKey f).sxt = s.sxt := rfl
@[simp] theorem mapKey_calculator : (s.mapKey f).calculator = s.calculator := rfl
@[simp] theorem mapKey_key : (s.mapKey f).key = f s.key := rfl
@[simp] theorem mapKey_cup : (s.mapKey f).cup = s.cup := rfl
@[simp] theorem mapKey_host : (s.mapKey f).host = s.host := rfl
@[simp] theorem mapKey_tl : (s.mapKey f).tl = s.tl := rfl
@[simp] theorem mapKey_boot : (s.mapKey f).boot = s.boot := rfl
@[simp] theorem mapKey_policy : (s.mapKey f).policy = s.policy := rfl
@[simp] theorem mapKey_ports : (s.mapKey f).ports = s.ports := rfl
@[simp] theorem mapKey_cyc : (s.mapKey f).cyc = s.cyc := rfl
@[simp] theorem mapKey_sched : (s.mapKey f).sched = s.sched := rfl
end mapKey

section mapCup
variable (s : State) (f : Cup → Cup)
@[simp] theorem mapCup_pending : (s.mapCup f).pending = s.pending := rfl
@[simp] theorem mapCup_freeCtr : (s.mapCup f).freeCtr = s.freeCtr := rfl
@[simp] theorem mapCup_reg : (s.mapCup f).reg = s.reg := rfl
@[simp] theorem mapCup_mem : (s.mapCup f).mem = s.mem := rfl
@[simp] theorem mapCup_bank : (s.mapCup f).bank = s.bank := rfl
@[simp] theorem mapCup_loaded : (s.mapCup f).loaded = s.loaded := rfl
@[simp] theorem mapCup_badParity : (s.mapCup f).badParity = s.badParity := rfl
@[simp] theorem mapCup_procs : (s.mapCup f).procs = s.procs := rfl
@[simp] theorem mapCup_clk : (s.mapCup f).clk = s.clk := rfl
@[simp] theorem mapCup_pwr : (s.mapCup f).pwr = s.pwr := rfl
@[simp] theorem mapCup_bus : (s.mapCup f).bus = s.bus := rfl
@[simp] theorem mapCup_claims : (s.mapCup f).claims = s.claims := rfl
@[simp] theorem mapCup_cells : (s.mapCup f).cells = s.cells := rfl
@[simp] theorem mapCup_chans : (s.mapCup f).chans = s.chans := rfl
@[simp] theorem mapCup_convs : (s.mapCup f).convs = s.convs := rfl
@[simp] theorem mapCup_entries : (s.mapCup f).entries = s.entries := rfl
@[simp] theorem mapCup_comps : (s.mapCup f).comps = s.comps := rfl
@[simp] theorem mapCup_protWas : (s.mapCup f).protWas = s.protWas := rfl
@[simp] theorem mapCup_ripples : (s.mapCup f).ripples = s.ripples := rfl
@[simp] theorem mapCup_pos : (s.mapCup f).pos = s.pos := rfl
@[simp] theorem mapCup_emus : (s.mapCup f).emus = s.emus := rfl
@[simp] theorem mapCup_vecs : (s.mapCup f).vecs = s.vecs := rfl
@[simp] theorem mapCup_ctr : (s.mapCup f).ctr = s.ctr := rfl
@[simp] theorem mapCup_fix : (s.mapCup f).fix = s.fix := rfl
@[simp] theorem mapCup_log : (s.mapCup f).log = s.log := rfl
@[simp] theorem mapCup_sxt : (s.mapCup f).sxt = s.sxt := rfl
@[simp] theorem mapCup_calculator : (s.mapCup f).calculator = s.calculator := rfl
@[simp] theorem mapCup_key : (s.mapCup f).key = s.key := rfl
@[simp] theorem mapCup_cup : (s.mapCup f).cup = f s.cup := rfl
@[simp] theorem mapCup_host : (s.mapCup f).host = s.host := rfl
@[simp] theorem mapCup_tl : (s.mapCup f).tl = s.tl := rfl
@[simp] theorem mapCup_boot : (s.mapCup f).boot = s.boot := rfl
@[simp] theorem mapCup_policy : (s.mapCup f).policy = s.policy := rfl
@[simp] theorem mapCup_ports : (s.mapCup f).ports = s.ports := rfl
@[simp] theorem mapCup_cyc : (s.mapCup f).cyc = s.cyc := rfl
@[simp] theorem mapCup_sched : (s.mapCup f).sched = s.sched := rfl
end mapCup

section mapHostif
variable (s : State) (f : Hostif → Hostif)
@[simp] theorem mapHostif_pending : (s.mapHostif f).pending = s.pending := rfl
@[simp] theorem mapHostif_freeCtr : (s.mapHostif f).freeCtr = s.freeCtr := rfl
@[simp] theorem mapHostif_reg : (s.mapHostif f).reg = s.reg := rfl
@[simp] theorem mapHostif_mem : (s.mapHostif f).mem = s.mem := rfl
@[simp] theorem mapHostif_bank : (s.mapHostif f).bank = s.bank := rfl
@[simp] theorem mapHostif_loaded : (s.mapHostif f).loaded = s.loaded := rfl
@[simp] theorem mapHostif_badParity : (s.mapHostif f).badParity = s.badParity := rfl
@[simp] theorem mapHostif_procs : (s.mapHostif f).procs = s.procs := rfl
@[simp] theorem mapHostif_clk : (s.mapHostif f).clk = s.clk := rfl
@[simp] theorem mapHostif_pwr : (s.mapHostif f).pwr = s.pwr := rfl
@[simp] theorem mapHostif_bus : (s.mapHostif f).bus = s.bus := rfl
@[simp] theorem mapHostif_claims : (s.mapHostif f).claims = s.claims := rfl
@[simp] theorem mapHostif_cells : (s.mapHostif f).cells = s.cells := rfl
@[simp] theorem mapHostif_chans : (s.mapHostif f).chans = s.chans := rfl
@[simp] theorem mapHostif_convs : (s.mapHostif f).convs = s.convs := rfl
@[simp] theorem mapHostif_entries : (s.mapHostif f).entries = s.entries := rfl
@[simp] theorem mapHostif_comps : (s.mapHostif f).comps = s.comps := rfl
@[simp] theorem mapHostif_protWas : (s.mapHostif f).protWas = s.protWas := rfl
@[simp] theorem mapHostif_ripples : (s.mapHostif f).ripples = s.ripples := rfl
@[simp] theorem mapHostif_pos : (s.mapHostif f).pos = s.pos := rfl
@[simp] theorem mapHostif_emus : (s.mapHostif f).emus = s.emus := rfl
@[simp] theorem mapHostif_vecs : (s.mapHostif f).vecs = s.vecs := rfl
@[simp] theorem mapHostif_ctr : (s.mapHostif f).ctr = s.ctr := rfl
@[simp] theorem mapHostif_fix : (s.mapHostif f).fix = s.fix := rfl
@[simp] theorem mapHostif_log : (s.mapHostif f).log = s.log := rfl
@[simp] theorem mapHostif_sxt : (s.mapHostif f).sxt = s.sxt := rfl
@[simp] theorem mapHostif_calculator : (s.mapHostif f).calculator = s.calculator := rfl
@[simp] theorem mapHostif_key : (s.mapHostif f).key = s.key := rfl
@[simp] theorem mapHostif_cup : (s.mapHostif f).cup = s.cup := rfl
@[simp] theorem mapHostif_host : (s.mapHostif f).host = f s.host := rfl
@[simp] theorem mapHostif_tl : (s.mapHostif f).tl = s.tl := rfl
@[simp] theorem mapHostif_boot : (s.mapHostif f).boot = s.boot := rfl
@[simp] theorem mapHostif_policy : (s.mapHostif f).policy = s.policy := rfl
@[simp] theorem mapHostif_ports : (s.mapHostif f).ports = s.ports := rfl
@[simp] theorem mapHostif_cyc : (s.mapHostif f).cyc = s.cyc := rfl
@[simp] theorem mapHostif_sched : (s.mapHostif f).sched = s.sched := rfl
end mapHostif

section mapTl
variable (s : State) (f : Tl → Tl)
@[simp] theorem mapTl_pending : (s.mapTl f).pending = s.pending := rfl
@[simp] theorem mapTl_freeCtr : (s.mapTl f).freeCtr = s.freeCtr := rfl
@[simp] theorem mapTl_reg : (s.mapTl f).reg = s.reg := rfl
@[simp] theorem mapTl_mem : (s.mapTl f).mem = s.mem := rfl
@[simp] theorem mapTl_bank : (s.mapTl f).bank = s.bank := rfl
@[simp] theorem mapTl_loaded : (s.mapTl f).loaded = s.loaded := rfl
@[simp] theorem mapTl_badParity : (s.mapTl f).badParity = s.badParity := rfl
@[simp] theorem mapTl_procs : (s.mapTl f).procs = s.procs := rfl
@[simp] theorem mapTl_clk : (s.mapTl f).clk = s.clk := rfl
@[simp] theorem mapTl_pwr : (s.mapTl f).pwr = s.pwr := rfl
@[simp] theorem mapTl_bus : (s.mapTl f).bus = s.bus := rfl
@[simp] theorem mapTl_claims : (s.mapTl f).claims = s.claims := rfl
@[simp] theorem mapTl_cells : (s.mapTl f).cells = s.cells := rfl
@[simp] theorem mapTl_chans : (s.mapTl f).chans = s.chans := rfl
@[simp] theorem mapTl_convs : (s.mapTl f).convs = s.convs := rfl
@[simp] theorem mapTl_entries : (s.mapTl f).entries = s.entries := rfl
@[simp] theorem mapTl_comps : (s.mapTl f).comps = s.comps := rfl
@[simp] theorem mapTl_protWas : (s.mapTl f).protWas = s.protWas := rfl
@[simp] theorem mapTl_ripples : (s.mapTl f).ripples = s.ripples := rfl
@[simp] theorem mapTl_pos : (s.mapTl f).pos = s.pos := rfl
@[simp] theorem mapTl_emus : (s.mapTl f).emus = s.emus := rfl
@[simp] theorem mapTl_vecs : (s.mapTl f).vecs = s.vecs := rfl
@[simp] theorem mapTl_ctr : (s.mapTl f).ctr = s.ctr := rfl
@[simp] theorem mapTl_fix : (s.mapTl f).fix = s.fix := rfl
@[simp] theorem mapTl_log : (s.mapTl f).log = s.log := rfl
@[simp] theorem mapTl_sxt : (s.mapTl f).sxt = s.sxt := rfl
@[simp] theorem mapTl_calculator : (s.mapTl f).calculator = s.calculator := rfl
@[simp] theorem mapTl_key : (s.mapTl f).key = s.key := rfl
@[simp] theorem mapTl_cup : (s.mapTl f).cup = s.cup := rfl
@[simp] theorem mapTl_host : (s.mapTl f).host = s.host := rfl
@[simp] theorem mapTl_tl : (s.mapTl f).tl = f s.tl := rfl
@[simp] theorem mapTl_boot : (s.mapTl f).boot = s.boot := rfl
@[simp] theorem mapTl_policy : (s.mapTl f).policy = s.policy := rfl
@[simp] theorem mapTl_ports : (s.mapTl f).ports = s.ports := rfl
@[simp] theorem mapTl_cyc : (s.mapTl f).cyc = s.cyc := rfl
@[simp] theorem mapTl_sched : (s.mapTl f).sched = s.sched := rfl
end mapTl

section mapBoot
variable (s : State) (f : Boot → Boot)
@[simp] theorem mapBoot_pending : (s.mapBoot f).pending = s.pending := rfl
@[simp] theorem mapBoot_freeCtr : (s.mapBoot f).freeCtr = s.freeCtr := rfl
@[simp] theorem mapBoot_reg : (s.mapBoot f).reg = s.reg := rfl
@[simp] theorem mapBoot_mem : (s.mapBoot f).mem = s.mem := rfl
@[simp] theorem mapBoot_bank : (s.mapBoot f).bank = s.bank := rfl
@[simp] theorem mapBoot_loaded : (s.mapBoot f).loaded = s.loaded := rfl
@[simp] theorem mapBoot_badParity : (s.mapBoot f).badParity = s.badParity := rfl
@[simp] theorem mapBoot_procs : (s.mapBoot f).procs = s.procs := rfl
@[simp] theorem mapBoot_clk : (s.mapBoot f).clk = s.clk := rfl
@[simp] theorem mapBoot_pwr : (s.mapBoot f).pwr = s.pwr := rfl
@[simp] theorem mapBoot_bus : (s.mapBoot f).bus = s.bus := rfl
@[simp] theorem mapBoot_claims : (s.mapBoot f).claims = s.claims := rfl
@[simp] theorem mapBoot_cells : (s.mapBoot f).cells = s.cells := rfl
@[simp] theorem mapBoot_chans : (s.mapBoot f).chans = s.chans := rfl
@[simp] theorem mapBoot_convs : (s.mapBoot f).convs = s.convs := rfl
@[simp] theorem mapBoot_entries : (s.mapBoot f).entries = s.entries := rfl
@[simp] theorem mapBoot_comps : (s.mapBoot f).comps = s.comps := rfl
@[simp] theorem mapBoot_protWas : (s.mapBoot f).protWas = s.protWas := rfl
@[simp] theorem mapBoot_ripples : (s.mapBoot f).ripples = s.ripples := rfl
@[simp] theorem mapBoot_pos : (s.mapBoot f).pos = s.pos := rfl
@[simp] theorem mapBoot_emus : (s.mapBoot f).emus = s.emus := rfl
@[simp] theorem mapBoot_vecs : (s.mapBoot f).vecs = s.vecs := rfl
@[simp] theorem mapBoot_ctr : (s.mapBoot f).ctr = s.ctr := rfl
@[simp] theorem mapBoot_fix : (s.mapBoot f).fix = s.fix := rfl
@[simp] theorem mapBoot_log : (s.mapBoot f).log = s.log := rfl
@[simp] theorem mapBoot_sxt : (s.mapBoot f).sxt = s.sxt := rfl
@[simp] theorem mapBoot_calculator : (s.mapBoot f).calculator = s.calculator := rfl
@[simp] theorem mapBoot_key : (s.mapBoot f).key = s.key := rfl
@[simp] theorem mapBoot_cup : (s.mapBoot f).cup = s.cup := rfl
@[simp] theorem mapBoot_host : (s.mapBoot f).host = s.host := rfl
@[simp] theorem mapBoot_tl : (s.mapBoot f).tl = s.tl := rfl
@[simp] theorem mapBoot_boot : (s.mapBoot f).boot = f s.boot := rfl
@[simp] theorem mapBoot_policy : (s.mapBoot f).policy = s.policy := rfl
@[simp] theorem mapBoot_ports : (s.mapBoot f).ports = s.ports := rfl
@[simp] theorem mapBoot_cyc : (s.mapBoot f).cyc = s.cyc := rfl
@[simp] theorem mapBoot_sched : (s.mapBoot f).sched = s.sched := rfl
end mapBoot

section mapPolicy
variable (s : State) (f : Policy → Policy)
@[simp] theorem mapPolicy_pending : (s.mapPolicy f).pending = s.pending := rfl
@[simp] theorem mapPolicy_freeCtr : (s.mapPolicy f).freeCtr = s.freeCtr := rfl
@[simp] theorem mapPolicy_reg : (s.mapPolicy f).reg = s.reg := rfl
@[simp] theorem mapPolicy_mem : (s.mapPolicy f).mem = s.mem := rfl
@[simp] theorem mapPolicy_bank : (s.mapPolicy f).bank = s.bank := rfl
@[simp] theorem mapPolicy_loaded : (s.mapPolicy f).loaded = s.loaded := rfl
@[simp] theorem mapPolicy_badParity : (s.mapPolicy f).badParity = s.badParity := rfl
@[simp] theorem mapPolicy_procs : (s.mapPolicy f).procs = s.procs := rfl
@[simp] theorem mapPolicy_clk : (s.mapPolicy f).clk = s.clk := rfl
@[simp] theorem mapPolicy_pwr : (s.mapPolicy f).pwr = s.pwr := rfl
@[simp] theorem mapPolicy_bus : (s.mapPolicy f).bus = s.bus := rfl
@[simp] theorem mapPolicy_claims : (s.mapPolicy f).claims = s.claims := rfl
@[simp] theorem mapPolicy_cells : (s.mapPolicy f).cells = s.cells := rfl
@[simp] theorem mapPolicy_chans : (s.mapPolicy f).chans = s.chans := rfl
@[simp] theorem mapPolicy_convs : (s.mapPolicy f).convs = s.convs := rfl
@[simp] theorem mapPolicy_entries : (s.mapPolicy f).entries = s.entries := rfl
@[simp] theorem mapPolicy_comps : (s.mapPolicy f).comps = s.comps := rfl
@[simp] theorem mapPolicy_protWas : (s.mapPolicy f).protWas = s.protWas := rfl
@[simp] theorem mapPolicy_ripples : (s.mapPolicy f).ripples = s.ripples := rfl
@[simp] theorem mapPolicy_pos : (s.mapPolicy f).pos = s.pos := rfl
@[simp] theorem mapPolicy_emus : (s.mapPolicy f).emus = s.emus := rfl
@[simp] theorem mapPolicy_vecs : (s.mapPolicy f).vecs = s.vecs := rfl
@[simp] theorem mapPolicy_ctr : (s.mapPolicy f).ctr = s.ctr := rfl
@[simp] theorem mapPolicy_fix : (s.mapPolicy f).fix = s.fix := rfl
@[simp] theorem mapPolicy_log : (s.mapPolicy f).log = s.log := rfl
@[simp] theorem mapPolicy_sxt : (s.mapPolicy f).sxt = s.sxt := rfl
@[simp] theorem mapPolicy_calculator : (s.mapPolicy f).calculator = s.calculator := rfl
@[simp] theorem mapPolicy_key : (s.mapPolicy f).key = s.key := rfl
@[simp] theorem mapPolicy_cup : (s.mapPolicy f).cup = s.cup := rfl
@[simp] theorem mapPolicy_host : (s.mapPolicy f).host = s.host := rfl
@[simp] theorem mapPolicy_tl : (s.mapPolicy f).tl = s.tl := rfl
@[simp] theorem mapPolicy_boot : (s.mapPolicy f).boot = s.boot := rfl
@[simp] theorem mapPolicy_policy : (s.mapPolicy f).policy = f s.policy := rfl
@[simp] theorem mapPolicy_ports : (s.mapPolicy f).ports = s.ports := rfl
@[simp] theorem mapPolicy_cyc : (s.mapPolicy f).cyc = s.cyc := rfl
@[simp] theorem mapPolicy_sched : (s.mapPolicy f).sched = s.sched := rfl
end mapPolicy

section mapCyc
variable (s : State) (f : Cyc → Cyc)
@[simp] theorem mapCyc_pending : (s.mapCyc f).pending = s.pending := rfl
@[simp] theorem mapCyc_freeCtr : (s.mapCyc f).freeCtr = s.freeCtr := rfl
@[simp] theorem mapCyc_reg : (s.mapCyc f).reg = s.reg := rfl
@[simp] theorem mapCyc_mem : (s.mapCyc f).mem = s.mem := rfl
@[simp] theorem mapCyc_bank : (s.mapCyc f).bank = s.bank := rfl
@[simp] theorem mapCyc_loaded : (s.mapCyc f).loaded = s.loaded := rfl
@[simp] theorem mapCyc_badParity : (s.mapCyc f).badParity = s.badParity := rfl
@[simp] theorem mapCyc_procs : (s.mapCyc f).procs = s.procs := rfl
@[simp] theorem mapCyc_clk : (s.mapCyc f).clk = s.clk := rfl
@[simp] theorem mapCyc_pwr : (s.mapCyc f).pwr = s.pwr := rfl
@[simp] theorem mapCyc_bus : (s.mapCyc f).bus = s.bus := rfl
@[simp] theorem mapCyc_claims : (s.mapCyc f).claims = s.claims := rfl
@[simp] theorem mapCyc_cells : (s.mapCyc f).cells = s.cells := rfl
@[simp] theorem mapCyc_chans : (s.mapCyc f).chans = s.chans := rfl
@[simp] theorem mapCyc_convs : (s.mapCyc f).convs = s.convs := rfl
@[simp] theorem mapCyc_entries : (s.mapCyc f).entries = s.entries := rfl
@[simp] theorem mapCyc_comps : (s.mapCyc f).comps = s.comps := rfl
@[simp] theorem mapCyc_protWas : (s.mapCyc f).protWas = s.protWas := rfl
@[simp] theorem mapCyc_ripples : (s.mapCyc f).ripples = s.ripples := rfl
@[simp] theorem mapCyc_pos : (s.mapCyc f).pos = s.pos := rfl
@[simp] theorem mapCyc_emus : (s.mapCyc f).emus = s.emus := rfl
@[simp] theorem mapCyc_vecs : (s.mapCyc f).vecs = s.vecs := rfl
@[simp] theorem mapCyc_ctr : (s.mapCyc f).ctr = s.ctr := rfl
@[simp] theorem mapCyc_fix : (s.mapCyc f).fix = s.fix := rfl
@[simp] theorem mapCyc_log : (s.mapCyc f).log = s.log := rfl
@[simp] theorem mapCyc_sxt : (s.mapCyc f).sxt = s.sxt := rfl
@[simp] theorem mapCyc_calculator : (s.mapCyc f).calculator = s.calculator := rfl
@[simp] theorem mapCyc_key : (s.mapCyc f).key = s.key := rfl
@[simp] theorem mapCyc_cup : (s.mapCyc f).cup = s.cup := rfl
@[simp] theorem mapCyc_host : (s.mapCyc f).host = s.host := rfl
@[simp] theorem mapCyc_tl : (s.mapCyc f).tl = s.tl := rfl
@[simp] theorem mapCyc_boot : (s.mapCyc f).boot = s.boot := rfl
@[simp] theorem mapCyc_policy : (s.mapCyc f).policy = s.policy := rfl
@[simp] theorem mapCyc_ports : (s.mapCyc f).ports = s.ports := rfl
@[simp] theorem mapCyc_cyc : (s.mapCyc f).cyc = f s.cyc := rfl
@[simp] theorem mapCyc_sched : (s.mapCyc f).sched = s.sched := rfl
end mapCyc

section mapSched
variable (s : State) (f : List (Nat × Ev) → List (Nat × Ev))
@[simp] theorem mapSched_pending : (s.mapSched f).pending = s.pending := rfl
@[simp] theorem mapSched_freeCtr : (s.mapSched f).freeCtr = s.freeCtr := rfl
@[simp] theorem mapSched_reg : (s.mapSched f).reg = s.reg := rfl
@[simp] theorem mapSched_mem : (s.mapSched f).mem = s.mem := rfl
@[simp] theorem mapSched_bank : (s.mapSched f).bank = s.bank := rfl
@[simp] theorem mapSched_loaded : (s.mapSched f).loaded = s.loaded := rfl
@[simp] theorem mapSched_badParity : (s.mapSched f).badParity = s.badParity := rfl
@[simp] theorem mapSched_procs : (s.mapSched f).procs = s.procs := rfl
@[simp] theorem mapSched_clk : (s.mapSched f).clk = s.clk := rfl
@[simp] theorem mapSched_pwr : (s.mapSched f).pwr = s.pwr := rfl
@[simp] theorem mapSched_bus : (s.mapSched f).bus = s.bus := rfl
@[simp] theorem mapSched_claims : (s.mapSched f).claims = s.claims := rfl
@[simp] theorem mapSched_cells : (s.mapSched f).cells = s.cells := rfl
@[simp] theorem mapSched_chans : (s.mapSched f).chans = s.chans := rfl
@[simp] theorem mapSched_convs : (s.mapSched f).convs = s.convs := rfl
@[simp] theorem mapSched_entries : (s.mapSched f).entries = s.entries := rfl
@[simp] theorem mapSched_comps : (s.mapSched f).comps = s.comps := rfl
@[simp] theorem mapSched_protWas : (s.mapSched f).protWas = s.protWas := rfl
@[simp] theorem mapSched_ripples : (s.mapSched f).ripples = s.ripples := rfl
@[simp] theorem mapSched_pos : (s.mapSched f).pos = s.pos := rfl
@[simp] theorem mapSched_emus : (s.mapSched f).emus = s.emus := rfl
@[simp] theorem mapSched_vecs : (s.mapSched f).vecs = s.vecs := rfl
@[simp] theorem mapSched_ctr : (s.mapSched f).ctr = s.ctr := rfl
@[simp] theorem mapSched_fix : (s.mapSched f).fix = s.fix := rfl
@[simp] theorem mapSched_log : (s.mapSched f).log = s.log := rfl
@[simp] theorem mapSched_sxt : (s.mapSched f).sxt = s.sxt := rfl
@[simp] theorem mapSched_calculator : (s.mapSched f).calculator = s.calculator := rfl
@[simp] theorem mapSched_key : (s.mapSched f).key = s.key := rfl
@[simp] theorem mapSched_cup : (s.mapSched f).cup = s.cup := rfl
@[simp] theorem mapSched_host : (s.mapSched f).host = s.host := rfl
@[simp] theorem mapSched_tl : (s.mapSched f).tl = s.tl := rfl
@[simp] theorem mapSched_boot : (s.mapSched f).boot = s.boot := rfl
@[simp] theorem mapSched_policy : (s.mapSched f).policy = s.policy := rfl
@[simp] theorem mapSched_ports : (s.mapSched f).ports = s.ports := rfl
@[simp] theorem mapSched_cyc : (s.mapSched f).cyc = s.cyc := rfl
@[simp] theorem mapSched_sched : (s.mapSched f).sched = f s.sched := rfl
end mapSched

/-- A register reads as what was last written to it. -/
@[simp] theorem rd_wr_self (s : State) (a : Nat) (v : Word) : (s.wr a v).rd a = v := lookup_update_self

/-- A register write leaves every other register as it was. -/
theorem rd_wr_ne (s : State) {a b : Nat} (v : Word) (h : b ≠ a) : (s.wr a v).rd b = s.rd b := lookup_update_ne h

/-- A memory word reads as what was last written to it. -/
@[simp] theorem rdMem_wrMem_self (s : State) (a : Nat) (v : Word) : (s.wrMem a v).rdMem a = v := lookup_update_self

/-- A memory write leaves every other word as it was. -/
theorem rdMem_wrMem_ne (s : State) {a b : Nat} (v : Word) (h : b ≠ a) : (s.wrMem a v).rdMem b = s.rdMem b :=
  lookup_update_ne h

/-- An element of a vector that is put is read back. -/
theorem vget_vset_self {α : Type} {n : Nat} (d : α) (v : Vector α n) {i : Nat} (x : α) (h : i < n) :
    vget d (vset v i x) i = x := by
  simp [vget, vset, h]

/-- A put leaves the other elements of a vector. -/
theorem vget_vset_ne {α : Type} {n : Nat} (d : α) (v : Vector α n) {i j : Nat} (x : α) (h : i ≠ j) :
    vget d (vset v i x) j = vget d v j := by
  simp [vget, vset, Vector.getElem?_setIfInBounds_ne h]

end Sys2Proof.Machine
end

