-- ==== Sys2Proof/Laws/Bear.lean ====
section
/-! SUPPORT. What the one runner of Bearing instructions comes to: when the instruction issues and completes, when its condition
fails, and when its encoding is undefined. -/
namespace Sys2Proof.Machine

/-- The runner with the tests of a form. -/
def runForm (x : Form) (body : State → Issue) (s : State) : Result :=
  if x.own then runInstr x.proc x.words x.cond x.legal x.mem body s
  else if x.reserved then runInstr x.proc x.words x.cond false x.mem body s else .next s

theorem runGroup_eq (op : Nat) (p : ProcId) (f : ShortF) (sub lim : Nat) (legal mem : Bool) (body : State → Issue) (s : State) :
    runGroup op p f sub lim legal mem body s =
      runForm { proc := p, words := [shortWord op f], cond := f.cond, own := decide (f.sub.toNat = sub),
                reserved := decide (lim ≤ f.sub.toNat), legal := legal, mem := mem } body s := by
  simp only [runGroup, runForm, decide_eq_true_eq]

theorem runShort_eq (op : Nat) (p : ProcId) (f : ShortF) (legal mem : Bool) (body : State → Issue) (s : State) :
    runShort op p f legal mem body s =
      runForm { proc := p, words := [shortWord op f], cond := f.cond, own := true, reserved := false, legal := legal, mem := mem }
        body s :=
  rfl

theorem runLong_eq (op : Nat) (p : ProcId) (f : LongF) (legal mem : Bool) (body : State → Issue) (s : State) :
    runLong op p f legal mem body s =
      runForm { proc := p, words := [longWord op f, f.w2], cond := f.cond, own := true, reserved := false, legal := legal,
                mem := mem } body s :=
  rfl

/-- Every Bearing instruction goes through the runner: its own row's sub value runs its body, a reserved one is an
undefined encoding, and that of another row is not this event. -/
theorem exec_form {i : Instr} {x : Form} (h : form i = some x) (s : State) :
    ∃ body, exec i s = runForm x body s := by
  unfold form at h
  split at h <;> cases h
  · exact ⟨_, runShort_eq ..⟩
  · exact ⟨_, runShort_eq ..⟩
  · exact ⟨_, runShort_eq ..⟩
  · exact ⟨_, runShort_eq ..⟩
  · exact ⟨_, runShort_eq ..⟩
  · exact ⟨_, runShort_eq ..⟩
  · exact ⟨_, runShort_eq ..⟩
  · exact ⟨_, runShort_eq ..⟩
  · exact ⟨_, runShort_eq ..⟩
  · exact ⟨_, runShort_eq ..⟩
  · exact ⟨_, runGroup_eq ..⟩
  · exact ⟨_, runGroup_eq ..⟩
  · exact ⟨_, runGroup_eq ..⟩
  · exact ⟨_, runShort_eq ..⟩
  · exact ⟨_, runShort_eq ..⟩
  · exact ⟨_, runShort_eq ..⟩
  · exact ⟨_, runShort_eq ..⟩
  · exact ⟨_, runShort_eq ..⟩
  · exact ⟨_, runShort_eq ..⟩
  · exact ⟨_, runGroup_eq ..⟩
  · exact ⟨_, runGroup_eq ..⟩
  · exact ⟨_, runGroup_eq ..⟩
  · exact ⟨_, runGroup_eq ..⟩
  · exact ⟨_, runGroup_eq ..⟩
  · exact ⟨_, runGroup_eq ..⟩
  · exact ⟨_, runGroup_eq ..⟩
  · exact ⟨_, runGroup_eq ..⟩
  · exact ⟨_, runGroup_eq ..⟩
  · exact ⟨_, runGroup_eq ..⟩
  · exact ⟨_, runGroup_eq ..⟩
  · exact ⟨_, runGroup_eq ..⟩
  · exact ⟨_, runGroup_eq ..⟩
  · exact ⟨_, runGroup_eq ..⟩
  · exact ⟨_, runGroup_eq ..⟩
  · exact ⟨_, runGroup_eq ..⟩
  · exact ⟨_, runLong_eq ..⟩
  · exact ⟨_, runLong_eq ..⟩
  · exact ⟨_, runLong_eq ..⟩
  · exact ⟨_, runLong_eq ..⟩
  · exact ⟨_, runLong_eq ..⟩
  · exact ⟨_, runLong_eq ..⟩
  · exact ⟨_, runLong_eq ..⟩
  · exact ⟨_, runLong_eq ..⟩
  · exact ⟨_, runLong_eq ..⟩
  · exact ⟨_, runLong_eq ..⟩
  · exact ⟨_, runLong_eq ..⟩
  · exact ⟨_, runLong_eq ..⟩
  · exact ⟨_, runLong_eq ..⟩
  · exact ⟨_, runLong_eq ..⟩
  · exact ⟨_, runLong_eq ..⟩
  · exact ⟨_, runLong_eq ..⟩
  · exact ⟨_, runLong_eq ..⟩
  · exact ⟨_, runLong_eq ..⟩
  · exact ⟨_, runLong_eq ..⟩
  · exact ⟨_, runLong_eq ..⟩
  · exact ⟨_, runLong_eq ..⟩
  · exact ⟨_, runLong_eq ..⟩
  · exact ⟨_, runLong_eq ..⟩
  · exact ⟨_, runLong_eq ..⟩
  · exact ⟨_, runLong_eq ..⟩
  · exact ⟨_, runLong_eq ..⟩
  · exact ⟨_, runLong_eq ..⟩
  · exact ⟨_, runLong_eq ..⟩
  · exact ⟨_, runLong_eq ..⟩
  · exact ⟨_, runLong_eq ..⟩
  · exact ⟨_, runLong_eq ..⟩
  · exact ⟨_, runLong_eq ..⟩
  · exact ⟨_, runLong_eq ..⟩
  · exact ⟨_, runLong_eq ..⟩
  · exact ⟨_, runLong_eq ..⟩

/-- What an instruction comes to on its processor. -/
def finish (p : ProcId) (len : Nat) (s : State) (i : Issue) : State :=
  if isCell p.1 then cellFinish p.1 len s i else helmFinish p.1 len s i

theorem Issues.own {x : Form} {s : State} (h : Issues x s) : x.own = true := by
  have := h.defined; simp [Form.defined] at this; exact this.1.2

theorem Issues.legal {x : Form} {s : State} (h : Issues x s) : x.legal = true := by
  have := h.defined; simp [Form.defined] at this; exact this.2

theorem Issues.condOk {x : Form} {s : State} (h : Issues x s) : x.condOk = true := by
  have := h.defined; simp [Form.defined] at this; exact this.1.1

theorem mayIssue_helm {p : Nat} {s : State} (h : mayIssue p s = true) (hp : isCell p = false) :
    nmiCandidate p s = false ∧ (s.proc p).run = .running := by
  simp [mayIssue, hp] at h; exact ⟨h.2.2, h.1⟩

/-- The words at the PC are those of the row. -/
theorem issuesHere_of_coded {p : Nat} {ws : List Word} {s : State} (h : coded p ws s = true) : issuesHere p ws s = true := by
  simp [issuesHere, h]

/-- The guard of the runner, for an instruction that need not wait. -/
theorem runInstr_may {p : ProcId} {s : State} (hm : mayIssue p.1 s = true) (ws : List Word) (cond : BitVec 3) (legal mem : Bool)
    (body : State → Issue) (hf : mem = true ∨ fetchWaits p.1 s = true → (s.proc p.1).posted = []) :
    runInstr p ws cond legal mem body s = .next ((if isCell p.1 then
      cellIssue p.1 ws cond (legal && (isCell p.1 || decide (cond = 0))) body
      else helmIssue p.1 ws (legal && (isCell p.1 || decide (cond = 0))) body) s) := by
  unfold runInstr happens
  dsimp only
  rw [if_pos]
  rw [hm, Bool.true_and]
  cases hq : (s.proc p.1).posted.isEmpty
  · have hn : ¬ (mem = true ∨ fetchWaits p.1 s = true) := fun h => by simp [hf h] at hq
    simp only [not_or, Bool.not_eq_true] at hn
    simp [hn.1, hn.2]
  · simp

/-- A sequencer's instruction whose words are fetched. -/
theorem cellIssue_eq {p : Nat} {ws : List Word} {s : State} (h : issuesHere p ws s = true) (hw : fetchFails p s = none)
    (hc : fetchParity p s = s) (cond : BitVec 3) (legal : Bool) (body : State → Issue) :
    cellIssue p ws cond legal body s =
      if !(legal && coded p ws s) then seqFault (p - 2) 1 s
      else if condHolds cond (s.proc p).status then cellFinish p ws.length s (body s)
      else s.setPc p (s.pcOf p + BitVec.ofNat 20 ws.length) := by
  simp [cellIssue, hw, h, hc]

/-- A Helm core's instruction whose words are fetched. -/
theorem helmIssue_eq {h : Nat} {ws : List Word} {s : State} (hm : mayIssue h s = true) (hp : isCell h = false)
    (hi : issuesHere h ws s = true) (hq : fetchQuiet h s) (hw : fetchFails h s = none) (hc : fetchParity h s = s) (legal : Bool)
    (body : State → Issue) : helmIssue h ws legal body s = helmDecide h ws.length (legal && coded h ws s) body s := by
  have hn := mayIssue_helm hm hp
  simp [helmIssue, hq hp, hw, hi, hc, hn.1, hn.2]

/-- An instruction that executes comes to its issue; one that raises an exception needs its posted stores done. -/
theorem runForm_finish {x : Form} {s : State} (h : Executes x s) (body : State → Issue)
    (hb : isCell x.proc.1 = true ∨ plainIssue (body s) = true ∨ (s.proc x.proc.1).posted = []) :
    runForm x body s = .next (finish x.proc x.len s (body s)) := by
  have hc := h.condOk
  have hi := issuesHere_of_coded h.coded
  unfold Form.condOk at hc
  unfold runForm
  rw [if_pos h.own, runInstr_may h.may _ _ _ _ _ h.free, h.legal, hc]
  cases hp : isCell x.proc.1
  · have hq := h.noIrq hp
    simp only [hp, Bool.false_eq_true, false_or] at hb
    rw [if_neg Bool.false_ne_true, helmIssue_eq h.may hp hi h.quiet h.fetched h.clean, h.coded]
    unfold helmDecide finish Form.len
    rcases hb with hb | hb <;> simp [hb, hq, hp]
  · rw [if_pos rfl, cellIssue_eq hi h.fetched h.clean, h.coded]
    simp [finish, hp, h.holds hp, Form.len]

/-- An undefined encoding, or an op that no instruction has, raises UNDEF (R114, R129, R132). -/
theorem runForm_undef {x : Form} {s : State} (body : State → Issue) (h : Reached x s)
    (hd : x.defined = false ∨ coded x.proc.1 x.words s = false) : runForm x body s = .next (undefRaised x.proc s) := by
  have key : ∀ legal : Bool, ((legal && (isCell x.proc.1 || decide (x.cond = 0))) && coded x.proc.1 x.words s) = false →
      runInstr x.proc x.words x.cond legal x.mem body s = .next (undefRaised x.proc s) := by
    intro legal hl
    rw [runInstr_may h.may _ _ _ _ _ fun _ => h.stored]
    cases hp : isCell x.proc.1
    · rw [hp] at hl
      rw [if_neg Bool.false_ne_true, helmIssue_eq h.may hp h.here h.quiet h.fetched h.clean, hl]
      simp [helmDecide, h.stored, undefRaised, hp]
    · rw [hp] at hl
      rw [if_pos rfl, cellIssue_eq h.here h.fetched h.clean, hl]
      simp [undefRaised, hp]
  have hs := h.mine
  unfold runForm
  cases ho : x.own
  · rw [ho, Bool.false_or] at hs
    simp only [hs, if_true, Bool.false_eq_true, if_false]
    exact key false rfl
  · rw [if_pos rfl]
    apply key
    rcases hd with hd | hd
    · simp only [Form.defined, Form.condOk, ho, Bool.and_true] at hd
      rw [Bool.and_comm x.legal, hd, Bool.false_and]
    · rw [hd, Bool.and_false]

/-- An instruction of a cell whose condition fails takes its issue cycle, and has no other effect (R115). -/
theorem runForm_skips {x : Form} {s : State} (h : Issues x s) (body : State → Issue) (hp : isCell x.proc.1 = true)
    (hc : condHolds x.cond (s.proc x.proc.1).status = false) :
    runForm x body s = .next (s.setPc x.proc.1 (s.pcOf x.proc.1 + BitVec.ofNat 20 x.len)) := by
  unfold runForm
  rw [if_pos h.own, runInstr_may h.may _ _ _ _ _ h.free, hp, if_pos rfl,
    cellIssue_eq (issuesHere_of_coded h.coded) h.fetched h.clean]
  simp [h.legal, h.coded, hc, Form.len]

theorem finish_next (p : ProcId) (len : Nat) (s t : State) : finish p len s (.next t) = completed p len s t := by
  unfold finish completed resumed cellFinish helmFinish; rfl

theorem finish_goto (p : ProcId) (len : Nat) (s t : State) (pc : Word) : finish p len s (.goto pc t) = resumed p pc s t := by
  unfold finish resumed cellFinish helmFinish; rfl

theorem finish_hold (p : ProcId) (len : Nat) (s t : State) (r : RunCond) : finish p len s (.hold r t) = waits p r s t := by
  unfold finish waits cellFinish helmFinish; rfl

theorem finish_stack (p : ProcId) (len : Nat) (s : State) : finish p len s .stack = stackRaised p s := by
  unfold finish stackRaised cellFinish helmFinish; rfl

/-- A form that executes and whose body goes on answers the state after the instruction. -/
theorem run_next {x : Form} {s t : State} (h : Executes x s) (body : State → Issue) (hb : body s = .next t) :
    runForm x body s = .next (completed x.proc x.len s t) := by
  rw [runForm_finish h body (.inr (.inl (by rw [hb]; rfl))), hb, finish_next]

/-- A register write that the stack limit does not stop. -/
theorem putG_next {p : ProcId} {rd v s} (k : State → Issue) (h : mayHold p rd v s) : putG p.1 rd v k s = k (s.setG p.1 rd v) := by
  unfold putG; unfold mayHold at h
  split
  · next hh => simp at hh; exact absurd hh h
  · rfl

theorem vset_self {α : Type} {n : Nat} (d : α) (v : Vector α n) (i : Nat) : vset v i (vget d v i) = v := by
  unfold vset vget
  by_cases h : i < n
  · ext j hj
    simp only [Vector.getElem_setIfInBounds]
    split
    · next e => subst e; simp [h]
    · rfl
  · ext j hj
    simp only [Vector.getElem_setIfInBounds]
    split
    · omega
    · rfl

/-- A flag computation that changes nothing leaves the state. -/
theorem setFlags_id (p : Nat) (s : State) : setFlags p (fun st => st) s = s := by
  unfold setFlags; split
  · exact congrArg (fun v => { s with procs := v }) (vset_self _ _ _)
  · rfl

end Sys2Proof.Machine
end

