-- ==== Sys2Proof/Laws/PerInstr.lean ====
section
/-! SUPPORT. The family Dialect: what well-formedness says of each command (R102, R103, R113, R114, R130), one lemma per
constructor of Instr. -/
namespace Sys2Proof.Laws.Dialect

open Sys2Proof.Machine

/-- A well-formed instruction has its row's own sub value and defined fields, and always executes (condition AL) in the
Helm dialect; it has one word or two. -/
def Statement (i : Instr) : Prop :=
  ∀ x, form i = some x → wellFormed i = true →
    x.own = true ∧ x.legal = true ∧ (isCell x.proc.1 = false → x.cond = 0) ∧ (x.len = 1 ∨ x.len = 2)

/-- What a defined form says. -/
theorem of_defined (i : Instr) (x : Form) (h : form i = some x) (hl : x.len = 1 ∨ x.len = 2) : Statement i := by
  intro y hy hw
  rw [h] at hy
  obtain rfl := Option.some.inj hy
  simp only [wellFormed, h, Form.defined, Form.condOk, Bool.and_eq_true, Bool.or_eq_true, decide_eq_true_eq] at hw
  obtain ⟨⟨hc, ho⟩, hg⟩ := hw
  exact ⟨ho, hg, fun hn => by simpa [hn] using hc, hl⟩

/-- A command that is no instruction has no form. -/
theorem of_none (i : Instr) (h : form i = none) : Statement i := fun x hx => by simp [h] at hx

theorem mov (p : ProcId) (f : ShortF) : Statement (.mov p f) := of_defined _ _ rfl (.inl rfl)
theorem add (p : ProcId) (f : ShortF) : Statement (.add p f) := of_defined _ _ rfl (.inl rfl)
theorem sub (p : ProcId) (f : ShortF) : Statement (.sub p f) := of_defined _ _ rfl (.inl rfl)
theorem and (p : ProcId) (f : ShortF) : Statement (.and p f) := of_defined _ _ rfl (.inl rfl)
theorem or (p : ProcId) (f : ShortF) : Statement (.or p f) := of_defined _ _ rfl (.inl rfl)
theorem xor (p : ProcId) (f : ShortF) : Statement (.xor p f) := of_defined _ _ rfl (.inl rfl)
theorem not (p : ProcId) (f : ShortF) : Statement (.not p f) := of_defined _ _ rfl (.inl rfl)
theorem neg (p : ProcId) (f : ShortF) : Statement (.neg p f) := of_defined _ _ rfl (.inl rfl)
theorem addi (p : ProcId) (f : ShortF) : Statement (.addi p f) := of_defined _ _ rfl (.inl rfl)
theorem subi (p : ProcId) (f : ShortF) : Statement (.subi p f) := of_defined _ _ rfl (.inl rfl)
theorem shl (p : ProcId) (f : ShortF) : Statement (.shl p f) := of_defined _ _ rfl (.inl rfl)
theorem shr (p : ProcId) (f : ShortF) : Statement (.shr p f) := of_defined _ _ rfl (.inl rfl)
theorem sar (p : ProcId) (f : ShortF) : Statement (.sar p f) := of_defined _ _ rfl (.inl rfl)
theorem cmp (p : ProcId) (f : ShortF) : Statement (.cmp p f) := of_defined _ _ rfl (.inl rfl)
theorem tst (p : ProcId) (f : ShortF) : Statement (.tst p f) := of_defined _ _ rfl (.inl rfl)
theorem ld (p : ProcId) (f : ShortF) : Statement (.ld p f) := of_defined _ _ rfl (.inl rfl)
theorem st (p : ProcId) (f : ShortF) : Statement (.st p f) := of_defined _ _ rfl (.inl rfl)
theorem ldUpdate (p : ProcId) (f : ShortF) : Statement (.ldUpdate p f) := of_defined _ _ rfl (.inl rfl)
theorem stUpdate (p : ProcId) (f : ShortF) : Statement (.stUpdate p f) := of_defined _ _ rfl (.inl rfl)
theorem mul (p : ProcId) (f : ShortF) : Statement (.mul p f) := of_defined _ _ rfl (.inl rfl)
theorem mulu (p : ProcId) (f : ShortF) : Statement (.mulu p f) := of_defined _ _ rfl (.inl rfl)
theorem mac (p : ProcId) (f : ShortF) : Statement (.mac p f) := of_defined _ _ rfl (.inl rfl)
theorem div (p : ProcId) (f : ShortF) : Statement (.div p f) := of_defined _ _ rfl (.inl rfl)
theorem divu (p : ProcId) (f : ShortF) : Statement (.divu p f) := of_defined _ _ rfl (.inl rfl)
theorem mfs (p : ProcId) (f : ShortF) : Statement (.mfs p f) := of_defined _ _ rfl (.inl rfl)
theorem mts (p : ProcId) (f : ShortF) : Statement (.mts p f) := of_defined _ _ rfl (.inl rfl)
theorem jr (p : ProcId) (f : ShortF) : Statement (.jr p f) := of_defined _ _ rfl (.inl rfl)
theorem callr (p : ProcId) (f : ShortF) : Statement (.callr p f) := of_defined _ _ rfl (.inl rfl)
theorem ret (p : ProcId) (f : ShortF) : Statement (.ret p f) := of_defined _ _ rfl (.inl rfl)
theorem reti (p : ProcId) (f : ShortF) : Statement (.reti p f) := of_defined _ _ rfl (.inl rfl)
theorem nop (p : ProcId) (f : ShortF) : Statement (.nop p f) := of_defined _ _ rfl (.inl rfl)
theorem wfe (p : ProcId) (f : ShortF) : Statement (.wfe p f) := of_defined _ _ rfl (.inl rfl)
theorem sev (p : ProcId) (f : ShortF) : Statement (.sev p f) := of_defined _ _ rfl (.inl rfl)
theorem waitt (p : ProcId) (f : ShortF) : Statement (.waitt p f) := of_defined _ _ rfl (.inl rfl)
theorem trap (p : ProcId) (f : ShortF) : Statement (.trap p f) := of_defined _ _ rfl (.inl rfl)
theorem add3 (p : ProcId) (f : LongF) : Statement (.add3 p f) := of_defined _ _ rfl (.inr rfl)
theorem sub3 (p : ProcId) (f : LongF) : Statement (.sub3 p f) := of_defined _ _ rfl (.inr rfl)
theorem and3 (p : ProcId) (f : LongF) : Statement (.and3 p f) := of_defined _ _ rfl (.inr rfl)
theorem or3 (p : ProcId) (f : LongF) : Statement (.or3 p f) := of_defined _ _ rfl (.inr rfl)
theorem xor3 (p : ProcId) (f : LongF) : Statement (.xor3 p f) := of_defined _ _ rfl (.inr rfl)
theorem shl3 (p : ProcId) (f : LongF) : Statement (.shl3 p f) := of_defined _ _ rfl (.inr rfl)
theorem shr3 (p : ProcId) (f : LongF) : Statement (.shr3 p f) := of_defined _ _ rfl (.inr rfl)
theorem sar3 (p : ProcId) (f : LongF) : Statement (.sar3 p f) := of_defined _ _ rfl (.inr rfl)
theorem addi16 (p : ProcId) (f : LongF) : Statement (.addi16 p f) := of_defined _ _ rfl (.inr rfl)
theorem andi (p : ProcId) (f : LongF) : Statement (.andi p f) := of_defined _ _ rfl (.inr rfl)
theorem ori (p : ProcId) (f : LongF) : Statement (.ori p f) := of_defined _ _ rfl (.inr rfl)
theorem xori (p : ProcId) (f : LongF) : Statement (.xori p f) := of_defined _ _ rfl (.inr rfl)
theorem shli (p : ProcId) (f : LongF) : Statement (.shli p f) := of_defined _ _ rfl (.inr rfl)
theorem shri (p : ProcId) (f : LongF) : Statement (.shri p f) := of_defined _ _ rfl (.inr rfl)
theorem sari (p : ProcId) (f : LongF) : Statement (.sari p f) := of_defined _ _ rfl (.inr rfl)
theorem cmpi (p : ProcId) (f : LongF) : Statement (.cmpi p f) := of_defined _ _ rfl (.inr rfl)
theorem ldi (p : ProcId) (f : LongF) : Statement (.ldi p f) := of_defined _ _ rfl (.inr rfl)
theorem seq (p : ProcId) (f : LongF) : Statement (.seq p f) := of_defined _ _ rfl (.inr rfl)
theorem sne (p : ProcId) (f : LongF) : Statement (.sne p f) := of_defined _ _ rfl (.inr rfl)
theorem slt (p : ProcId) (f : LongF) : Statement (.slt p f) := of_defined _ _ rfl (.inr rfl)
theorem sltu (p : ProcId) (f : LongF) : Statement (.sltu p f) := of_defined _ _ rfl (.inr rfl)
theorem carry (p : ProcId) (f : LongF) : Statement (.carry p f) := of_defined _ _ rfl (.inr rfl)
theorem snegov (p : ProcId) (f : LongF) : Statement (.snegov p f) := of_defined _ _ rfl (.inr rfl)
theorem ld20 (p : ProcId) (f : LongF) : Statement (.ld20 p f) := of_defined _ _ rfl (.inr rfl)
theorem st20 (p : ProcId) (f : LongF) : Statement (.st20 p f) := of_defined _ _ rfl (.inr rfl)
theorem ldp (p : ProcId) (f : LongF) : Statement (.ldp p f) := of_defined _ _ rfl (.inr rfl)
theorem stp (p : ProcId) (f : LongF) : Statement (.stp p f) := of_defined _ _ rfl (.inr rfl)
theorem ldx (p : ProcId) (f : LongF) : Statement (.ldx p f) := of_defined _ _ rfl (.inr rfl)
theorem stx (p : ProcId) (f : LongF) : Statement (.stx p f) := of_defined _ _ rfl (.inr rfl)
theorem ldpx (p : ProcId) (f : LongF) : Statement (.ldpx p f) := of_defined _ _ rfl (.inr rfl)
theorem stpx (p : ProcId) (f : LongF) : Statement (.stpx p f) := of_defined _ _ rfl (.inr rfl)
theorem jmp (p : ProcId) (f : LongF) : Statement (.jmp p f) := of_defined _ _ rfl (.inr rfl)
theorem call (p : ProcId) (f : LongF) : Statement (.call p f) := of_defined _ _ rfl (.inr rfl)
theorem bz (p : ProcId) (f : LongF) : Statement (.bz p f) := of_defined _ _ rfl (.inr rfl)
theorem bnz (p : ProcId) (f : LongF) : Statement (.bnz p f) := of_defined _ _ rfl (.inr rfl)
theorem multiplyResultWrite (p : ProcId) : Statement (.multiplyResultWrite p) := of_none _ rfl
theorem divideResultWrite (p : ProcId) : Statement (.divideResultWrite p) := of_none _ rfl
theorem postedStoreComplete (p : ProcId) : Statement (.postedStoreComplete p) := of_none _ rfl
theorem wfeComplete (p : ProcId) : Statement (.wfeComplete p) := of_none _ rfl
theorem waittComplete (p : ProcId) : Statement (.waittComplete p) := of_none _ rfl
theorem irqEntry (h : HelmId) : Statement (.irqEntry h) := of_none _ rfl
theorem nmiEntry (h : HelmId) : Statement (.nmiEntry h) := of_none _ rfl
theorem busGrant : Statement (.busGrant) := of_none _ rfl
theorem registerWrite (q : Req) (a v : Word) : Statement (.registerWrite q a v) := of_none _ rfl
theorem mtLowRead (r : MtReader) : Statement (.mtLowRead r) := of_none _ rfl
theorem counterLowRead (q : Req) (i : Fin 320) : Statement (.counterLowRead q i) := of_none _ rfl
theorem refclkQualified : Statement (.refclkQualified) := of_none _ rfl
theorem qualificationFail : Statement (.qualificationFail) := of_none _ rfl
theorem lock : Statement (.lock) := of_none _ rfl
theorem lockFail : Statement (.lockFail) := of_none _ rfl
theorem referenceLoss : Statement (.referenceLoss) := of_none _ rfl
theorem referenceLossSlateHold : Statement (.referenceLossSlateHold) := of_none _ rfl
theorem clkSwitchWrite (q : Req) (v : Word) : Statement (.clkSwitchWrite q v) := of_none _ rfl
theorem clockSwitchComplete : Statement (.clockSwitchComplete) := of_none _ rfl
theorem divisorChange : Statement (.divisorChange) := of_none _ rfl
theorem mtHandover : Statement (.mtHandover) := of_none _ rfl
theorem fabricCounterLoad : Statement (.fabricCounterLoad) := of_none _ rfl
theorem brownOut : Statement (.brownOut) := of_none _ rfl
theorem stateEntry (c : EntryCause) : Statement (.stateEntry c) := of_none _ rfl
theorem entryCellsStopped : Statement (.entryCellsStopped) := of_none _ rfl
theorem handshakeAsk (delays : Bool) : Statement (.handshakeAsk delays) := of_none _ rfl
theorem handshakeTimeout : Statement (.handshakeTimeout) := of_none _ rfl
theorem standingOrderEvaluation : Statement (.standingOrderEvaluation) := of_none _ rfl
theorem voteSet (q : Req) (v : Word) : Statement (.voteSet q v) := of_none _ rfl
theorem voteWithdraw (q : Req) (v : Word) : Statement (.voteWithdraw q v) := of_none _ rfl
theorem domainRetentionEntry (d : DomId) : Statement (.domainRetentionEntry d) := of_none _ rfl
theorem domainReady (d : DomId) : Statement (.domainReady d) := of_none _ rfl
theorem plChange (q : Req) (v : Word) : Statement (.plChange q v) := of_none _ rfl
theorem plChangeComplete : Statement (.plChangeComplete) := of_none _ rfl
theorem wakeEvent (src : BitVec 5) : Statement (.wakeEvent src) := of_none _ rfl
theorem wakeStep : Statement (.wakeStep) := of_none _ rfl
theorem wakeComplete : Statement (.wakeComplete) := of_none _ rfl
theorem padHoldRelease (q : Req) (v : Word) : Statement (.padHoldRelease q v) := of_none _ rfl
theorem padWrite (q : Req) (p : Fin 285) (v : Word) : Statement (.padWrite q p v) := of_none _ rfl
theorem busClaim (q : Req) (v : Word) : Statement (.busClaim q v) := of_none _ rfl
theorem busRelease (q : Req) (v : Word) : Statement (.busRelease q v) := of_none _ rfl
theorem busQuery (q : Req) (v : Word) : Statement (.busQuery q v) := of_none _ rfl
theorem conversionEnd (k : Fin 16) (code : Int) : Statement (.conversionEnd k code) := of_none _ rfl
theorem rippleLockTimeout (m : Fin 8) : Statement (.rippleLockTimeout m) := of_none _ rfl
theorem fastPathComplete (c : CellId) : Statement (.fastPathComplete c) := of_none _ rfl
theorem forwardJobStart (t : Turret) : Statement (.forwardJobStart t) := of_none _ rfl
theorem forwardJobEnd (t : Turret) : Statement (.forwardJobEnd t) := of_none _ rfl
theorem inverseJobStart (t : Turret) : Statement (.inverseJobStart t) := of_none _ rfl
theorem inverseJobEnd (t : Turret) : Statement (.inverseJobEnd t) := of_none _ rfl
theorem cellEnable (q : Req) (c : CellId) : Statement (.cellEnable q c) := of_none _ rfl
theorem cellDisable (q : Req) (c : CellId) : Statement (.cellDisable q c) := of_none _ rfl
theorem cellStandby (q : Req) (c : CellId) (v : Word) : Statement (.cellStandby q c v) := of_none _ rfl
theorem periodBoundary (w : ChanId) : Statement (.periodBoundary w) := of_none _ rfl
theorem commit (q : Req) (c : CellId) : Statement (.commit q c) := of_none _ rfl
theorem commitAck (q : Req) (c : CellId) : Statement (.commitAck q c) := of_none _ rfl
theorem commitCheckComplete (c : CellId) : Statement (.commitCheckComplete c) := of_none _ rfl
theorem bankCopyComplete (c : CellId) : Statement (.bankCopyComplete c) := of_none _ rfl
theorem stagingWrite (q : Req) (c : CellId) (w : Fin 128) (v : Word) : Statement (.stagingWrite q c w v) := of_none _ rfl
theorem sequencerStart (q : Req) (c : CellId) : Statement (.sequencerStart q c) := of_none _ rfl
theorem sequencerStop (q : Req) (c : CellId) : Statement (.sequencerStop q c) := of_none _ rfl
theorem sequencerHalt (c : CellId) : Statement (.sequencerHalt c) := of_none _ rfl
theorem edgeFire (w : ChanId) : Statement (.edgeFire w) := of_none _ rfl
theorem deadTimeEnd (w : ChanId) (high : Bool) : Statement (.deadTimeEnd w high) := of_none _ rfl
theorem minPulseEnd (w : ChanId) : Statement (.minPulseEnd w) := of_none _ rfl
theorem swdutyWrite (q : Req) (w : ChanId) (v : Word) : Statement (.swdutyWrite q w v) := of_none _ rfl
theorem channelEnable (q : Req) (w : ChanId) : Statement (.channelEnable q w) := of_none _ rfl
theorem channelDisable (q : Req) (w : ChanId) : Statement (.channelDisable q w) := of_none _ rfl
theorem calibrationSettled (w : ChanId) : Statement (.calibrationSettled w) := of_none _ rfl
theorem adcTrigger (t : Turret) (e : Fin 16) : Statement (.adcTrigger t e) := of_none _ rfl
theorem adcSoftwareTrigger (q : Req) (t : Turret) (v : Word) : Statement (.adcSoftwareTrigger q t v) := of_none _ rfl
theorem samplingInstant (k : Fin 16) : Statement (.samplingInstant k) := of_none _ rfl
theorem referenceSettled : Statement (.referenceSettled) := of_none _ rfl
theorem comparatorChange (k : Fin 64) (level : Nat) : Statement (.comparatorChange k level) := of_none _ rfl
theorem blankingEnd (k : Fin 64) : Statement (.blankingEnd k) := of_none _ rfl
theorem protTripClear (q : Req) (v : Word) : Statement (.protTripClear q v) := of_none _ rfl
theorem protEntryEnable (q : Req) (i : Fin 16) (v : Word) : Statement (.protEntryEnable q i v) := of_none _ rfl
theorem protLock (q : Req) (v : Word) : Statement (.protLock q v) := of_none _ rfl
theorem positionEdge (n : Fin 3) (lv : BitVec 6) : Statement (.positionEdge n lv) := of_none _ rfl
theorem speedTimeout (n : Fin 3) : Statement (.speedTimeout n) := of_none _ rfl
theorem ssiFrameStart (n : Fin 3) (qnb : Bool) : Statement (.ssiFrameStart n qnb) := of_none _ rfl
theorem ssiFrameEnd (n : Fin 3) (data : Word) : Statement (.ssiFrameEnd n data) := of_none _ rfl
theorem turnsClear (q : Req) (n : Fin 3) (v : Word) : Statement (.turnsClear q n v) := of_none _ rfl
theorem posCtrlWrite (q : Req) (n : Fin 3) (v : Word) : Statement (.posCtrlWrite q n v) := of_none _ rfl
theorem emuStep (m : Fin 2) : Statement (.emuStep m) := of_none _ rfl
theorem policyTick (x : PolicyReadings) : Statement (.policyTick x) := of_none _ rfl
theorem dcClassify (mean sag1 sag2 : Nat) : Statement (.dcClassify mean sag1 sag2) := of_none _ rfl
theorem dcInputRemoved : Statement (.dcInputRemoved) := of_none _ rfl
theorem mpptStep (mv : Nat) : Statement (.mpptStep mv) := of_none _ rfl
theorem openCircuitMeasure (mv : Option Nat) : Statement (.openCircuitMeasure mv) := of_none _ rfl
theorem generatorClimb (power : Nat) : Statement (.generatorClimb power) := of_none _ rfl
theorem generatorSpeedLost : Statement (.generatorSpeedLost) := of_none _ rfl
theorem batteryPoll (r : Option PackReading) : Statement (.batteryPoll r) := of_none _ rfl
theorem chargeDoneTimeout : Statement (.chargeDoneTimeout) := of_none _ rfl
theorem preChargeTimeout : Statement (.preChargeTimeout) := of_none _ rfl
theorem socReset (soc : Nat) : Statement (.socReset soc) := of_none _ rfl
theorem pdAttach (port : Fin 3) (x : Attach) : Statement (.pdAttach port x) := of_none _ rfl
theorem pdDetach (port : Fin 3) : Statement (.pdDetach port) := of_none _ rfl
theorem sourceCapabilities (port : Fin 3) (offers : List Pdo) : Statement (.sourceCapabilities port offers) := of_none _ rfl
theorem discoverSvids (port : Fin 3) : Statement (.discoverSvids port) := of_none _ rfl
theorem discoverModes (port : Fin 3) : Statement (.discoverModes port) := of_none _ rfl
theorem unsupportedPdMessage (port : Fin 3) : Statement (.unsupportedPdMessage port) := of_none _ rfl
theorem prSwap (port : Fin 3) : Statement (.prSwap port) := of_none _ rfl
theorem drSwap (port : Fin 3) : Statement (.drSwap port) := of_none _ rfl
theorem vconnSwap (port : Fin 3) : Statement (.vconnSwap port) := of_none _ rfl
theorem hardReset (port : Fin 3) : Statement (.hardReset port) := of_none _ rfl
theorem fixTrig (q : Req) : Statement (.fixTrig q) := of_none _ rfl
theorem fixHost (q : Req) : Statement (.fixHost q) := of_none _ rfl
theorem fixPeriodic : Statement (.fixPeriodic) := of_none _ rfl
theorem fixComplete : Statement (.fixComplete) := of_none _ rfl
theorem fixOpen (q : Req) : Statement (.fixOpen q) := of_none _ rfl
theorem fixClose (q : Req) (v : Word) : Statement (.fixClose q v) := of_none _ rfl
theorem logRecordWrite : Statement (.logRecordWrite) := of_none _ rfl
theorem logSwrec (q : Req) (v : Word) : Statement (.logSwrec q v) := of_none _ rfl
theorem traceArm (q : Req) (v : Word) : Statement (.traceArm q v) := of_none _ rfl
theorem traceDisarm (q : Req) (v : Word) : Statement (.traceDisarm q v) := of_none _ rfl
theorem traceSoftwareTrigger (q : Req) : Statement (.traceSoftwareTrigger q) := of_none _ rfl
theorem traceSample : Statement (.traceSample) := of_none _ rfl
theorem sxtSubmitInteractive (q : Req) (a : Word) : Statement (.sxtSubmitInteractive q a) := of_none _ rfl
theorem sxtSubmitBulk (q : Req) (a : Word) : Statement (.sxtSubmitBulk q a) := of_none _ rfl
theorem sxtDoneRead (q : Req) (bulk : Bool) : Statement (.sxtDoneRead q bulk) := of_none _ rfl
theorem sxtAdd : Statement (.sxtAdd) := of_none _ rfl
theorem sxtSub : Statement (.sxtSub) := of_none _ rfl
theorem sxtMul : Statement (.sxtMul) := of_none _ rfl
theorem sxtDiv : Statement (.sxtDiv) := of_none _ rfl
theorem sxtRem : Statement (.sxtRem) := of_none _ rfl
theorem sxtSqrt : Statement (.sxtSqrt) := of_none _ rfl
theorem sxtSqr : Statement (.sxtSqr) := of_none _ rfl
theorem sxtPow : Statement (.sxtPow) := of_none _ rfl
theorem sxtExp : Statement (.sxtExp) := of_none _ rfl
theorem sxtLn : Statement (.sxtLn) := of_none _ rfl
theorem sxtExp10 : Statement (.sxtExp10) := of_none _ rfl
theorem sxtLog10 : Statement (.sxtLog10) := of_none _ rfl
theorem sxtSin : Statement (.sxtSin) := of_none _ rfl
theorem sxtCos : Statement (.sxtCos) := of_none _ rfl
theorem sxtTan : Statement (.sxtTan) := of_none _ rfl
theorem sxtAsin : Statement (.sxtAsin) := of_none _ rfl
theorem sxtAcos : Statement (.sxtAcos) := of_none _ rfl
theorem sxtAtan : Statement (.sxtAtan) := of_none _ rfl
theorem sxtAtan2 : Statement (.sxtAtan2) := of_none _ rfl
theorem sxtSinh : Statement (.sxtSinh) := of_none _ rfl
theorem sxtCosh : Statement (.sxtCosh) := of_none _ rfl
theorem sxtTanh : Statement (.sxtTanh) := of_none _ rfl
theorem sxtAsinh : Statement (.sxtAsinh) := of_none _ rfl
theorem sxtAcosh : Statement (.sxtAcosh) := of_none _ rfl
theorem sxtAtanh : Statement (.sxtAtanh) := of_none _ rfl
theorem sxtFact : Statement (.sxtFact) := of_none _ rfl
theorem sxtNcr : Statement (.sxtNcr) := of_none _ rfl
theorem sxtNpr : Statement (.sxtNpr) := of_none _ rfl
theorem fromInt40 : Statement (.fromInt40) := of_none _ rfl
theorem toInt40 : Statement (.toInt40) := of_none _ rfl
theorem integral : Statement (.integral) := of_none _ rfl
theorem toRad : Statement (.toRad) := of_none _ rfl
theorem fromRad : Statement (.fromRad) := of_none _ rfl
theorem statClr : Statement (.statClr) := of_none _ rfl
theorem statAdd : Statement (.statAdd) := of_none _ rfl
theorem statDel : Statement (.statDel) := of_none _ rfl
theorem statMean : Statement (.statMean) := of_none _ rfl
theorem statSdev : Statement (.statSdev) := of_none _ rfl
theorem statPsdev : Statement (.statPsdev) := of_none _ rfl
theorem statLinreg : Statement (.statLinreg) := of_none _ rfl
theorem statEstY : Statement (.statEstY) := of_none _ rfl
theorem statEstX : Statement (.statEstX) := of_none _ rfl
theorem badop : Statement (.badop) := of_none _ rfl
theorem microNano (x : MicroFetch) (nano : BitVec 128) (nanoOk : Bool) : Statement (.microNano x nano nanoOk) := of_none _ rfl
theorem microJump (x : MicroFetch) : Statement (.microJump x) := of_none _ rfl
theorem microCall (x : MicroFetch) : Statement (.microCall x) := of_none _ rfl
theorem microReturn (x : MicroFetch) : Statement (.microReturn x) := of_none _ rfl
theorem microDispatch (x : MicroFetch) (entry : BitVec 13) (entryOk : Bool) : Statement (.microDispatch x entry entryOk) := of_none _ rfl
theorem microBranch (x : MicroFetch) : Statement (.microBranch x) := of_none _ rfl
theorem microLit (x : MicroFetch) : Statement (.microLit x) := of_none _ rfl
theorem microSafe (x : MicroFetch) : Statement (.microSafe x) := of_none _ rfl
theorem microEnd (x : MicroFetch) : Statement (.microEnd x) := of_none _ rfl
theorem horizontalWord (a : BitVec 8) (w : BitVec 128) (ok : Bool) : Statement (.horizontalWord a w ok) := of_none _ rfl
theorem bulkResume (bad : Option (BitVec 8)) : Statement (.bulkResume bad) := of_none _ rfl
theorem mchkReread (ok : Bool) : Statement (.mchkReread ok) := of_none _ rfl
theorem sxtSelftest (pass : Bool) (stage : BitVec 2) : Statement (.sxtSelftest pass stage) := of_none _ rfl
theorem patchHold (q : Req) : Statement (.patchHold q) := of_none _ rfl
theorem patchRelease (q : Req) : Statement (.patchRelease q) := of_none _ rfl
theorem patchData (q : Req) (v : Word) : Statement (.patchData q v) := of_none _ rfl
theorem calcClear (q : Req) : Statement (.calcClear q) := of_none _ rfl
theorem calcDigit (n : Fin 10) : Statement (.calcDigit n) := of_none _ rfl
theorem calcDecimalPoint : Statement (.calcDecimalPoint) := of_none _ rfl
theorem calcExp : Statement (.calcExp) := of_none _ rfl
theorem calcSign : Statement (.calcSign) := of_none _ rfl
theorem calcDel : Statement (.calcDel) := of_none _ rfl
theorem calcC : Statement (.calcC) := of_none _ rfl
theorem calcAc : Statement (.calcAc) := of_none _ rfl
theorem calcPlus : Statement (.calcPlus) := of_none _ rfl
theorem calcMinus : Statement (.calcMinus) := of_none _ rfl
theorem calcTimes : Statement (.calcTimes) := of_none _ rfl
theorem calcDivide : Statement (.calcDivide) := of_none _ rfl
theorem calcYPowX : Statement (.calcYPowX) := of_none _ rfl
theorem calcNcr : Statement (.calcNcr) := of_none _ rfl
theorem calcNpr : Statement (.calcNpr) := of_none _ rfl
theorem calcOpenParen : Statement (.calcOpenParen) := of_none _ rfl
theorem calcCloseParen : Statement (.calcCloseParen) := of_none _ rfl
theorem calcEquals : Statement (.calcEquals) := of_none _ rfl
theorem calcAns : Statement (.calcAns) := of_none _ rfl
theorem calcSto : Statement (.calcSto) := of_none _ rfl
theorem calcRcl : Statement (.calcRcl) := of_none _ rfl
theorem calcMPlus : Statement (.calcMPlus) := of_none _ rfl
theorem calc2nd : Statement (.calc2nd) := of_none _ rfl
theorem calcUnary (op : BitVec 8) : Statement (.calcUnary op) := of_none _ rfl
theorem calcSigmaPlus : Statement (.calcSigmaPlus) := of_none _ rfl
theorem calcSigmaMinus : Statement (.calcSigmaMinus) := of_none _ rfl
theorem calcXySeparator : Statement (.calcXySeparator) := of_none _ rfl
theorem calcMean : Statement (.calcMean) := of_none _ rfl
theorem calcSdev : Statement (.calcSdev) := of_none _ rfl
theorem calcPsdev : Statement (.calcPsdev) := of_none _ rfl
theorem calcRegression : Statement (.calcRegression) := of_none _ rfl
theorem calcYHat : Statement (.calcYHat) := of_none _ rfl
theorem calcXHat : Statement (.calcXHat) := of_none _ rfl
theorem calcClearStats : Statement (.calcClearStats) := of_none _ rfl
theorem calcAngleUnit : Statement (.calcAngleUnit) := of_none _ rfl
theorem calcHistoryBack : Statement (.calcHistoryBack) := of_none _ rfl
theorem calcHistoryForward : Statement (.calcHistoryForward) := of_none _ rfl
theorem calcScroll : Statement (.calcScroll) := of_none _ rfl
theorem calcBase : Statement (.calcBase) := of_none _ rfl
theorem calcReciprocal : Statement (.calcReciprocal) := of_none _ rfl
theorem scanStart : Statement (.scanStart) := of_none _ rfl
theorem scanEnd (raw : BitVec 144) : Statement (.scanEnd raw) := of_none _ rfl
theorem unlockTimeout : Statement (.unlockTimeout) := of_none _ rfl
theorem keyFifoRead (host : Bool) (q : Req) : Statement (.keyFifoRead host q) := of_none _ rfl
theorem lockSet (host : Bool) (q : Req) (v : Word) : Statement (.lockSet host q v) := of_none _ rfl
theorem cupolaFrame : Statement (.cupolaFrame) := of_none _ rfl
theorem pumpOkChange (ok : Bool) : Statement (.pumpOkChange ok) := of_none _ rfl
theorem hostWrite (c : BitVec 8) (v : BitVec 24) : Statement (.hostWrite c v) := of_none _ rfl
theorem hostRead (g : HostGroup) : Statement (.hostRead g) := of_none _ rfl
theorem frameAbort : Statement (.frameAbort) := of_none _ rfl
theorem txDataWrite (v : Word) : Statement (.txDataWrite v) := of_none _ rfl
theorem rxDataRead : Statement (.rxDataRead) := of_none _ rfl
theorem txFlush : Statement (.txFlush) := of_none _ rfl
theorem rxFlush : Statement (.rxFlush) := of_none _ rfl
theorem ring (v : Word) : Statement (.ring v) := of_none _ rfl
theorem hostifTxRead (q : Req) : Statement (.hostifTxRead q) := of_none _ rfl
theorem hostifRxWrite (q : Req) : Statement (.hostifRxWrite q) := of_none _ rfl
theorem dmsgWrite (q : Req) (v : Word) : Statement (.dmsgWrite q v) := of_none _ rfl
theorem dmaStart (q : Req) (v : Word) : Statement (.dmaStart q v) := of_none _ rfl
theorem hello (st : Stream) : Statement (.hello st) := of_none _ rfl
theorem read (st : Stream) : Statement (.read st) := of_none _ rfl
theorem write (st : Stream) : Statement (.write st) := of_none _ rfl
theorem claim (st : Stream) : Statement (.claim st) := of_none _ rfl
theorem release (st : Stream) : Statement (.release st) := of_none _ rfl
theorem state (st : Stream) : Statement (.state st) := of_none _ rfl
theorem protQuery (st : Stream) : Statement (.protQuery st) := of_none _ rfl
theorem batteryQuery (st : Stream) : Statement (.batteryQuery st) := of_none _ rfl
theorem imageInfo (st : Stream) : Statement (.imageInfo st) := of_none _ rfl
theorem resume (st : Stream) : Statement (.resume st) := of_none _ rfl
theorem keyConfig (st : Stream) : Statement (.keyConfig st) := of_none _ rfl
theorem cellLoad (st : Stream) : Statement (.cellLoad st) := of_none _ rfl
theorem cellCommit (st : Stream) : Statement (.cellCommit st) := of_none _ rfl
theorem fix (st : Stream) : Statement (.fix st) := of_none _ rfl
theorem fixRead (st : Stream) : Statement (.fixRead st) := of_none _ rfl
theorem logArm (st : Stream) : Statement (.logArm st) := of_none _ rfl
theorem logRead (st : Stream) : Statement (.logRead st) := of_none _ rfl
theorem standingOrder (st : Stream) : Statement (.standingOrder st) := of_none _ rfl
theorem voteQuery (st : Stream) : Statement (.voteQuery st) := of_none _ rfl
theorem policySet (st : Stream) : Statement (.policySet st) := of_none _ rfl
theorem policyQuery (st : Stream) : Statement (.policyQuery st) := of_none _ rfl
theorem sxtEval (st : Stream) : Statement (.sxtEval st) := of_none _ rfl
theorem sxtResult (st : Stream) : Statement (.sxtResult st) := of_none _ rfl
theorem moduleList (st : Stream) : Statement (.moduleList st) := of_none _ rfl
theorem moduleQuery (st : Stream) : Statement (.moduleQuery st) := of_none _ rfl
theorem almanacSave (st : Stream) : Statement (.almanacSave st) := of_none _ rfl
theorem almanacLoad (st : Stream) : Statement (.almanacLoad st) := of_none _ rfl
theorem pdStatus (st : Stream) : Statement (.pdStatus st) := of_none _ rfl
theorem pdRequest (st : Stream) (accepted : Bool) : Statement (.pdRequest st accepted) := of_none _ rfl
theorem presenceAccepted (n : Slot) : Statement (.presenceAccepted n) := of_none _ rfl
theorem absenceAccepted (n : Slot) : Statement (.absenceAccepted n) := of_none _ rfl
theorem tlPenWrite (q : Req) (v : Word) : Statement (.tlPenWrite q v) := of_none _ rfl
theorem readDesc (addr : BitVec 6) (off cnt : Word) : Statement (.readDesc addr off cnt) := of_none _ rfl
theorem setVersion (addr : BitVec 6) (v : Word) : Statement (.setVersion addr v) := of_none _ rfl
theorem setAddress (addr : BitVec 6) (n : Word) : Statement (.setAddress addr n) := of_none _ rfl
theorem tlRead (addr : BitVec 6) (off cnt : Word) : Statement (.tlRead addr off cnt) := of_none _ rfl
theorem tlWrite (addr : BitVec 6) (off : Word) (ws : List Word) : Statement (.tlWrite addr off ws) := of_none _ rfl
theorem moduleStatus (addr : BitVec 6) : Statement (.moduleStatus addr) := of_none _ rfl
theorem tlAnswer (hdr : Word) (ws : List Word) (good : Bool) : Statement (.tlAnswer hdr ws good) := of_none _ rfl
theorem tlTimeout : Statement (.tlTimeout) := of_none _ rfl
theorem tlRetry : Statement (.tlRetry) := of_none _ rfl
theorem slotDiscovery (n : Slot) : Statement (.slotDiscovery n) := of_none _ rfl
theorem descriptorPoll : Statement (.descriptorPoll) := of_none _ rfl
theorem slotRelease (n : Slot) : Statement (.slotRelease n) := of_none _ rfl
theorem coldReset : Statement (.coldReset) := of_none _ rfl
theorem pinReset : Statement (.pinReset) := of_none _ rfl
theorem lockupReset : Statement (.lockupReset) := of_none _ rfl
theorem sysreset : Statement (.sysreset) := of_none _ rfl
theorem softReset (q : Req) (v : Word) : Statement (.softReset q v) := of_none _ rfl
theorem resetRelease : Statement (.resetRelease) := of_none _ rfl
theorem bootSequence : Statement (.bootSequence) := of_none _ rfl
theorem flashContainerRead (kind : Bool) (ws : List Word) : Statement (.flashContainerRead kind ws) := of_none _ rfl
theorem imageHandover : Statement (.imageHandover) := of_none _ rfl
theorem otpAddrWrite (q : Req) (v : Word) : Statement (.otpAddrWrite q v) := of_none _ rfl
theorem otpProg (a : Fin 256) (v : BitVec 16) : Statement (.otpProg a v) := of_none _ rfl
theorem powerOff : Statement (.powerOff) := of_none _ rfl
theorem vdda33Crossing (above : Bool) : Statement (.vdda33Crossing above) := of_none _ rfl
theorem unsupportedPacket (st : Stream) : Statement (.unsupportedPacket st) := of_none _ rfl
theorem lockPacket (st : Stream) : Statement (.lockPacket st) := of_none _ rfl
theorem discoverIdentity (port : Fin 3) (sopPrime : Bool) (epr : Bool) : Statement (.discoverIdentity port sopPrime epr) := of_none _ rfl
theorem partnerRequest (port : Fin 3) (i : Nat) (ma : Nat) (mv : Nat) : Statement (.partnerRequest port i ma mv) := of_none _ rfl

end Sys2Proof.Laws.Dialect
end

