-- ==== Sys2Proof/Laws/Sound.lean ====
section
/-! SUPPORT. Sound q s: the queue and the OTP of s are those of q, and the sparse maps of s are canonical. Every operation
of the model but OTP programming keeps it; here the named updates of State. -/
namespace Sys2Proof.Machine

/-- What no operation changes: the queue of commands and the OTP. -/
structure Kept where
  pending : List Instr
  otp : SMap Nat

/-- The queue and the OTP are those of q, and the state is well formed. -/
structure Sound (q : Kept) (s : State) : Prop where
  pend : s.pending = q.pending
  wf : s.WF
  otp : s.boot.otp = q.otp

/-- The next state of a result, if any, is sound. -/
def SoundR (q : Kept) (r : Result) : Prop := ∀ t, r = .next t → Sound q t

/-- The state of an issue, if any, is sound. -/
def SoundI (q : Kept) : Issue → Prop
  | .next t => Sound q t
  | .goto _ t => Sound q t
  | .hold _ t => Sound q t
  | .trap _ _ t => Sound q t
  | .stack => True
  | .access _ _ => True

variable {q : Kept} {s : State}

/-- Soundness looks at seven fields only. -/
theorem sound_congr {t : State} (h : Sound q s) (h1 : t.pending = s.pending) (h2 : t.mem = s.mem) (h3 : t.reg = s.reg)
    (h4 : t.bank = s.bank) (h5 : t.claims = s.claims) (h6 : t.ctr = s.ctr) (h7 : t.boot.otp = s.boot.otp) : Sound q t :=
  ⟨h1.trans h.pend, ⟨h2 ▸ h.wf.mem, h3 ▸ h.wf.reg, h4 ▸ h.wf.bank, h5 ▸ h.wf.claims, h6 ▸ h.wf.ctr⟩, h7.trans h.otp⟩

theorem sound_wr (h : Sound q s) (a : Nat) (v : Word) : Sound q (s.wr a v) :=
  ⟨h.pend, ⟨h.wf.mem, canonical_update h.wf.reg, h.wf.bank, h.wf.claims, h.wf.ctr⟩, h.otp⟩

theorem sound_wrMem (h : Sound q s) (a : Nat) (v : Word) : Sound q (s.wrMem a v) :=
  ⟨h.pend, ⟨canonical_update h.wf.mem, h.wf.reg, h.wf.bank, h.wf.claims, h.wf.ctr⟩, h.otp⟩

theorem sound_setBankWord (h : Sound q s) (c b w : Nat) (v : Word) : Sound q (s.setBankWord c b w v) :=
  ⟨h.pend, ⟨h.wf.mem, h.wf.reg, canonical_update h.wf.bank, h.wf.claims, h.wf.ctr⟩, h.otp⟩

theorem sound_setOwner (h : Sound q s) (cls idx code : Nat) : Sound q (s.setOwner cls idx code) :=
  ⟨h.pend, ⟨h.wf.mem, h.wf.reg, h.wf.bank, canonical_update h.wf.claims, h.wf.ctr⟩, h.otp⟩

theorem sound_advance (h : Sound q s) (n : Nat) : Sound q (s.advance n) := sound_congr h rfl rfl rfl rfl rfl rfl rfl

theorem sound_ctr (h : Sound q s) {m : SMap Nat} (hm : Table.wf m) : Sound q { s with ctr := m } :=
  ⟨h.pend, ⟨h.wf.mem, h.wf.reg, h.wf.bank, h.wf.claims, hm⟩, h.otp⟩

theorem sound_setCtr (h : Sound q s) (i n : Nat) : Sound q (s.setCtr i n) := sound_ctr h (canonical_update h.wf.ctr)

theorem sound_ctrAdd (h : Sound q s) (i n : Nat) : Sound q (ctrAdd i n s) := sound_setCtr h _ _

theorem sound_modCell (h : Sound q s) (i : Nat) (f : Cell → Cell) : Sound q (s.modCell i f) :=
  sound_congr h rfl rfl rfl rfl rfl rfl rfl

theorem sound_modChan (h : Sound q s) (i : Nat) (f : Chan → Chan) : Sound q (s.modChan i f) :=
  sound_congr h rfl rfl rfl rfl rfl rfl rfl

theorem sound_modProc (h : Sound q s) (i : Nat) (f : Proc → Proc) : Sound q (s.modProc i f) :=
  sound_congr h rfl rfl rfl rfl rfl rfl rfl

theorem sound_modConv (h : Sound q s) (i : Nat) (f : Conv → Conv) : Sound q (s.modConv i f) :=
  sound_congr h rfl rfl rfl rfl rfl rfl rfl

theorem sound_modEntryS (h : Sound q s) (i : Nat) (f : EntryS → EntryS) : Sound q (s.modEntryS i f) :=
  sound_congr h rfl rfl rfl rfl rfl rfl rfl

theorem sound_modComp (h : Sound q s) (i : Nat) (f : Comp → Comp) : Sound q (s.modComp i f) :=
  sound_congr h rfl rfl rfl rfl rfl rfl rfl

theorem sound_modRipple (h : Sound q s) (i : Nat) (f : Ripple → Ripple) : Sound q (s.modRipple i f) :=
  sound_congr h rfl rfl rfl rfl rfl rfl rfl

theorem sound_modPos (h : Sound q s) (i : Nat) (f : Pos → Pos) : Sound q (s.modPos i f) :=
  sound_congr h rfl rfl rfl rfl rfl rfl rfl

theorem sound_modVec (h : Sound q s) (i : Nat) (f : Vec → Vec) : Sound q (s.modVec i f) :=
  sound_congr h rfl rfl rfl rfl rfl rfl rfl

theorem sound_modEmu (h : Sound q s) (i : Nat) (f : Emu → Emu) : Sound q (s.modEmu i f) :=
  sound_congr h rfl rfl rfl rfl rfl rfl rfl

theorem sound_setProtWas (h : Sound q s) (v : Vector Bool 16) : Sound q (s.setProtWas v) :=
  sound_congr h rfl rfl rfl rfl rfl rfl rfl

theorem sound_mapSched (h : Sound q s) (f : List (Nat × Ev) → List (Nat × Ev)) : Sound q (s.mapSched f) :=
  sound_congr h rfl rfl rfl rfl rfl rfl rfl

theorem sound_at_ (h : Sound q s) (t : Nat) (e : Ev) : Sound q (s.at_ t e) := sound_congr h rfl rfl rfl rfl rfl rfl rfl

theorem sound_mapCyc (h : Sound q s) (f : Cyc → Cyc) : Sound q (s.mapCyc f) :=
  sound_congr h rfl rfl rfl rfl rfl rfl rfl

theorem sound_modPdPort (h : Sound q s) (i : Nat) (f : PdPort → PdPort) : Sound q (s.modPdPort i f) :=
  sound_congr h rfl rfl rfl rfl rfl rfl rfl

theorem sound_mapClk (h : Sound q s) (f : Clk → Clk) : Sound q (s.mapClk f) :=
  sound_congr h rfl rfl rfl rfl rfl rfl rfl

theorem sound_mapPwr (h : Sound q s) (f : Pwr → Pwr) : Sound q (s.mapPwr f) :=
  sound_congr h rfl rfl rfl rfl rfl rfl rfl

theorem sound_mapBus (h : Sound q s) (f : Bus → Bus) : Sound q (s.mapBus f) :=
  sound_congr h rfl rfl rfl rfl rfl rfl rfl

theorem sound_mapFix (h : Sound q s) (f : Fix → Fix) : Sound q (s.mapFix f) :=
  sound_congr h rfl rfl rfl rfl rfl rfl rfl

theorem sound_mapLog (h : Sound q s) (f : Log → Log) : Sound q (s.mapLog f) :=
  sound_congr h rfl rfl rfl rfl rfl rfl rfl

theorem sound_mapSxt (h : Sound q s) (f : Sxt → Sxt) : Sound q (s.mapSxt f) :=
  sound_congr h rfl rfl rfl rfl rfl rfl rfl

theorem sound_mapCalc (h : Sound q s) (f : Calc → Calc) : Sound q (s.mapCalc f) :=
  sound_congr h rfl rfl rfl rfl rfl rfl rfl

theorem sound_mapKey (h : Sound q s) (f : Key → Key) : Sound q (s.mapKey f) :=
  sound_congr h rfl rfl rfl rfl rfl rfl rfl

theorem sound_mapCup (h : Sound q s) (f : Cup → Cup) : Sound q (s.mapCup f) :=
  sound_congr h rfl rfl rfl rfl rfl rfl rfl

theorem sound_mapHostif (h : Sound q s) (f : Hostif → Hostif) : Sound q (s.mapHostif f) :=
  sound_congr h rfl rfl rfl rfl rfl rfl rfl

theorem sound_mapTl (h : Sound q s) (f : Tl → Tl) : Sound q (s.mapTl f) :=
  sound_congr h rfl rfl rfl rfl rfl rfl rfl

theorem sound_mapBoot (h : Sound q s) (f : Boot → Boot) (hf : ∀ b, (f b).otp = b.otp) : Sound q (s.mapBoot f) :=
  sound_congr h rfl rfl rfl rfl rfl rfl (hf s.boot)

theorem sound_mapPolicy (h : Sound q s) (f : Policy → Policy) : Sound q (s.mapPolicy f) :=
  sound_congr h rfl rfl rfl rfl rfl rfl rfl

theorem sound_ite {c : Prop} [Decidable c] {a b : State} (ha : Sound q a) (hb : Sound q b) :
    Sound q (if c then a else b) := by split <;> assumption

theorem sound_ite_snd {α : Type} {c : Prop} [Decidable c] {a b : α × State} (ha : Sound q a.2) (hb : Sound q b.2) :
    Sound q (if c then a else b).2 := by split <;> assumption

theorem sound_foldl {α : Type} (f : State → α → State) (hf : ∀ t x, Sound q t → Sound q (f t x)) (l : List α)
    (h : Sound q s) : Sound q (l.foldl f s) := by
  induction l generalizing s with
  | nil => exact h
  | cons x l ih => exact ih (hf s x h)

theorem sound_forAll (n : Nat) (f : Nat → State → State) (hf : ∀ i t, Sound q t → Sound q (f i t)) (h : Sound q s) :
    Sound q (forAll n f s) := sound_foldl _ (fun t i => hf i t) _ h

theorem soundR_next (h : Sound q s) : SoundR q (.next s) := fun _ e => by cases e; exact h

theorem sound_happens (g : Bool) (eff : State → State) (hf : ∀ t, Sound q t → Sound q (eff t)) (h : Sound q s) :
    SoundR q (happens g eff s) := soundR_next (sound_ite (hf s h) h)

theorem soundR_ite {c : Prop} [Decidable c] {a b : Result} (ha : SoundR q a) (hb : SoundR q b) :
    SoundR q (if c then a else b) := by split <;> assumption

theorem soundI_next (h : Sound q s) : SoundI q (.next s) := h

theorem soundI_goto (h : Sound q s) (pc : Word) : SoundI q (.goto pc s) := h

theorem soundI_hold (h : Sound q s) (r : RunCond) : SoundI q (.hold r s) := h

theorem soundI_trap (h : Sound q s) (n : Nat) (pc : Word) : SoundI q (.trap n pc s) := h

theorem soundI_stack : SoundI q .stack := trivial

theorem soundI_access (a : Nat) (k : Bool) : SoundI q (.access a k) := trivial

theorem soundI_ite {c : Prop} [Decidable c] {a b : Issue} (ha : SoundI q a) (hb : SoundI q b) :
    SoundI q (if c then a else b) := by split <;> assumption

end Sys2Proof.Machine
end

