-- ==== Sys2Proof/Laws/SoundFabric.lean ====
section
/-! SUPPORT. Every operation keeps Sound: the stores, the Logbook, the Fix, the cells and their neighbours. -/
namespace Sys2Proof.Machine

set_option linter.unusedTactic false
set_option linter.unreachableTactic false

variable {q : Kept}

theorem sound_wf {s : State} (a : Nat) (lo : Nat) (n : Nat) (v : Nat) (hs : Sound q s) :
    Sound q (State.wf s a lo n v) := by
  unfold State.wf
  with_reducible repeat' (first
    | assumption | apply sound_wr)

theorem sound_wb {s : State} (a : Nat) (i : Nat) (b : Bool) (hs : Sound q s) :
    Sound q (State.wb s a i b) := by
  unfold State.wb
  with_reducible repeat' (first
    | assumption | intro _ | (apply sound_congr hs <;> rfl) | apply sound_wr | apply sound_mapCyc | apply sound_ite
    | dsimp only | split | (apply sound_congr (by assumption) <;> rfl))

theorem sound_hw {s : State} (a : Nat) (v : Word) (hs : Sound q s) :
    Sound q (State.hw s a v) := by
  unfold State.hw
  with_reducible repeat' (first
    | assumption | apply sound_wr | apply sound_ite | split)

theorem sound_hwWide {s : State} (a : Nat) (count : Nat) (n : Nat) (hs : Sound q s) :
    Sound q (State.hwWide s a count n) := by
  unfold State.hwWide
  with_reducible repeat' (first
    | assumption | intro _ | apply sound_hw | apply sound_foldl | dsimp only)

theorem sound_hwf {s : State} (a : Nat) (lo : Nat) (n : Nat) (v : Nat) (hs : Sound q s) :
    Sound q (State.hwf s a lo n v) := by
  unfold State.hwf
  with_reducible repeat' (first
    | assumption | apply sound_wf | apply sound_ite | split)

theorem sound_keepBefore {s : State} (a : Nat) (hs : Sound q s) :
    Sound q (State.keepBefore s a) := by
  unfold State.keepBefore
  with_reducible repeat' (first
    | assumption | intro _ | (apply sound_congr hs <;> rfl) | apply sound_mapCyc | apply sound_ite | dsimp only
    | split | (apply sound_congr (by assumption) <;> rfl))

theorem sound_bump {s : State} (a : Nat) (n : Nat) (hs : Sound q s) :
    Sound q (State.bump s a n) := by
  unfold State.bump
  with_reducible repeat' (first
    | assumption | apply sound_wr)

theorem sound_wrWide {s : State} (a : Nat) (count : Nat) (n : Nat) (hs : Sound q s) :
    Sound q (State.wrWide s a count n) := by
  unfold State.wrWide
  with_reducible repeat' (first
    | assumption | intro _ | apply sound_wr | apply sound_foldl | dsimp only)

theorem sound_endFrame {s : State} (hs : Sound q s) :
    Sound q (endFrame s) := by
  unfold endFrame
  with_reducible repeat' (first
    | assumption | intro _ | (apply sound_congr hs <;> rfl) | apply sound_mapHostif | dsimp only
    | (apply sound_congr (by assumption) <;> rfl))

theorem sound_hostShown (w : Word) {s : State} (hs : Sound q s) :
    Sound q (hostShown w s) := by
  unfold hostShown
  with_reducible repeat' (first
    | assumption | intro _ | (apply sound_congr hs <;> rfl) | apply sound_mapHostif | dsimp only
    | (apply sound_congr (by assumption) <;> rfl))

theorem sound_conflict (idx : Option Nat) {s : State} (hs : Sound q s) :
    Sound q (conflict idx s) := by
  unfold conflict
  with_reducible repeat' (first
    | assumption | (apply sound_congr hs <;> rfl) | apply sound_wb | apply sound_bump | apply sound_wf | dsimp only
    | split)

theorem sound_needPads (o : Nat) (ps : List Nat) {s : State} (hs : Sound q s) :
    Sound q (needPads o ps s) := by
  unfold needPads
  with_reducible repeat' (first
    | assumption | intro _ | apply sound_conflict | apply sound_ite | apply sound_foldl | dsimp only | split)

theorem sound_needOwner (cls : Nat) (i : Nat) {s : State} (hs : Sound q s) :
    Sound q (needOwner cls i s) := by
  unfold needOwner
  with_reducible repeat' (first
    | assumption | apply sound_conflict | apply sound_ite | split)

theorem sound_busCfgErr {s : State} (hs : Sound q s) :
    Sound q (busCfgErr s) := by
  unfold busCfgErr
  with_reducible repeat' (first
    | assumption | apply sound_wb)

theorem sound_recordFault (a : Nat) (req : Nat) (kind : Bool) {s : State} (hs : Sound q s) :
    Sound q (recordFault a req kind s) := by
  unfold recordFault
  with_reducible repeat' (first
    | assumption | apply sound_wr | apply sound_wb | apply sound_bump | dsimp only)

theorem sound_nmiAt (h0 : Nat) {s : State} (hs : Sound q s) :
    Sound q (nmiAt h0 s).1 := by
  unfold nmiAt
  with_reducible repeat' (first
    | assumption | intro _ | (apply sound_congr hs <;> rfl) | apply sound_modProc | apply sound_ite | dsimp only
    | split | (apply sound_congr (by assumption) <;> rfl))

theorem sound_raiseNmi (h0 : Nat) {s : State} (hs : Sound q s) :
    Sound q (raiseNmi h0 s) := by
  unfold raiseNmi
  with_reducible repeat' (first
    | assumption | apply sound_nmiAt | apply sound_ite | dsimp only | split)

theorem sound_pendNmiAll {s : State} (hs : Sound q s) :
    Sound q (pendNmiAll s) := by
  unfold pendNmiAll
  with_reducible repeat' (first
    | assumption | apply sound_raiseNmi)

theorem sound_raiseNmiAll {s : State} (hs : Sound q s) :
    Sound q (raiseNmiAll s) := by
  unfold raiseNmiAll
  with_reducible repeat' (first
    | assumption | apply sound_pendNmiAll | apply sound_ite | split)

theorem sound_statusSet (p : Nat) (m : Word) {s : State} (hs : Sound q s) :
    Sound q (statusSet p m s) := by
  unfold statusSet
  with_reducible repeat' (first
    | assumption | intro _ | (apply sound_congr hs <;> rfl) | apply sound_modProc | apply sound_mapCyc | dsimp only
    | (apply sound_congr (by assumption) <;> rfl))

theorem sound_eventArrives (p : Nat) {s : State} (hs : Sound q s) :
    Sound q (eventArrives p s) := by
  unfold eventArrives
  with_reducible repeat' (first
    | assumption | intro _ | (apply sound_congr hs <;> rfl) | apply sound_mapCyc | apply sound_statusSet
    | apply sound_modProc | apply sound_ite | dsimp only | split | (apply sound_congr (by assumption) <;> rfl))

theorem sound_clearEvent (p : Nat) {s : State} (hs : Sound q s) :
    Sound q (clearEvent p s) := by
  unfold clearEvent
  with_reducible repeat' (first
    | assumption | intro _ | (apply sound_congr hs <;> rfl) | apply sound_modProc | apply sound_ite | dsimp only
    | split | (apply sound_congr (by assumption) <;> rfl))

theorem sound_recordParity (a : Nat) (req : Nat) {s : State} (hs : Sound q s) :
    Sound q (recordParity a req s) := by
  unfold recordParity
  with_reducible repeat' (first
    | assumption | apply sound_wr | apply sound_wb | apply sound_raiseNmiAll | apply sound_bump | dsimp only)

theorem sound_clearBits (a : Nat) (m : Word) {s : State} (hs : Sound q s) :
    Sound q (clearBits a m s) := by
  unfold clearBits
  with_reducible repeat' (first
    | assumption | apply sound_wr)

theorem sound_plainWrite (a : Nat) (v : Word) {s : State} (hs : Sound q s) :
    Sound q (plainWrite a v s) := by
  unfold plainWrite
  with_reducible repeat' (first
    | assumption | intro _ | (apply sound_congr hs <;> rfl) | apply sound_clearBits | apply sound_wr
    | apply sound_mapCyc | dsimp only | split | (apply sound_congr (by assumption) <;> rfl))

theorem sound_hwIrq (k : Nat) {s : State} (hs : Sound q s) :
    Sound q (hwIrq k s) := by
  unfold hwIrq
  with_reducible repeat' (first
    | assumption | apply sound_wb | apply sound_bump)

theorem sound_wrMemN {s : State} (a : Nat) (ws : List Word) (hs : Sound q s) :
    Sound q (State.wrMemN s a ws) := by
  unfold State.wrMemN
  with_reducible repeat' (first
    | assumption | intro _ | apply sound_wrMem | apply sound_foldl | dsimp only)

theorem sound_loadBank {s : State} (c : Nat) (b : Nat) (hs : Sound q s) :
    Sound q (State.load s c b) := by
  unfold State.load
  with_reducible repeat' (first
    | assumption | intro _ | (apply sound_congr hs <;> rfl) | apply sound_foldl | dsimp only
    | (apply sound_congr (by assumption) <;> rfl))

theorem sound_withAccess (q0 : Nat) (a : Nat) (write : Bool) (eff : State → State) {s : State} (hf1 : ∀ x0, Sound q x0 → Sound q (eff x0)) (hs : Sound q s) :
    Sound q (withAccess q0 a write eff s) := by
  unfold withAccess
  with_reducible repeat' (first
    | assumption | intro _ | (apply sound_congr hs <;> rfl) | apply hf1 | apply sound_recordFault | apply sound_ite
    | split | (apply sound_congr (by assumption) <;> rfl))

theorem sound_queueRec (r : LogRec) {s : State} (hs : Sound q s) :
    Sound q (queueRec r s) := by
  unfold queueRec
  with_reducible repeat' (first
    | assumption | intro _ | (apply sound_congr hs <;> rfl) | apply sound_mapLog | apply sound_bump
    | apply sound_ite | dsimp only | split | (apply sound_congr (by assumption) <;> rfl))

theorem sound_logEvent (kind : Nat) (src : Nat) (det : Nat) (data : List Word) {s : State} (hs : Sound q s) :
    Sound q (logEvent kind src det data s) := by
  unfold logEvent
  with_reducible repeat' (first
    | assumption | apply sound_queueRec | apply sound_ite | split)

theorem sound_queueGap {s : State} (hs : Sound q s) :
    Sound q (queueGap s) := by
  unfold queueGap
  with_reducible repeat' (first
    | assumption | intro _ | (apply sound_congr hs <;> rfl) | apply sound_mapLog | apply sound_queueRec | dsimp only
    | split | (apply sound_congr (by assumption) <;> rfl))

theorem sound_writeSlot (r : LogRec) {s : State} (hs : Sound q s) :
    Sound q (writeSlot r s) := by
  unfold writeSlot
  with_reducible repeat' (first
    | assumption | apply sound_wrMemN | apply sound_wb | apply sound_wr | apply sound_bump | apply sound_ite
    | dsimp only | split)

theorem sound_writeLast (r : LogRec) {s : State} (hs : Sound q s) :
    Sound q (writeLast r s) := by
  unfold writeLast
  with_reducible repeat' (first
    | assumption | intro _ | (apply sound_congr hs <;> rfl) | apply sound_wrMem | apply sound_mapLog
    | apply sound_bump | apply sound_wrMemN | apply sound_wb | apply sound_ite | dsimp only | split
    | (apply sound_congr (by assumption) <;> rfl))

theorem sound_writeRecord {s : State} (hs : Sound q s) :
    Sound q (writeRecord s) := by
  unfold writeRecord
  with_reducible repeat' (first
    | assumption | intro _ | (apply sound_congr hs <;> rfl) | apply sound_mapLog | apply sound_queueGap
    | apply sound_writeLast | apply sound_writeSlot | apply sound_ite | dsimp only | split
    | (apply sound_congr (by assumption) <;> rfl))

theorem sound_logSwrec (v : Word) {s : State} (hs : Sound q s) :
    Sound q (logSwrec v s) := by
  unfold logSwrec
  with_reducible repeat' (first
    | assumption | apply sound_logEvent | apply sound_wb | apply sound_ite | dsimp only | split)

theorem sound_logCtrlWrite (v : Word) {s : State} (hs : Sound q s) :
    Sound q (logCtrlWrite v s) := by
  unfold logCtrlWrite
  with_reducible repeat' (first
    | assumption | apply sound_wr | apply sound_wb | apply sound_ite | dsimp only | split)

theorem sound_traceCtrlWrite (v : Word) {s : State} (hs : Sound q s) :
    Sound q (traceCtrlWrite v s) := by
  unfold traceCtrlWrite
  with_reducible repeat' (first
    | assumption | intro _ | (apply sound_congr hs <;> rfl) | apply sound_wr | apply sound_wb | apply sound_wf
    | apply sound_mapLog | apply sound_ite | dsimp only | split | (apply sound_congr (by assumption) <;> rfl))

theorem sound_traceTrigger (a : Nat) {s : State} (hs : Sound q s) :
    Sound q (traceTrigger a s) := by
  unfold traceTrigger
  with_reducible repeat' (first
    | assumption | intro _ | (apply sound_congr hs <;> rfl) | apply sound_wr | apply sound_wrWide | apply sound_wf
    | apply sound_wb | apply sound_mapLog | apply sound_logEvent | dsimp only
    | (apply sound_congr (by assumption) <;> rfl))

theorem sound_tracePost (left : Nat) {s : State} (hs : Sound q s) :
    Sound q (tracePost left s) := by
  unfold tracePost
  with_reducible repeat' (first
    | assumption | intro _ | (apply sound_congr hs <;> rfl) | apply sound_mapLog | apply sound_wf | apply sound_ite
    | dsimp only | split | (apply sound_congr (by assumption) <;> rfl))

theorem sound_traceStore (a : Nat) (d : Nat) {s : State} (hs : Sound q s) :
    Sound q (traceStore a d s) := by
  unfold traceStore
  with_reducible repeat' (first
    | assumption | intro _ | (apply sound_congr hs <;> rfl) | apply sound_wrMemN | apply sound_wr
    | apply sound_mapLog | dsimp only | (apply sound_congr (by assumption) <;> rfl))

theorem sound_traceSample {s : State} (hs : Sound q s) :
    Sound q (traceSample s) := by
  unfold traceSample
  with_reducible repeat' (first
    | assumption | apply sound_traceTrigger | apply sound_traceStore | apply sound_tracePost | apply sound_ite
    | dsimp only | split)

theorem sound_traceEnd {s : State} (hs : Sound q s) :
    Sound q (traceEnd s) := by
  unfold traceEnd
  with_reducible repeat' (first
    | assumption | apply sound_wf | apply sound_ite | split)

theorem sound_execLogRecordWrite {s : State} (hs : Sound q s) :
    SoundR q (execLogRecordWrite s) := by
  unfold execLogRecordWrite
  with_reducible repeat' (first
    | assumption | intro _ | apply sound_happens | apply sound_writeRecord)

theorem sound_execLogSwrec (q0 : Req) (v : Word) {s : State} (hs : Sound q s) :
    SoundR q (execLogSwrec q0 v s) := by
  unfold execLogSwrec
  with_reducible repeat' (first
    | assumption | intro _ | apply sound_withAccess | apply sound_logSwrec | apply soundR_next)

theorem sound_execTraceArm (q0 : Req) (v : Word) {s : State} (hs : Sound q s) :
    SoundR q (execTraceArm q0 v s) := by
  unfold execTraceArm
  with_reducible repeat' (first
    | assumption | intro _ | apply sound_withAccess | apply sound_traceCtrlWrite | apply soundR_next)

theorem sound_execTraceDisarm (q0 : Req) (v : Word) {s : State} (hs : Sound q s) :
    SoundR q (execTraceDisarm q0 v s) := by
  unfold execTraceDisarm
  with_reducible repeat' (first
    | assumption | intro _ | apply sound_withAccess | apply sound_traceCtrlWrite | apply soundR_next)

theorem sound_execTraceSoftwareTrigger (q0 : Req) {s : State} (hs : Sound q s) :
    SoundR q (execTraceSoftwareTrigger q0 s) := by
  unfold execTraceSoftwareTrigger
  with_reducible repeat' (first
    | assumption | intro _ | apply sound_withAccess | apply sound_traceCtrlWrite | apply soundR_next | dsimp only)

theorem sound_execTraceSample {s : State} (hs : Sound q s) :
    SoundR q (execTraceSample s) := by
  unfold execTraceSample
  with_reducible repeat' (first
    | assumption | intro _ | apply sound_happens | apply sound_traceSample)

theorem sound_fixCapture (cause : Nat) (cell : Nat) {s : State} (hs : Sound q s) :
    Sound q (fixCapture cause cell s) := by
  unfold fixCapture
  with_reducible repeat' (first
    | assumption | intro _ | (apply sound_congr hs <;> rfl) | apply sound_mapFix | apply sound_wb | dsimp only
    | (apply sound_congr (by assumption) <;> rfl))

theorem sound_fixTake {s : State} (hs : Sound q s) :
    Sound q (fixTake s) := by
  unfold fixTake
  with_reducible repeat' (first
    | assumption | intro _ | (apply sound_congr hs <;> rfl) | apply sound_mapFix | apply sound_ite | dsimp only
    | split | (apply sound_congr (by assumption) <;> rfl))

theorem sound_fixHold (cause : Nat) (cell : Nat) {s : State} (hs : Sound q s) :
    Sound q (fixHold cause cell s) := by
  unfold fixHold
  with_reducible repeat' (first
    | assumption | intro _ | (apply sound_congr hs <;> rfl) | apply sound_mapFix | apply sound_bump | apply sound_wb
    | apply sound_ite | dsimp only | split | (apply sound_congr (by assumption) <;> rfl))

theorem sound_fixTrigger (cause : Nat) (cell : Nat) {s : State} (hs : Sound q s) :
    Sound q (fixTrigger cause cell s) := by
  unfold fixTrigger
  with_reducible repeat' (first
    | assumption | intro _ | (apply sound_congr hs <;> rfl) | apply sound_fixCapture | apply sound_mapFix
    | apply sound_fixHold | apply sound_ite | dsimp only | split | (apply sound_congr (by assumption) <;> rfl))

theorem sound_fixAfter {s : State} (hs : Sound q s) :
    Sound q (fixAfter s) := by
  unfold fixAfter
  with_reducible repeat' (first
    | assumption | intro _ | (apply sound_congr hs <;> rfl) | apply sound_fixCapture | apply sound_mapFix
    | dsimp only | split | (apply sound_congr (by assumption) <;> rfl))

theorem sound_fixDeliver (b : FixBank) {s : State} (hs : Sound q s) :
    Sound q (fixDeliver b s) := by
  unfold fixDeliver
  with_reducible repeat' (first
    | assumption | intro _ | (apply sound_congr hs <;> rfl) | apply sound_mapFix | dsimp only
    | (apply sound_congr (by assumption) <;> rfl))

theorem sound_fixAwait (k : Nat) {s : State} (hs : Sound q s) :
    Sound q (fixAwait k s) := by
  unfold fixAwait
  with_reducible repeat' (first
    | assumption | intro _ | (apply sound_congr hs <;> rfl) | apply sound_mapFix | dsimp only
    | (apply sound_congr (by assumption) <;> rfl))

theorem sound_fixTaken (k : Nat) {s : State} (hs : Sound q s) :
    Sound q (fixTaken k s) := by
  unfold fixTaken
  with_reducible repeat' (first
    | assumption | intro _ | (apply sound_congr hs <;> rfl) | apply sound_mapFix | dsimp only
    | (apply sound_congr (by assumption) <;> rfl))

theorem sound_fixFinish (b : FixBank) {s : State} (hs : Sound q s) :
    Sound q (fixFinish b s) := by
  unfold fixFinish
  with_reducible repeat' (first
    | assumption | intro _ | (apply sound_congr hs <;> rfl) | apply sound_mapFix | apply sound_wr | apply sound_wb
    | apply sound_hwIrq | apply sound_logEvent | apply sound_fixAfter | apply sound_fixDeliver | apply sound_ite
    | dsimp only | split | (apply sound_congr (by assumption) <;> rfl))

theorem sound_fixComplete {s : State} (hs : Sound q s) :
    Sound q (fixComplete s) := by
  unfold fixComplete
  with_reducible repeat' (first
    | assumption | (apply sound_congr hs <;> rfl) | apply sound_wb | apply sound_fixFinish | apply sound_ite | split)

theorem sound_fixUnpin (q0 : Nat) {s : State} (hs : Sound q s) :
    Sound q (fixUnpin q0 s) := by
  unfold fixUnpin
  with_reducible repeat' (first
    | assumption | intro _ | (apply sound_congr hs <;> rfl) | apply sound_mapFix | apply sound_fixComplete
    | apply sound_ite | dsimp only | split | (apply sound_congr (by assumption) <;> rfl))

theorem sound_fixOpen (q0 : Nat) {s : State} (hs : Sound q s) :
    Sound q (fixOpen q0 s) := by
  unfold fixOpen
  with_reducible repeat' (first
    | assumption | intro _ | (apply sound_congr hs <;> rfl) | apply sound_fixUnpin | apply sound_mapFix | dsimp only
    | (apply sound_congr (by assumption) <;> rfl))

theorem sound_fixCtrlWrite (q0 : Nat) (v : Word) {s : State} (hs : Sound q s) :
    Sound q (fixCtrlWrite q0 v s) := by
  unfold fixCtrlWrite
  with_reducible repeat' (first
    | assumption | apply sound_plainWrite | apply sound_keepBefore | apply sound_fixTrigger | apply sound_ite
    | dsimp only | split)

theorem sound_fixIntWrite (v : Word) {s : State} (hs : Sound q s) :
    Sound q (fixIntWrite v s) := by
  unfold fixIntWrite
  with_reducible repeat' (first
    | assumption | apply sound_wr | apply sound_wb | apply sound_ite | split)

theorem sound_fixPeriodic {s : State} (hs : Sound q s) :
    Sound q (fixPeriodic s) := by
  unfold fixPeriodic
  with_reducible repeat' (first
    | assumption | apply sound_fixTrigger | apply sound_keepBefore | apply sound_hwWide | dsimp only)

theorem sound_fixWindowRead (q0 : Nat) (a : Nat) {s : State} (hs : Sound q s) :
    Sound q (fixWindowRead q0 a s).2 := by
  unfold fixWindowRead
  with_reducible repeat' (first
    | assumption | intro _ | (apply sound_congr hs <;> rfl) | apply sound_mapBus | apply sound_ite | dsimp only
    | split | (apply sound_congr (by assumption) <;> rfl))

theorem sound_execFixTrig (q0 : Req) {s : State} (hs : Sound q s) :
    SoundR q (execFixTrig q0 s) := by
  unfold execFixTrig
  with_reducible repeat' (first
    | assumption | intro _ | apply sound_withAccess | apply sound_fixCtrlWrite | apply soundR_next | dsimp only)

theorem sound_execFixHost (q0 : Req) {s : State} (hs : Sound q s) :
    SoundR q (execFixHost q0 s) := by
  unfold execFixHost
  with_reducible repeat' (first
    | assumption | intro _ | apply sound_withAccess | apply sound_fixCtrlWrite | apply soundR_next | dsimp only)

theorem sound_execFixPeriodic {s : State} (hs : Sound q s) :
    SoundR q (execFixPeriodic s) := by
  unfold execFixPeriodic
  with_reducible repeat' (first
    | assumption | intro _ | apply sound_happens | apply sound_fixPeriodic)

theorem sound_execFixComplete {s : State} (hs : Sound q s) :
    SoundR q (execFixComplete s) := by
  unfold execFixComplete
  with_reducible repeat' (first
    | assumption | intro _ | apply sound_happens | apply sound_fixComplete)

theorem sound_execFixOpen (q0 : Req) {s : State} (hs : Sound q s) :
    SoundR q (execFixOpen q0 s) := by
  unfold execFixOpen
  with_reducible repeat' (first
    | assumption | intro _ | apply sound_withAccess | apply sound_fixOpen | apply soundR_next)

theorem sound_execFixClose (q0 : Req) (v : Word) {s : State} (hs : Sound q s) :
    SoundR q (execFixClose q0 v s) := by
  unfold execFixClose
  with_reducible repeat' (first
    | assumption | intro _ | apply sound_withAccess | apply sound_fixUnpin | apply soundR_ite | apply sound_ite
    | apply soundR_next | dsimp only | split)

theorem sound_execCounterLowRead (q0 : Req) (i : Fin 320) {s : State} (hs : Sound q s) :
    SoundR q (execCounterLowRead q0 i s) := by
  unfold execCounterLowRead
  with_reducible repeat' (first
    | assumption | intro _ | apply sound_withAccess | apply sound_fixWindowRead | apply soundR_next | dsimp only)

theorem sound_setEv (c : Nat) {s : State} (hs : Sound q s) :
    Sound q (setEv c s) := by
  unfold setEv
  with_reducible repeat' (first
    | assumption | apply sound_eventArrives)

theorem sound_cellEvent (c : Nat) (k : Nat) {s : State} (hs : Sound q s) :
    Sound q (cellEvent c k s) := by
  unfold cellEvent
  with_reducible repeat' (first
    | assumption | apply sound_wb | apply sound_bump | apply sound_setEv | apply sound_fixTrigger
    | apply sound_logEvent | apply sound_ite | dsimp only | split)

theorem sound_seqHalt (c : Nat) {s : State} (hs : Sound q s) :
    Sound q (seqHalt c s) := by
  unfold seqHalt
  with_reducible repeat' (first
    | assumption | intro _ | (apply sound_congr hs <;> rfl) | apply sound_modProc | apply sound_fixUnpin
    | apply sound_wb | dsimp only | (apply sound_congr (by assumption) <;> rfl))

theorem sound_seqFault (c : Nat) (cause : Nat) {s : State} (hs : Sound q s) :
    Sound q (seqFault c cause s) := by
  unfold seqFault
  with_reducible repeat' (first
    | assumption | apply sound_wb | apply sound_wf | apply sound_bump | apply sound_seqHalt | dsimp only)

theorem sound_cellCfgErr (c : Nat) {s : State} (hs : Sound q s) :
    Sound q (cellCfgErr c s) := by
  unfold cellCfgErr
  with_reducible repeat' (first
    | assumption | apply sound_wb)

theorem sound_dropPulse (w : Nat) {s : State} (hs : Sound q s) :
    Sound q (dropPulse w s) := by
  unfold dropPulse
  with_reducible repeat' (first
    | assumption | apply sound_wb | apply sound_bump)

theorem sound_lateEdge (w : Nat) {s : State} (hs : Sound q s) :
    Sound q (lateEdge w s) := by
  unfold lateEdge
  with_reducible repeat' (first
    | assumption | apply sound_wb | apply sound_bump)

theorem sound_chanCfgErr (w : Nat) {s : State} (hs : Sound q s) :
    Sound q (chanCfgErr w s) := by
  unfold chanCfgErr
  with_reducible repeat' (first
    | assumption | apply sound_wb)

theorem sound_fixTriggers (w : Nat) (kind : Nat) (at_ : Nat) {s : State} (hs : Sound q s) :
    Sound q (fixTriggers w kind at_ s) := by
  unfold fixTriggers
  with_reducible repeat' (first
    | assumption | intro _ | (apply sound_congr hs <;> rfl) | apply sound_forAll | apply sound_modEntryS
    | apply sound_at_ | apply sound_ite | dsimp only | split | (apply sound_congr (by assumption) <;> rfl))

theorem sound_startBlanking (w : Nat) {s : State} (hs : Sound q s) :
    Sound q (startBlanking w s) := by
  unfold startBlanking
  with_reducible repeat' (first
    | assumption | intro _ | (apply sound_congr hs <;> rfl) | apply sound_modComp | apply sound_foldl | dsimp only
    | (apply sound_congr (by assumption) <;> rfl))

theorem sound_countHigh (w : Nat) (v : Nat) {s : State} (hs : Sound q s) :
    Sound q (countHigh w v s) := by
  unfold countHigh
  with_reducible repeat' (first
    | assumption | apply sound_ctrAdd | apply sound_setCtr | dsimp only)

theorem sound_riseNow (w : Nat) (v : Nat) {s : State} (hs : Sound q s) :
    Sound q (riseNow w v s) := by
  unfold riseNow
  with_reducible repeat' (first
    | assumption | intro _ | (apply sound_congr hs <;> rfl) | apply sound_modChan | apply sound_ctrAdd
    | apply sound_startBlanking | apply sound_fixTriggers | apply sound_ite | dsimp only | split
    | (apply sound_congr (by assumption) <;> rfl))

theorem sound_riseDue (w : Nat) (v : Nat) {s : State} (hs : Sound q s) :
    Sound q (riseDue w v s) := by
  unfold riseDue
  with_reducible repeat' (first
    | assumption | intro _ | (apply sound_congr hs <;> rfl) | apply sound_modChan | apply sound_dropPulse
    | apply sound_riseNow | apply sound_ite | dsimp only | split | (apply sound_congr (by assumption) <;> rfl))

theorem sound_fallNow (w : Nat) (v : Nat) {s : State} (hs : Sound q s) :
    Sound q (fallNow w v s) := by
  unfold fallNow
  with_reducible repeat' (first
    | assumption | intro _ | (apply sound_congr hs <;> rfl) | apply sound_countHigh | apply sound_modChan
    | apply sound_startBlanking | apply sound_fixTriggers | apply sound_dropPulse | apply sound_ite | dsimp only
    | split | (apply sound_congr (by assumption) <;> rfl))

theorem sound_fallDue (w : Nat) (v : Nat) {s : State} (hs : Sound q s) :
    Sound q (fallDue w v s) := by
  unfold fallDue
  with_reducible repeat' (first
    | assumption | intro _ | (apply sound_congr hs <;> rfl) | apply sound_modChan | apply sound_fallNow
    | apply sound_ite | dsimp only | split | (apply sound_congr (by assumption) <;> rfl))

theorem sound_showDuty (w : Nat) (d : Nat) (full : Bool) {s : State} (hs : Sound q s) :
    Sound q (showDuty w d full s) := by
  unfold showDuty
  with_reducible repeat' (first
    | assumption | apply sound_wr | apply sound_wb)

theorem sound_dropBoth (w : Nat) {s : State} (hs : Sound q s) :
    Sound q (dropBoth w s) := by
  unfold dropBoth
  with_reducible repeat' (first
    | assumption | intro _ | (apply sound_congr hs <;> rfl) | apply sound_dropPulse | apply sound_modChan
    | dsimp only | (apply sound_congr (by assumption) <;> rfl))

theorem sound_keepEdges (w : Nat) {s : State} (hs : Sound q s) :
    Sound q (keepEdges w s) := by
  unfold keepEdges
  with_reducible repeat' (first
    | assumption | intro _ | (apply sound_congr hs <;> rfl) | apply sound_mapCyc | apply sound_ite | dsimp only
    | split | (apply sound_congr (by assumption) <;> rfl))

theorem sound_flagLate (w : Nat) (a : Bool) (b : Bool) {s : State} (hs : Sound q s) :
    Sound q (flagLate w a b s) := by
  unfold flagLate
  with_reducible repeat' (first
    | assumption | apply sound_keepEdges | apply sound_lateEdge | apply sound_ite | dsimp only | split)

theorem sound_placeAgain (w : Nat) (d : Nat) (t : Nat) {s : State} (hs : Sound q s) :
    Sound q (placeAgain w d t s) := by
  unfold placeAgain
  with_reducible repeat' (first
    | assumption | intro _ | (apply sound_congr hs <;> rfl) | apply sound_showDuty | apply sound_modChan
    | apply sound_flagLate | apply sound_dropBoth | apply sound_ite | dsimp only | split
    | (apply sound_congr (by assumption) <;> rfl))

theorem sound_dutyEffect (w : Nat) (t : Nat) (u : Word) {s : State} (hs : Sound q s) :
    Sound q (dutyEffect w t u s) := by
  unfold dutyEffect
  with_reducible repeat' (first
    | assumption | intro _ | (apply sound_congr hs <;> rfl) | apply sound_modChan | apply sound_placeAgain
    | apply sound_ite | dsimp only | split | (apply sound_congr (by assumption) <;> rfl))

theorem sound_settle (w : Nat) {s : State} (hs : Sound q s) :
    Sound q (settle w s) := by
  unfold settle
  with_reducible repeat' (first
    | assumption | intro _ | (apply sound_congr hs <;> rfl) | apply sound_modChan | apply sound_dutyEffect
    | apply sound_foldl | dsimp only | (apply sound_congr (by assumption) <;> rfl))

theorem sound_sendDuty (w : Nat) (u : Word) {s : State} (hs : Sound q s) :
    Sound q (sendDuty w u s) := by
  unfold sendDuty
  with_reducible repeat' (first
    | assumption | intro _ | (apply sound_congr hs <;> rfl) | apply sound_settle | apply sound_modChan | dsimp only
    | (apply sound_congr (by assumption) <;> rfl))

theorem sound_safeOutputs (w : Nat) {s : State} (hs : Sound q s) :
    Sound q (safeOutputs w s) := by
  unfold safeOutputs
  with_reducible repeat' (first
    | assumption | intro _ | (apply sound_congr hs <;> rfl) | apply sound_modChan | apply sound_ite | dsimp only
    | split | (apply sound_congr (by assumption) <;> rfl))

theorem sound_dropTriggers (w : Nat) {s : State} (hs : Sound q s) :
    Sound q (dropTriggers w s) := by
  unfold dropTriggers
  with_reducible repeat' (first
    | assumption | intro _ | (apply sound_congr hs <;> rfl) | apply sound_forAll | apply sound_modEntryS
    | dsimp only | (apply sound_congr (by assumption) <;> rfl))

theorem sound_undoEdges (w : Nat) {s : State} (hs : Sound q s) :
    Sound q (undoEdges w s) := by
  unfold undoEdges
  with_reducible repeat' (first
    | assumption | intro _ | (apply sound_congr hs <;> rfl) | apply sound_modChan | apply sound_setCtr
    | apply sound_wf | apply sound_wr | apply sound_dropTriggers | apply sound_modComp | apply sound_foldl
    | dsimp only | split | (apply sound_congr (by assumption) <;> rfl))

theorem sound_endBlanking (w : Nat) {s : State} (hs : Sound q s) :
    Sound q (endBlanking w s) := by
  unfold endBlanking
  with_reducible repeat' (first
    | assumption | intro _ | (apply sound_congr hs <;> rfl) | apply sound_modComp | apply sound_at_
    | apply sound_foldl | dsimp only | (apply sound_congr (by assumption) <;> rfl))

theorem sound_safeRequest (w : Nat) {s : State} (hs : Sound q s) :
    Sound q (safeRequest w s) := by
  unfold safeRequest
  with_reducible repeat' (first
    | assumption | intro _ | (apply sound_congr hs <;> rfl) | apply sound_endBlanking | apply sound_undoEdges
    | apply sound_countHigh | apply sound_modChan | apply sound_safeOutputs | apply sound_wb | apply sound_ite
    | dsimp only | split | (apply sound_congr (by assumption) <;> rfl))

theorem sound_chansRecheck {before : State} {s : State} (hbefore : Sound q before) (hs : Sound q s) :
    Sound q (chansRecheck before s) := by
  unfold chansRecheck
  with_reducible repeat' (first
    | assumption | intro _ | apply sound_forAll | apply sound_chanCfgErr | apply sound_ite | dsimp only | split)

theorem sound_chanLoad (w : Nat) {s : State} (hs : Sound q s) :
    Sound q (chanLoad w s) := by
  unfold chanLoad
  with_reducible repeat' (first
    | assumption | intro _ | (apply sound_congr hs <;> rfl) | apply sound_chanCfgErr | apply sound_wr
    | apply sound_modChan | apply sound_safeOutputs | apply sound_ite | apply sound_foldl | dsimp only | split
    | (apply sound_congr (by assumption) <;> rfl))

theorem sound_placeEdges (w : Nat) (a : Nat) (d : Nat) (full : Bool) {s : State} (hs : Sound q s) :
    Sound q (placeEdges w a d full s) := by
  unfold placeEdges
  with_reducible repeat' (first
    | assumption | intro _ | (apply sound_congr hs <;> rfl) | apply sound_modChan | apply sound_dropBoth
    | apply sound_ite | dsimp only | split | (apply sound_congr (by assumption) <;> rfl))

theorem sound_placeCarried (w : Nat) (a : Nat) (d : Nat) (tc : Nat) (full : Bool) {s : State} (hs : Sound q s) :
    Sound q (placeCarried w a d tc full s) := by
  unfold placeCarried
  with_reducible repeat' (first
    | assumption | intro _ | (apply sound_congr hs <;> rfl) | apply sound_placeEdges | apply sound_modChan
    | apply sound_ite | dsimp only | split | (apply sound_congr (by assumption) <;> rfl))

theorem sound_beginEdges (w : Nat) (d : Nat) (skip : Bool) (full : Bool) {s : State} (hs : Sound q s) :
    Sound q (beginEdges w d skip full s) := by
  unfold beginEdges
  with_reducible repeat' (first
    | assumption | intro _ | (apply sound_congr hs <;> rfl) | apply sound_modChan | apply sound_fallDue
    | apply sound_placeCarried | apply sound_placeEdges | apply sound_ite | dsimp only | split
    | (apply sound_congr (by assumption) <;> rfl))

theorem sound_lowOff (w : Nat) {s : State} (hs : Sound q s) :
    Sound q (lowOff w s) := by
  unfold lowOff
  with_reducible repeat' (first
    | assumption | intro _ | (apply sound_congr hs <;> rfl) | apply sound_modChan | apply sound_at_
    | apply sound_ite | dsimp only | split | (apply sound_congr (by assumption) <;> rfl))

theorem sound_loffSkipped (w : Nat) {s : State} (hs : Sound q s) :
    Sound q (loffSkipped w s) := by
  unfold loffSkipped
  with_reducible repeat' (first
    | assumption | intro _ | (apply sound_congr hs <;> rfl) | apply sound_lowOff | apply sound_modChan | dsimp only
    | (apply sound_congr (by assumption) <;> rfl))

theorem sound_periodTriggers (w : Nat) (d : Nat) (skip : Bool) {s : State} (hs : Sound q s) :
    Sound q (periodTriggers w d skip s) := by
  unfold periodTriggers
  with_reducible repeat' (first
    | assumption | intro _ | apply sound_fixTriggers | apply sound_ite | dsimp only | split)

theorem sound_leaveSafe (w : Nat) {s : State} (hs : Sound q s) :
    Sound q (leaveSafe w s) := by
  unfold leaveSafe
  with_reducible repeat' (first
    | assumption | intro _ | (apply sound_congr hs <;> rfl) | apply sound_needPads | apply sound_modChan
    | apply sound_wb | apply sound_ite | dsimp only | split | (apply sound_congr (by assumption) <;> rfl))

theorem sound_openPeriod (w : Nat) (pv : Nat) (d : Nat) (skip : Bool) {s : State} (hs : Sound q s) :
    Sound q (openPeriod w pv d skip s) := by
  unfold openPeriod
  with_reducible repeat' (first
    | assumption | intro _ | (apply sound_congr hs <;> rfl) | apply sound_modChan | apply sound_showDuty
    | apply sound_wb | apply sound_beginEdges | apply sound_loffSkipped | apply sound_periodTriggers
    | apply sound_ite | dsimp only | split | (apply sound_congr (by assumption) <;> rfl))

theorem sound_startPeriod (w : Nat) {s : State} (hs : Sound q s) :
    Sound q (startPeriod w s) := by
  unfold startPeriod
  with_reducible repeat' (first
    | assumption | intro _ | (apply sound_congr hs <;> rfl) | apply sound_leaveSafe | apply sound_openPeriod
    | apply sound_modChan | dsimp only | (apply sound_congr (by assumption) <;> rfl))

theorem sound_beginWait (w : Nat) {s : State} (hs : Sound q s) :
    Sound q (beginWait w s) := by
  unfold beginWait
  with_reducible repeat' (first
    | assumption | intro _ | (apply sound_congr hs <;> rfl) | apply sound_modChan | apply sound_wb
    | apply sound_fallDue | apply sound_ite | dsimp only | split | (apply sound_congr (by assumption) <;> rfl))

theorem sound_chanPeriod (w : Nat) (wait : Bool) {s : State} (hs : Sound q s) :
    Sound q (chanPeriod w wait s) := by
  unfold chanPeriod
  with_reducible repeat' (first
    | assumption | intro _ | (apply sound_congr hs <;> rfl) | apply sound_keepEdges | apply sound_beginWait
    | apply sound_startPeriod | apply sound_safeRequest | apply sound_modChan | apply sound_ite | dsimp only | split
    | (apply sound_congr (by assumption) <;> rfl))

theorem sound_edgeFire (w : Nat) {s : State} (hs : Sound q s) :
    Sound q (edgeFire w s) := by
  unfold edgeFire
  with_reducible repeat' (first
    | assumption | (apply sound_congr hs <;> rfl) | apply sound_keepEdges | apply sound_settle | apply sound_riseDue
    | apply sound_fallDue | apply sound_ite | dsimp only | split)

theorem sound_hiRise (w : Nat) (v : Nat) {s : State} (hs : Sound q s) :
    Sound q (hiRise w v s) := by
  unfold hiRise
  with_reducible repeat' (first
    | assumption | intro _ | (apply sound_congr hs <;> rfl) | apply sound_fallNow | apply sound_modChan
    | apply sound_ite | dsimp only | split | (apply sound_congr (by assumption) <;> rfl))

theorem sound_loRise (w : Nat) (v : Nat) {s : State} (hs : Sound q s) :
    Sound q (loRise w v s) := by
  unfold loRise
  with_reducible repeat' (first
    | assumption | intro _ | (apply sound_congr hs <;> rfl) | apply sound_dropPulse | apply sound_modChan
    | apply sound_ite | dsimp only | split | (apply sound_congr (by assumption) <;> rfl))

theorem sound_deadTimeEnd (w : Nat) (high : Bool) {s : State} (hs : Sound q s) :
    Sound q (deadTimeEnd w high s) := by
  unfold deadTimeEnd
  with_reducible repeat' (first
    | assumption | intro _ | (apply sound_congr hs <;> rfl) | apply sound_keepEdges | apply sound_modChan
    | apply sound_hiRise | apply sound_loRise | apply sound_ite | dsimp only | split
    | (apply sound_congr (by assumption) <;> rfl))

theorem sound_minPulseEnd (w : Nat) {s : State} (hs : Sound q s) :
    Sound q (minPulseEnd w s) := by
  unfold minPulseEnd
  with_reducible repeat' (first
    | assumption | (apply sound_congr hs <;> rfl) | apply sound_fallNow | apply sound_keepEdges | apply sound_ite
    | split)

theorem sound_cmpOnChan (w : Nat) (k : Nat) {s : State} (hs : Sound q s) :
    Sound q (cmpOnChan w k s) := by
  unfold cmpOnChan
  with_reducible repeat' (first
    | assumption | intro _ | (apply sound_congr hs <;> rfl) | apply sound_modChan | apply sound_at_
    | apply sound_lowOff | apply sound_ite | dsimp only | split | (apply sound_congr (by assumption) <;> rfl))

theorem sound_chanWrite (q0 : Nat) (w : Nat) (o : Nat) (v : Word) {s : State} (hs : Sound q s) :
    Sound q (chanWrite q0 w o v s) := by
  unfold chanWrite
  with_reducible repeat' (first
    | assumption | apply sound_conflict | apply sound_plainWrite | apply sound_keepBefore | apply sound_safeRequest
    | apply sound_sendDuty | apply sound_ite | dsimp only | split)

theorem sound_execSwdutyWrite (q0 : Req) (w : ChanId) (v : Word) {s : State} (hs : Sound q s) :
    SoundR q (execSwdutyWrite q0 w v s) := by
  unfold execSwdutyWrite
  with_reducible repeat' (first
    | assumption | intro _ | apply sound_withAccess | apply sound_chanWrite | apply soundR_next)

theorem sound_execChannelEnable (q0 : Req) (w : ChanId) {s : State} (hs : Sound q s) :
    SoundR q (execChannelEnable q0 w s) := by
  unfold execChannelEnable
  with_reducible repeat' (first
    | assumption | intro _ | apply sound_withAccess | apply sound_chanWrite | apply soundR_next | dsimp only)

theorem sound_execChannelDisable (q0 : Req) (w : ChanId) {s : State} (hs : Sound q s) :
    SoundR q (execChannelDisable q0 w s) := by
  unfold execChannelDisable
  with_reducible repeat' (first
    | assumption | intro _ | apply sound_withAccess | apply sound_chanWrite | apply soundR_next | dsimp only)

theorem sound_execCalibrationSettled (w : ChanId) {s : State} (hs : Sound q s) :
    SoundR q (execCalibrationSettled w s) := by
  unfold execCalibrationSettled
  with_reducible repeat' (first
    | assumption | intro _ | apply sound_happens | apply sound_wb | apply soundR_ite | apply sound_ite | dsimp only
    | split)

theorem sound_execEdgeFire (w : ChanId) {s : State} (hs : Sound q s) :
    SoundR q (execEdgeFire w s) := by
  unfold execEdgeFire
  with_reducible repeat' (first
    | assumption | intro _ | apply sound_happens | apply sound_edgeFire)

theorem sound_execDeadTimeEnd (w : ChanId) (high : Bool) {s : State} (hs : Sound q s) :
    SoundR q (execDeadTimeEnd w high s) := by
  unfold execDeadTimeEnd
  with_reducible repeat' (first
    | assumption | intro _ | apply sound_happens | apply sound_deadTimeEnd)

theorem sound_execMinPulseEnd (w : ChanId) {s : State} (hs : Sound q s) :
    SoundR q (execMinPulseEnd w s) := by
  unfold execMinPulseEnd
  with_reducible repeat' (first
    | assumption | intro _ | apply sound_happens | apply sound_minPulseEnd)

theorem sound_almTest (c : Nat) (commit : Bool) {s : State} (hs : Sound q s) :
    Sound q (almTest c commit s) := by
  unfold almTest
  with_reducible repeat' (first
    | assumption | intro _ | (apply sound_congr hs <;> rfl) | apply sound_modCell | apply sound_cellCfgErr
    | apply sound_conflict | apply sound_ite | dsimp only | split | (apply sound_congr (by assumption) <;> rfl))

theorem sound_withFreeze (f : State → State) {s : State} (hf1 : ∀ x0, Sound q x0 → Sound q (f x0)) (hs : Sound q s) :
    Sound q (withFreeze f s) := by
  unfold withFreeze
  with_reducible repeat' (first
    | assumption | intro _ | apply hf1 | apply sound_forAll | apply sound_cellEvent | apply sound_ite | dsimp only
    | split)

theorem sound_readBin (c : Nat) (b : Nat) (i : Nat) {s : State} (hs : Sound q s) :
    Sound q (readBin c b i s).2 := by
  unfold readBin
  with_reducible repeat' (first
    | assumption | apply sound_recordParity | apply sound_ite | dsimp only | split)

theorem sound_binTakeBack {s : State} (a : Nat) (hs : Sound q s) : Sound q (binTakeBack s a) := by
  unfold binTakeBack
  split
  · next x _ =>
    exact sound_ite (sound_congr (sound_wrMem hs a x.2) rfl rfl rfl rfl rfl rfl rfl) (sound_wrMem hs a x.2)
  · exact hs

theorem sound_almUpdate (c : Nat) (b : Nat) (θ : Nat) (e : Int) {s : State} (hs : Sound q s) :
    Sound q (almUpdate c b θ e s) := by
  unfold almUpdate
  with_reducible repeat' (first
    | assumption | intro _ | apply sound_binTakeBack | apply sound_readBin | apply sound_mapSched
    | apply sound_foldl | dsimp only)

theorem sound_channelConflicts (c : Nat) {s : State} (hs : Sound q s) :
    Sound q (channelConflicts c s) := by
  unfold channelConflicts
  with_reducible repeat' (first
    | assumption | intro _ | apply sound_conflict | apply sound_ite | apply sound_foldl | dsimp only | split)

theorem sound_bankActive (c : Nat) {s : State} (hs : Sound q s) :
    Sound q (bankActive c s) := by
  unfold bankActive
  with_reducible repeat' (first
    | assumption | apply sound_cellCfgErr | apply sound_almTest | apply sound_channelConflicts | apply sound_ite
    | dsimp only | split)

theorem sound_cellChannelsSafe (c : Nat) {s : State} (hs : Sound q s) :
    Sound q (cellChannelsSafe c s) := by
  unfold cellChannelsSafe
  with_reducible repeat' (first
    | assumption | intro _ | apply sound_forAll | apply sound_safeRequest | apply sound_ite | dsimp only | split)

theorem sound_showRun (c : Nat) (run : Bool) {s : State} (hs : Sound q s) :
    Sound q (showRun c run s) := by
  unfold showRun
  with_reducible repeat' (first
    | assumption | apply sound_wb)

theorem sound_cellStart (c : Nat) {s : State} (hs : Sound q s) :
    Sound q (cellStart c s) := by
  unfold cellStart
  with_reducible repeat' (first
    | assumption | intro _ | (apply sound_congr hs <;> rfl) | apply sound_modCell | apply sound_channelConflicts
    | apply sound_showRun | dsimp only | (apply sound_congr (by assumption) <;> rfl))

theorem sound_cellHold (c : Nat) {s : State} (hs : Sound q s) :
    Sound q (cellHold c s) := by
  unfold cellHold
  with_reducible repeat' (first
    | assumption | intro _ | (apply sound_congr hs <;> rfl) | apply sound_modCell | apply sound_cellChannelsSafe
    | apply sound_showRun | dsimp only | (apply sound_congr (by assumption) <;> rfl))

theorem sound_swapStates (c : Nat) (old : Nat) {s : State} (hs : Sound q s) :
    Sound q (swapStates c old s) := by
  unfold swapStates
  with_reducible repeat' (first
    | assumption | intro _ | (apply sound_congr hs <;> rfl) | apply sound_modCell | apply sound_ite | dsimp only
    | split | (apply sound_congr (by assumption) <;> rfl))

theorem sound_commitOutcome (c : Nat) (k : Nat) {s : State} (hs : Sound q s) :
    Sound q (commitOutcome c k s) := by
  unfold commitOutcome
  with_reducible repeat' (first
    | assumption | intro _ | (apply sound_congr hs <;> rfl) | apply sound_mapHostif | dsimp only
    | (apply sound_congr (by assumption) <;> rfl))

theorem sound_bankSwap (c : Nat) {s : State} (hs : Sound q s) :
    Sound q (bankSwap c s) := by
  unfold bankSwap
  with_reducible repeat' (first
    | assumption | intro _ | (apply sound_congr hs <;> rfl) | apply sound_mapCyc | apply sound_keepBefore
    | apply sound_loadBank | apply sound_wf | apply sound_wb | apply sound_commitOutcome | apply sound_cellEvent
    | apply sound_swapStates | dsimp only | (apply sound_congr (by assumption) <;> rfl))

theorem sound_driveCheck {before : State} (c : Nat) {s : State} (hbefore : Sound q before) (hs : Sound q s) :
    Sound q (driveCheck before c s) := by
  unfold driveCheck
  with_reducible repeat' (first
    | assumption | apply sound_cellChannelsSafe | apply sound_cellCfgErr | apply sound_ite | dsimp only | split)

theorem sound_commitReject (c : Nat) (k : Nat) {s : State} (hs : Sound q s) :
    Sound q (commitReject c k s) := by
  unfold commitReject
  with_reducible repeat' (first
    | assumption | intro _ | (apply sound_congr hs <;> rfl) | apply sound_modCell | apply sound_commitOutcome
    | apply sound_cellEvent | apply sound_wb | dsimp only | (apply sound_congr (by assumption) <;> rfl))

theorem sound_commitGroup (set : List Nat) {s : State} (hs : Sound q s) :
    Sound q (commitGroup set s) := by
  unfold commitGroup
  with_reducible repeat' (first
    | assumption | intro _ | (apply sound_congr hs <;> rfl) | apply sound_commitReject | apply sound_recordParity
    | apply sound_bankSwap | apply sound_bankActive | apply sound_forAll | apply sound_driveCheck
    | apply sound_seqFault | apply sound_ite | apply sound_foldl | dsimp only | split
    | (apply sound_congr (by assumption) <;> rfl))

theorem sound_commitNow (w : Option Nat) {s : State} (hs : Sound q s) :
    Sound q (commitNow w s) := by
  unfold commitNow
  with_reducible repeat' (first
    | assumption | apply sound_commitGroup | apply sound_ite | split)

theorem sound_cellOff (c : Nat) (cause : Nat) {s : State} (hs : Sound q s) :
    Sound q (cellOff c cause s) := by
  unfold cellOff
  with_reducible repeat' (first
    | assumption | intro _ | (apply sound_congr hs <;> rfl) | apply sound_modCell | apply sound_wb | apply sound_ite
    | dsimp only | split | (apply sound_congr (by assumption) <;> rfl))

theorem sound_cellStop (c : Nat) (cause : Nat) {s : State} (hs : Sound q s) :
    Sound q (cellStop c cause s) := by
  unfold cellStop
  with_reducible repeat' (first
    | assumption | intro _ | (apply sound_congr hs <;> rfl) | apply sound_wf | apply sound_modCell
    | apply sound_mapCyc | apply sound_cellOff | apply sound_commitNow | apply sound_cellChannelsSafe
    | apply sound_showRun | apply sound_ite | dsimp only | split | (apply sound_congr (by assumption) <;> rfl))

theorem sound_commitAsk (c : Nat) {s : State} (hs : Sound q s) :
    Sound q (commitAsk c s) := by
  unfold commitAsk
  with_reducible repeat' (first
    | assumption | intro _ | (apply sound_congr hs <;> rfl) | apply sound_wb | apply sound_modCell | apply sound_ite
    | dsimp only | split | (apply sound_congr (by assumption) <;> rfl))

theorem sound_commitAck (c : Nat) {s : State} (hs : Sound q s) :
    Sound q (commitAck c s) := by
  unfold commitAck
  with_reducible repeat' (first
    | assumption | intro _ | (apply sound_congr hs <;> rfl) | apply sound_wb | apply sound_modCell | apply sound_ite
    | dsimp only | split | (apply sound_congr (by assumption) <;> rfl))

theorem sound_commitWrite (c : Nat) (v : Word) {s : State} (hs : Sound q s) :
    Sound q (commitWrite c v s) := by
  unfold commitWrite
  with_reducible repeat' (first
    | assumption | apply sound_commitAck | apply sound_commitAsk | apply sound_ite | dsimp only | split)

theorem sound_bankCopy (c : Nat) {s : State} (hs : Sound q s) : Sound q (bankCopy c s) := by
  unfold bankCopy
  refine sound_ite hs (sound_forAll _ _ (fun w t ht => ?_) (sound_modCell hs c _))
  refine sound_ite (sound_congr (sound_setBankWord ht c _ w _) rfl rfl rfl rfl rfl rfl rfl) (sound_setBankWord ht c _ w _)

theorem sound_checkComplete (c : Nat) {s : State} (hs : Sound q s) :
    Sound q (checkComplete c s) := by
  unfold checkComplete
  with_reducible repeat' (first
    | assumption | intro _ | (apply sound_congr hs <;> rfl) | apply sound_bankCopy | apply sound_modCell
    | apply sound_at_ | dsimp only | (apply sound_congr (by assumption) <;> rfl))

theorem sound_stagingWrite (c : Nat) (w : Nat) (v : Word) {s : State} (hs : Sound q s) :
    Sound q (stagingWrite c w v s) := by
  unfold stagingWrite
  with_reducible repeat' (first
    | assumption | apply sound_bankCopy | apply sound_cellCfgErr | apply sound_setBankWord | apply sound_ite
    | dsimp only | split)

theorem sound_cellCtrlWrite (c : Nat) (v : Word) {s : State} (hs : Sound q s) :
    Sound q (cellCtrlWrite c v s) := by
  unfold cellCtrlWrite
  with_reducible repeat' (first
    | assumption | intro _ | (apply sound_congr hs <;> rfl) | apply sound_cellCfgErr | apply sound_wf
    | apply sound_mapCyc | apply sound_wb | apply sound_modCell | apply sound_cellStop | apply sound_ite
    | dsimp only | split | (apply sound_congr (by assumption) <;> rfl))

theorem sound_seqCtrlWrite (c : Nat) (v : Word) {s : State} (hs : Sound q s) :
    Sound q (seqCtrlWrite c v s) := by
  unfold seqCtrlWrite
  with_reducible repeat' (first
    | assumption | intro _ | (apply sound_congr hs <;> rfl) | apply sound_modProc | apply sound_cellCfgErr
    | apply sound_wb | apply sound_ite | dsimp only | split | (apply sound_congr (by assumption) <;> rfl))

theorem sound_cellRegWrite (c : Nat) (o : Nat) (v : Word) {s : State} (hs : Sound q s) :
    Sound q (cellRegWrite c o v s) := by
  unfold cellRegWrite
  with_reducible repeat' (first
    | assumption | apply sound_cellCtrlWrite | apply sound_seqCtrlWrite | apply sound_commitWrite
    | apply sound_stagingWrite | apply sound_plainWrite | apply sound_ite | split)

theorem sound_feFire (c : Nat) {s : State} (hs : Sound q s) :
    Sound q (feFire c s) := by
  unfold feFire
  with_reducible repeat' (first
    | assumption | intro _ | (apply sound_congr hs <;> rfl) | apply sound_cellEvent | apply sound_modCell
    | apply sound_cellStop | apply sound_ite | dsimp only | split | (apply sound_congr (by assumption) <;> rfl))

theorem sound_feEvaluate (c : Nat) (len : Nat) {s : State} (hs : Sound q s) :
    Sound q (feEvaluate c len s) := by
  unfold feEvaluate
  with_reducible repeat' (first
    | assumption | intro _ | (apply sound_congr hs <;> rfl) | apply sound_ctrAdd | apply sound_modCell
    | apply sound_withFreeze | apply sound_feFire | apply sound_ite | dsimp only | split
    | (apply sound_congr (by assumption) <;> rfl))

theorem sound_vecLoad (c : Nat) {s : State} (hs : Sound q s) :
    Sound q (vecLoad c s) := by
  unfold vecLoad
  with_reducible repeat' (first
    | assumption | intro _ | (apply sound_congr hs <;> rfl) | apply sound_modCell | dsimp only
    | (apply sound_congr (by assumption) <;> rfl))

theorem sound_cellMode (c : Nat) {s : State} (hs : Sound q s) :
    Sound q (cellMode c s) := by
  unfold cellMode
  with_reducible repeat' (first
    | assumption | intro _ | (apply sound_congr hs <;> rfl) | apply sound_cellHold | apply sound_modCell
    | apply sound_cellStart | apply sound_showRun | apply sound_ite | dsimp only | split
    | (apply sound_congr (by assumption) <;> rfl))

theorem sound_cellBoundary (c : Nat) (len : Nat) {s : State} (hs : Sound q s) :
    Sound q (cellBoundary c len s) := by
  unfold cellBoundary
  with_reducible repeat' (first
    | assumption | intro _ | (apply sound_congr hs <;> rfl) | apply sound_cellEvent | apply sound_cellMode
    | apply sound_modCell | apply sound_vecLoad | apply sound_feEvaluate | apply sound_ite | dsimp only | split
    | (apply sound_congr (by assumption) <;> rfl))

theorem sound_cellsBoundary (w : Nat) {s : State} (hs : Sound q s) :
    Sound q (cellsBoundary w s) := by
  unfold cellsBoundary
  with_reducible repeat' (first
    | assumption | intro _ | apply sound_commitNow | apply sound_cellBoundary | apply sound_foldl | dsimp only)

theorem sound_periodBoundary (w : Nat) {s : State} (hs : Sound q s) :
    Sound q (periodBoundary w s) := by
  unfold periodBoundary
  with_reducible repeat' (first
    | assumption | apply sound_settle | apply sound_cellsBoundary | apply sound_chanLoad | apply sound_chanPeriod
    | dsimp only)

theorem sound_execPeriodBoundary (w : ChanId) {s : State} (hs : Sound q s) :
    SoundR q (execPeriodBoundary w s) := by
  unfold execPeriodBoundary
  with_reducible repeat' (first
    | assumption | intro _ | apply sound_happens | apply sound_periodBoundary)

theorem sound_cellAccess (q0 : Req) (c : CellId) (o : Nat) (eff : State → State) {s : State} (hf1 : ∀ x0, Sound q x0 → Sound q (eff x0)) (hs : Sound q s) :
    SoundR q (cellAccess q0 c o eff s) := by
  unfold cellAccess
  with_reducible repeat' (first
    | assumption | intro _ | apply hf1 | apply sound_withAccess | apply soundR_ite | apply sound_ite
    | apply soundR_next | dsimp only | split)

theorem sound_execCellEnable (q0 : Req) (c : CellId) {s : State} (hs : Sound q s) :
    SoundR q (execCellEnable q0 c s) := by
  unfold execCellEnable
  with_reducible repeat' (first
    | assumption | intro _ | apply sound_cellAccess | apply sound_cellCtrlWrite | dsimp only)

theorem sound_execCellDisable (q0 : Req) (c : CellId) {s : State} (hs : Sound q s) :
    SoundR q (execCellDisable q0 c s) := by
  unfold execCellDisable
  with_reducible repeat' (first
    | assumption | intro _ | apply sound_cellAccess | apply sound_cellCtrlWrite | dsimp only)

theorem sound_execCellStandby (q0 : Req) (c : CellId) (v : Word) {s : State} (hs : Sound q s) :
    SoundR q (execCellStandby q0 c v s) := by
  unfold execCellStandby
  with_reducible repeat' (first
    | assumption | intro _ | apply sound_cellAccess | apply sound_plainWrite)

theorem sound_execCommit (q0 : Req) (c : CellId) {s : State} (hs : Sound q s) :
    SoundR q (execCommit q0 c s) := by
  unfold execCommit
  with_reducible repeat' (first
    | assumption | intro _ | apply sound_cellAccess | apply sound_commitAsk)

theorem sound_execCommitAck (q0 : Req) (c : CellId) {s : State} (hs : Sound q s) :
    SoundR q (execCommitAck q0 c s) := by
  unfold execCommitAck
  with_reducible repeat' (first
    | assumption | intro _ | apply sound_cellAccess | apply sound_commitAck)

theorem sound_execCommitCheckComplete (c : CellId) {s : State} (hs : Sound q s) :
    SoundR q (execCommitCheckComplete c s) := by
  unfold execCommitCheckComplete
  with_reducible repeat' (first
    | assumption | intro _ | apply sound_happens | apply sound_checkComplete)

theorem sound_execBankCopyComplete (c : CellId) {s : State} (hs : Sound q s) :
    SoundR q (execBankCopyComplete c s) := by
  unfold execBankCopyComplete
  with_reducible repeat' (first
    | assumption | intro _ | apply sound_happens | apply sound_bankCopy)

theorem sound_execStagingWrite (q0 : Req) (c : CellId) (w : Fin 128) (v : Word) {s : State} (hs : Sound q s) :
    SoundR q (execStagingWrite q0 c w v s) := by
  unfold execStagingWrite
  with_reducible repeat' (first
    | assumption | intro _ | apply sound_cellAccess | apply sound_stagingWrite)

theorem sound_execSequencerStart (q0 : Req) (c : CellId) {s : State} (hs : Sound q s) :
    SoundR q (execSequencerStart q0 c s) := by
  unfold execSequencerStart
  with_reducible repeat' (first
    | assumption | intro _ | apply sound_withAccess | apply sound_seqCtrlWrite | apply soundR_ite | apply sound_ite
    | apply soundR_next | dsimp only | split)

theorem sound_execSequencerStop (q0 : Req) (c : CellId) {s : State} (hs : Sound q s) :
    SoundR q (execSequencerStop q0 c s) := by
  unfold execSequencerStop
  with_reducible repeat' (first
    | assumption | intro _ | apply sound_withAccess | apply sound_seqCtrlWrite | apply soundR_ite | apply sound_ite
    | apply soundR_next | dsimp only | split)

theorem sound_execSequencerHalt (c : CellId) {s : State} (hs : Sound q s) :
    SoundR q (execSequencerHalt c s) := by
  unfold execSequencerHalt
  with_reducible repeat' (first
    | assumption | intro _ | apply sound_happens | apply sound_seqHalt | dsimp only)

theorem sound_angleCheck (c : Nat) {s : State} (hs : Sound q s) :
    Sound q (angleCheck c s) := by
  unfold angleCheck
  with_reducible repeat' (first
    | assumption | apply sound_wb | apply sound_ite | dsimp only | split)

theorem sound_voidJob (t : Nat) (c : Nat) {s : State} (hs : Sound q s) :
    Sound q (voidJob t c s) := by
  unfold voidJob
  with_reducible repeat' (first
    | assumption | intro _ | (apply sound_congr hs <;> rfl) | apply sound_modVec | apply sound_forAll
    | apply sound_modCell | apply sound_cellEvent | apply sound_ite | dsimp only | split
    | (apply sound_congr (by assumption) <;> rfl))

theorem sound_forwardArrives (c : Nat) (at_ : Nat) {s : State} (hs : Sound q s) :
    Sound q (forwardArrives c at_ s) := by
  unfold forwardArrives
  with_reducible repeat' (first
    | assumption | intro _ | (apply sound_congr hs <;> rfl) | apply sound_at_ | apply sound_voidJob
    | apply sound_modCell | apply sound_modVec | apply sound_ite | dsimp only | split
    | (apply sound_congr (by assumption) <;> rfl))

theorem sound_driveSlot (c : Nat) (e : Nat) (at_ : Nat) {s : State} (hs : Sound q s) :
    Sound q (driveSlot c e at_ s) := by
  unfold driveSlot
  with_reducible repeat' (first
    | assumption | intro _ | (apply sound_congr hs <;> rfl) | apply sound_modCell | apply sound_forwardArrives
    | apply sound_at_ | apply sound_ite | dsimp only | split | (apply sound_congr (by assumption) <;> rfl))

theorem sound_inverseArrives (c : Nat) (d : Nat) (dq : Int × Int) {s : State} (hs : Sound q s) :
    Sound q (inverseArrives c d dq s) := by
  unfold inverseArrives
  with_reducible repeat' (first
    | assumption | intro _ | (apply sound_congr hs <;> rfl) | apply sound_modCell | apply sound_modVec | dsimp only
    | (apply sound_congr (by assumption) <;> rfl))

theorem sound_qCommand (c : Nat) (d : Nat) (u : Int) {s : State} (hs : Sound q s) :
    Sound q (qCommand c d u s) := by
  unfold qCommand
  with_reducible repeat' (first
    | assumption | intro _ | (apply sound_congr hs <;> rfl) | apply sound_inverseArrives | apply sound_modCell
    | apply sound_ite | dsimp only | split | (apply sound_congr (by assumption) <;> rfl))

theorem sound_dCommand (c : Nat) (d : Nat) (u : Int) {s : State} (hs : Sound q s) :
    Sound q (dCommand c d u s) := by
  unfold dCommand
  with_reducible repeat' (first
    | assumption | intro _ | (apply sound_congr hs <;> rfl) | apply sound_inverseArrives | apply sound_modCell
    | dsimp only | split | (apply sound_congr (by assumption) <;> rfl))

theorem sound_showWait (c : Nat) (n : Nat) {s : State} (hs : Sound q s) :
    Sound q (showWait c n s) := by
  unfold showWait
  with_reducible repeat' (first
    | assumption | apply sound_wf)

theorem sound_forwardStart (t : Nat) {s : State} (hs : Sound q s) :
    Sound q (forwardStart t s) := by
  unfold forwardStart
  with_reducible repeat' (first
    | assumption | intro _ | (apply sound_congr hs <;> rfl) | apply sound_showWait | apply sound_angleCheck
    | apply sound_modVec | dsimp only | split | (apply sound_congr (by assumption) <;> rfl))

theorem sound_inverseStart (t : Nat) {s : State} (hs : Sound q s) :
    Sound q (inverseStart t s) := by
  unfold inverseStart
  with_reducible repeat' (first
    | assumption | intro _ | (apply sound_congr hs <;> rfl) | apply sound_showWait | apply sound_angleCheck
    | apply sound_wr | apply sound_wb | apply sound_modVec | apply sound_ite | dsimp only | split
    | (apply sound_congr (by assumption) <;> rfl))

theorem sound_phaseDuty (c : Nat) (e : Nat) (x : Int) {s : State} (hs : Sound q s) :
    Sound q (phaseDuty c e x s) := by
  unfold phaseDuty
  with_reducible repeat' (first
    | assumption | apply sound_sendDuty | apply sound_ite | dsimp only | split)

theorem sound_inverseEnd (t : Nat) {s : State} (hs : Sound q s) :
    Sound q (inverseEnd t s) := by
  unfold inverseEnd
  with_reducible repeat' (first
    | assumption | intro _ | (apply sound_congr hs <;> rfl) | apply sound_modVec | apply sound_phaseDuty
    | apply sound_ite | dsimp only | split | (apply sound_congr (by assumption) <;> rfl))

theorem sound_execForwardJobStart (t : Turret) {s : State} (hs : Sound q s) :
    SoundR q (execForwardJobStart t s) := by
  unfold execForwardJobStart
  with_reducible repeat' (first
    | assumption | intro _ | apply sound_happens | apply sound_forwardStart)

theorem sound_execInverseJobStart (t : Turret) {s : State} (hs : Sound q s) :
    SoundR q (execInverseJobStart t s) := by
  unfold execInverseJobStart
  with_reducible repeat' (first
    | assumption | intro _ | apply sound_happens | apply sound_inverseStart)

theorem sound_execInverseJobEnd (t : Turret) {s : State} (hs : Sound q s) :
    SoundR q (execInverseJobEnd t s) := by
  unfold execInverseJobEnd
  with_reducible repeat' (first
    | assumption | intro _ | apply sound_happens | apply sound_inverseEnd)

theorem sound_almTerm (c : Nat) (θ : Nat) {s : State} (hs : Sound q s) :
    Sound q (almTerm c θ s).2 := by
  unfold almTerm
  with_reducible repeat' (first
    | assumption | apply sound_readBin | apply sound_ite | dsimp only | split)

theorem sound_fpStart (c : Nat) (t : Nat) (job : Option (Nat × Nat)) {s : State} (hs : Sound q s) :
    Sound q (fpStart c t job s) := by
  unfold fpStart
  with_reducible repeat' (first
    | assumption | intro _ | (apply sound_congr hs <;> rfl) | apply sound_almTerm | apply sound_modCell
    | apply sound_ite | dsimp only | split | (apply sound_congr (by assumption) <;> rfl))

theorem sound_cellSlot (c : Nat) (e : Nat) (t : Nat) {s : State} (hs : Sound q s) :
    Sound q (cellSlot c e t s) := by
  unfold cellSlot
  with_reducible repeat' (first
    | assumption | intro _ | (apply sound_congr hs <;> rfl) | apply sound_modCell | apply sound_fpStart
    | apply sound_ite | dsimp only | split | (apply sound_congr (by assumption) <;> rfl))

theorem sound_fpStates (c : Nat) (f : FastPath) {s : State} (hs : Sound q s) :
    Sound q (fpStates c f s) := by
  unfold fpStates
  with_reducible repeat' (first
    | assumption | intro _ | (apply sound_congr hs <;> rfl) | apply sound_modCell | dsimp only | split
    | (apply sound_congr (by assumption) <;> rfl))

theorem sound_fpRegisters (c : Nat) (f : FastPath) {s : State} (hs : Sound q s) :
    Sound q (fpRegisters c f s) := by
  unfold fpRegisters
  with_reducible repeat' (first
    | assumption | intro _ | (apply sound_congr hs <;> rfl) | apply sound_modCell | apply sound_keepBefore
    | apply sound_wr | dsimp only | (apply sound_congr (by assumption) <;> rfl))

theorem sound_sendCascade (c : Nat) (u : Int) {s : State} (hs : Sound q s) :
    Sound q (sendCascade c u s) := by
  unfold sendCascade
  with_reducible repeat' (first
    | assumption | intro _ | (apply sound_congr hs <;> rfl) | apply sound_modCell | dsimp only
    | (apply sound_congr (by assumption) <;> rfl))

theorem sound_fpOutput (c : Nat) (f : FastPath) {s : State} (hs : Sound q s) :
    Sound q (fpOutput c f s) := by
  unfold fpOutput
  with_reducible repeat' (first
    | assumption | intro _ | (apply sound_congr hs <;> rfl) | apply sound_sendDuty | apply sound_dCommand
    | apply sound_qCommand | apply sound_ite | apply sound_foldl | dsimp only | split
    | (apply sound_congr (by assumption) <;> rfl))

theorem sound_fpLearn (c : Nat) (f : FastPath) {s : State} (hs : Sound q s) :
    Sound q (fpLearn c f s) := by
  unfold fpLearn
  with_reducible repeat' (first
    | assumption | apply sound_almUpdate | apply sound_ite | dsimp only | split)

theorem sound_fpComplete (c : Nat) {s : State} (hs : Sound q s) :
    Sound q (fpComplete c s) := by
  unfold fpComplete
  with_reducible repeat' (first
    | assumption | (apply sound_congr hs <;> rfl) | apply sound_fpLearn | apply sound_fpOutput
    | apply sound_sendCascade | apply sound_fpRegisters | apply sound_fpStates | split)

theorem sound_vectorTrigger (c : Nat) (job : Nat × Nat) {s : State} (hs : Sound q s) :
    Sound q (vectorTrigger c job s) := by
  unfold vectorTrigger
  with_reducible repeat' (first
    | assumption | apply sound_fpStart | apply sound_ite | split)

theorem sound_forwardEnd (t : Nat) {s : State} (hs : Sound q s) :
    Sound q (forwardEnd t s) := by
  unfold forwardEnd
  with_reducible repeat' (first
    | assumption | intro _ | (apply sound_congr hs <;> rfl) | apply sound_modVec | apply sound_wr
    | apply sound_modCell | apply sound_vectorTrigger | apply sound_ite | dsimp only | split
    | (apply sound_congr (by assumption) <;> rfl))

theorem sound_execFastPathComplete (c : CellId) {s : State} (hs : Sound q s) :
    SoundR q (execFastPathComplete c s) := by
  unfold execFastPathComplete
  with_reducible repeat' (first
    | assumption | intro _ | apply sound_happens | apply sound_fpComplete)

theorem sound_execForwardJobEnd (t : Turret) {s : State} (hs : Sound q s) :
    SoundR q (execForwardJobEnd t s) := by
  unfold execForwardJobEnd
  with_reducible repeat' (first
    | assumption | intro _ | apply sound_happens | apply sound_forwardEnd)

theorem sound_tripStart (i : Nat) {s : State} (hs : Sound q s) :
    Sound q (tripStart i s) := by
  unfold tripStart
  with_reducible repeat' (first
    | assumption | intro _ | apply sound_bump | apply sound_forAll | apply sound_ctrAdd | apply sound_logEvent
    | apply sound_ite | dsimp only | split)

theorem sound_tripFlag (i : Nat) (t : Nat) {s : State} (hs : Sound q s) :
    Sound q (tripFlag i t s) := by
  unfold tripFlag
  with_reducible repeat' (first
    | assumption | apply sound_wb | apply sound_wr | apply sound_wrWide | apply sound_ite | dsimp only | split)

theorem sound_tripStop (i : Nat) {s : State} (hs : Sound q s) :
    Sound q (tripStop i s) := by
  unfold tripStop
  with_reducible repeat' (first
    | assumption | intro _ | apply sound_forAll | apply sound_cellEvent | apply sound_cellStop | apply sound_ite
    | dsimp only | split)

theorem sound_trip (i : Nat) (start : Bool) {s : State} (hs : Sound q s) :
    Sound q (trip i start s) := by
  unfold trip
  with_reducible repeat' (first
    | assumption | intro _ | (apply sound_congr hs <;> rfl) | apply sound_withFreeze | apply sound_forAll
    | apply sound_safeRequest | apply sound_tripStop | apply sound_tripFlag | apply sound_modCell
    | apply sound_tripStart | apply sound_ite | dsimp only | split | (apply sound_congr (by assumption) <;> rfl))

theorem sound_cmpOff (n : Nat) {s : State} (hs : Sound q s) :
    Sound q (cmpOff n s) := by
  unfold cmpOff
  with_reducible repeat' (first
    | assumption | intro _ | (apply sound_congr hs <;> rfl) | apply sound_wb | apply sound_modComp | dsimp only
    | (apply sound_congr (by assumption) <;> rfl))

theorem sound_cmpFire (n : Nat) {s : State} (hs : Sound q s) :
    Sound q (cmpFire n s) := by
  unfold cmpFire
  with_reducible repeat' (first
    | assumption | intro _ | apply sound_wb | apply sound_cellEvent | apply sound_forAll | apply sound_cmpOnChan
    | apply sound_ite | dsimp only | split)

theorem sound_tripSoon (i : Nat) {s : State} (hs : Sound q s) :
    Sound q (tripSoon i s) := by
  unfold tripSoon
  with_reducible repeat' (first
    | assumption | apply sound_trip | apply sound_setProtWas | apply sound_at_ | apply sound_ite | dsimp only
    | split)

theorem sound_protScan {s : State} (hs : Sound q s) :
    Sound q (protScan s) := by
  unfold protScan
  with_reducible repeat' (first
    | assumption | intro _ | apply sound_forAll | apply sound_tripSoon | apply sound_ite | dsimp only | split)

theorem sound_protTick {s : State} (hs : Sound q s) :
    Sound q (protTick s) := by
  unfold protTick
  with_reducible repeat' (first
    | assumption | intro _ | apply sound_protScan | apply sound_setProtWas | dsimp only)

theorem sound_cmpChange (n : Nat) (level : Nat) {s : State} (hs : Sound q s) :
    Sound q (cmpChange n level s) := by
  unfold cmpChange
  with_reducible repeat' (first
    | assumption | apply sound_wb | apply sound_cmpFire | apply sound_protScan | apply sound_ite | dsimp only
    | split)

theorem sound_blankingEnd (n : Nat) {s : State} (hs : Sound q s) :
    Sound q (blankingEnd n s) := by
  unfold blankingEnd
  with_reducible repeat' (first
    | assumption | intro _ | (apply sound_congr hs <;> rfl) | apply sound_modComp | apply sound_protScan
    | apply sound_cmpFire | apply sound_ite | dsimp only | split | (apply sound_congr (by assumption) <;> rfl))

theorem sound_protSafe {s : State} (hs : Sound q s) :
    Sound q (protSafe s) := by
  unfold protSafe
  with_reducible repeat' (first
    | assumption | intro _ | apply sound_forAll | apply sound_safeRequest | apply sound_ite | dsimp only | split)

theorem sound_protCfgWrite (q0 : Nat) (i : Nat) (v : Word) {s : State} (hs : Sound q s) :
    Sound q (protCfgWrite q0 i v s) := by
  unfold protCfgWrite
  with_reducible repeat' (first
    | assumption | apply sound_plainWrite | apply sound_setProtWas | apply sound_wb | apply sound_protSafe
    | apply sound_protScan | apply sound_chansRecheck | apply sound_setOwner | apply sound_ite | dsimp only | split)

theorem sound_protLockWrite (q0 : Nat) (v : Word) {s : State} (hs : Sound q s) :
    Sound q (protLockWrite q0 v s) := by
  unfold protLockWrite
  with_reducible repeat' (first
    | assumption | intro _ | (apply sound_congr hs <;> rfl) | apply sound_wb | apply sound_mapBoot | apply sound_ite
    | dsimp only | split | (apply sound_congr (by assumption) <;> rfl) | rfl)

theorem sound_protTripWrite (q0 : Nat) (v : Word) {s : State} (hs : Sound q s) :
    Sound q (protTripWrite q0 v s) := by
  unfold protTripWrite
  with_reducible repeat' (first
    | assumption | apply sound_plainWrite | apply sound_ite | split)

theorem sound_protWrite (q0 : Nat) (a : Nat) (v : Word) {s : State} (hs : Sound q s) :
    Sound q (protWrite q0 a v s) := by
  unfold protWrite
  with_reducible repeat' (first
    | assumption | apply sound_protLockWrite | apply sound_protTripWrite | apply sound_protCfgWrite
    | apply sound_protSafe | apply sound_plainWrite | apply sound_ite | split)

theorem sound_execComparatorChange (k : Fin 64) (level : Nat) {s : State} (hs : Sound q s) :
    SoundR q (execComparatorChange k level s) := by
  unfold execComparatorChange
  with_reducible repeat' (first
    | assumption | intro _ | apply sound_happens | apply sound_cmpChange)

theorem sound_unblank (n : Nat) {s : State} (hs : Sound q s) :
    Sound q (unblank n s) := by
  unfold unblank
  with_reducible repeat' (first
    | assumption | apply sound_cmpFire | apply sound_ite | split)

theorem sound_execBlankingEnd (k : Fin 64) {s : State} (hs : Sound q s) :
    SoundR q (execBlankingEnd k s) := by
  unfold execBlankingEnd
  with_reducible repeat' (first
    | assumption | intro _ | apply sound_happens | apply sound_blankingEnd)

theorem sound_execProtTripClear (q0 : Req) (v : Word) {s : State} (hs : Sound q s) :
    SoundR q (execProtTripClear q0 v s) := by
  unfold execProtTripClear
  with_reducible repeat' (first
    | assumption | intro _ | apply sound_withAccess | apply sound_protTripWrite | apply soundR_next)

theorem sound_execProtEntryEnable (q0 : Req) (i : Fin 16) (v : Word) {s : State} (hs : Sound q s) :
    SoundR q (execProtEntryEnable q0 i v s) := by
  unfold execProtEntryEnable
  with_reducible repeat' (first
    | assumption | intro _ | apply sound_withAccess | apply sound_protCfgWrite | apply soundR_next)

theorem sound_execProtLock (q0 : Req) (v : Word) {s : State} (hs : Sound q s) :
    SoundR q (execProtLock q0 v s) := by
  unfold execProtLock
  with_reducible repeat' (first
    | assumption | intro _ | apply sound_withAccess | apply sound_protLockWrite | apply soundR_next)

theorem sound_adcCfgErr (t : Nat) {s : State} (hs : Sound q s) :
    Sound q (adcCfgErr t s) := by
  unfold adcCfgErr
  with_reducible repeat' (first
    | assumption | apply sound_wb)

theorem sound_dropRequest (t : Nat) {s : State} (hs : Sound q s) :
    Sound q (dropRequest t s) := by
  unfold dropRequest
  with_reducible repeat' (first
    | assumption | apply sound_wb | apply sound_bump)

theorem sound_queueRequest (i : Nat) (at_ : Nat) {s : State} (hs : Sound q s) :
    Sound q (queueRequest i at_ s) := by
  unfold queueRequest
  with_reducible repeat' (first
    | assumption | intro _ | (apply sound_congr hs <;> rfl) | apply sound_at_ | apply sound_dropRequest
    | apply sound_modConv | apply sound_ite | dsimp only | split | (apply sound_congr (by assumption) <;> rfl))

theorem sound_requestBurst (i : Nat) (at_ : Nat) {s : State} (hs : Sound q s) :
    Sound q (requestBurst i at_ s) := by
  unfold requestBurst
  with_reducible repeat' (first
    | assumption | apply sound_adcCfgErr | apply sound_queueRequest | apply sound_at_ | apply sound_ite | dsimp only
    | split)

theorem sound_fixedTrigger (i : Nat) (f : Nat × Nat × Nat) {s : State} (hs : Sound q s) :
    Sound q (fixedTrigger i f s) := by
  unfold fixedTrigger
  with_reducible repeat' (first
    | assumption | apply sound_requestBurst | apply sound_ite | dsimp only | split)

theorem sound_adcTrigger (i : Nat) {s : State} (hs : Sound q s) :
    Sound q (adcTrigger i s) := by
  unfold adcTrigger
  with_reducible repeat' (first
    | assumption | intro _ | (apply sound_congr hs <;> rfl) | apply sound_requestBurst | apply sound_fixedTrigger
    | apply sound_modEntryS | apply sound_ite | dsimp only | split | (apply sound_congr (by assumption) <;> rfl))

theorem sound_softTrigger (t : Nat) (v : Word) {s : State} (hs : Sound q s) :
    Sound q (softTrigger t v s) := by
  unfold softTrigger
  with_reducible repeat' (first
    | assumption | intro _ | apply sound_forAll | apply sound_at_ | apply sound_ite | dsimp only | split)

theorem sound_softwareDue (i : Nat) {s : State} (hs : Sound q s) :
    Sound q (softwareDue i s) := by
  unfold softwareDue
  with_reducible repeat' (first
    | assumption | apply sound_requestBurst | apply sound_ite | split)

theorem sound_takeInstant (k : Nat) (r : ConvReq) {s : State} (hs : Sound q s) :
    Sound q (takeInstant k r s) := by
  unfold takeInstant
  with_reducible repeat' (first
    | assumption | intro _ | (apply sound_congr hs <;> rfl) | apply sound_modConv | dsimp only
    | (apply sound_congr (by assumption) <;> rfl))

theorem sound_firstInstant (k : Nat) (r : ConvReq) {s : State} (hs : Sound q s) :
    Sound q (firstInstant k r s) := by
  unfold firstInstant
  with_reducible repeat' (first
    | assumption | intro _ | (apply sound_congr hs <;> rfl) | apply sound_takeInstant | apply sound_modConv
    | apply sound_at_ | apply sound_wb | apply sound_bump | apply sound_ite | dsimp only | split
    | (apply sound_congr (by assumption) <;> rfl))

theorem sound_samplingInstant (k : Nat) {s : State} (hs : Sound q s) :
    Sound q (samplingInstant k s) := by
  unfold samplingInstant
  with_reducible repeat' (first
    | assumption | (apply sound_congr hs <;> rfl) | apply sound_takeInstant | apply sound_at_
    | apply sound_firstInstant | apply sound_ite | dsimp only | split)

theorem sound_slotTrips (i : Nat) (v : Int) {s : State} (hs : Sound q s) :
    Sound q (slotTrips i v s) := by
  unfold slotTrips
  with_reducible repeat' (first
    | assumption | intro _ | apply sound_forAll | apply sound_trip | apply sound_ite | dsimp only | split)

theorem sound_slotCells (t : Nat) (e : Nat) (at_ : Nat) {s : State} (hs : Sound q s) :
    Sound q (slotCells t e at_ s) := by
  unfold slotCells
  with_reducible repeat' (first
    | assumption | intro _ | apply sound_forAll | apply sound_cellSlot | apply sound_at_ | apply sound_driveSlot
    | apply sound_ite | dsimp only | split)

theorem sound_meterPath (n : Nat) (i v : Int) (dt : Nat) (x e : Int) {s : State} (hs : Sound q s) :
    Sound q (meterPath n i v dt x e s).2 :=
  sound_setCtr (sound_setCtr hs _ _) _ _

theorem sound_meterIn (n : Nat) (e : Nat) (dt : Nat) {s : State} (hs : Sound q s) :
    Sound q (meterIn n e dt s) := by
  unfold meterIn
  with_reducible repeat' (first
    | assumption | intro _ | (apply sound_congr hs <;> rfl) | apply sound_meterPath | apply sound_modCell
    | apply sound_ite | dsimp only | split | (apply sound_congr (by assumption) <;> rfl))

theorem sound_meterOut (n : Nat) (e : Nat) (dt : Nat) {s : State} (hs : Sound q s) :
    Sound q (meterOut n e dt s) := by
  unfold meterOut
  with_reducible repeat' (first
    | assumption | intro _ | (apply sound_congr hs <;> rfl) | apply sound_meterPath | apply sound_modCell
    | apply sound_ite | dsimp only | split | (apply sound_congr (by assumption) <;> rfl))

theorem sound_slotMeters (i : Nat) (t : Nat) {s : State} (hs : Sound q s) :
    Sound q (slotMeters i t s) := by
  unfold slotMeters
  with_reducible repeat' (first
    | assumption | intro _ | (apply sound_congr hs <;> rfl) | apply sound_forAll | apply sound_meterOut
    | apply sound_meterIn | apply sound_modEntryS | dsimp only | (apply sound_congr (by assumption) <;> rfl))

theorem sound_rippleLost (m : Nat) {s : State} (hs : Sound q s) :
    Sound q (rippleLost m s) := by
  unfold rippleLost
  with_reducible repeat' (first
    | assumption | apply sound_wb | apply sound_ite | dsimp only | split)

theorem sound_validCrossing (m : Nat) (t : Nat) (p : Nat) {s : State} (hs : Sound q s) :
    Sound q (validCrossing m t p s) := by
  unfold validCrossing
  with_reducible repeat' (first
    | assumption | intro _ | (apply sound_congr hs <;> rfl) | apply sound_wrWide | apply sound_hwWide
    | apply sound_modRipple | apply sound_wb | apply sound_ite | dsimp only | split
    | (apply sound_congr (by assumption) <;> rfl))

theorem sound_invalidCrossing (m : Nat) {s : State} (hs : Sound q s) :
    Sound q (invalidCrossing m s) := by
  unfold invalidCrossing
  with_reducible repeat' (first
    | assumption | intro _ | (apply sound_congr hs <;> rfl) | apply sound_modRipple | apply sound_rippleLost
    | apply sound_ite | dsimp only | split | (apply sound_congr (by assumption) <;> rfl))

theorem sound_rippleCrossing (m : Nat) (t : Nat) {s : State} (hs : Sound q s) :
    Sound q (rippleCrossing m t s) := by
  unfold rippleCrossing
  with_reducible repeat' (first
    | assumption | intro _ | (apply sound_congr hs <;> rfl) | apply sound_modRipple | apply sound_validCrossing
    | apply sound_invalidCrossing | apply sound_ite | dsimp only | split
    | (apply sound_congr (by assumption) <;> rfl))

theorem sound_rippleSample (m : Nat) (t : Nat) (x : Int) {s : State} (hs : Sound q s) :
    Sound q (rippleSample m t x s) := by
  unfold rippleSample
  with_reducible repeat' (first
    | assumption | intro _ | (apply sound_congr hs <;> rfl) | apply sound_modRipple | apply sound_rippleCrossing
    | apply sound_ite | dsimp only | split | (apply sound_congr (by assumption) <;> rfl))

theorem sound_slotRipples (i : Nat) (t : Nat) (x : Int) {s : State} (hs : Sound q s) :
    Sound q (slotRipples i t x s) := by
  unfold slotRipples
  with_reducible repeat' (first
    | assumption | intro _ | apply sound_withFreeze | apply sound_forAll | apply sound_rippleSample
    | apply sound_ite | dsimp only | split)

theorem sound_slotWrite (i : Nat) (v : Int) {s : State} (hs : Sound q s) :
    Sound q (slotWrite i v s) := by
  unfold slotWrite
  with_reducible repeat' (first
    | assumption | apply sound_wr)

theorem sound_deliverSlot (i : Nat) (t : Nat) (v : Int) {s : State} (hs : Sound q s) :
    Sound q (deliverSlot i t v s) := by
  unfold deliverSlot
  with_reducible repeat' (first
    | assumption | apply sound_slotMeters | apply sound_slotRipples | apply sound_slotCells | apply sound_slotTrips
    | apply sound_slotWrite | apply sound_ite | split)

theorem sound_burstEnd (k : Nat) (r : ConvReq) (codes : List Int) {s : State} (hs : Sound q s) :
    Sound q (burstEnd k r codes s) := by
  unfold burstEnd
  with_reducible repeat' (first
    | assumption | intro _ | (apply sound_congr hs <;> rfl) | apply sound_modConv | apply sound_at_
    | apply sound_ite | dsimp only | split | (apply sound_congr (by assumption) <;> rfl))

theorem sound_conversionEnd (k : Nat) (code : Int) {s : State} (hs : Sound q s) :
    Sound q (conversionEnd k code s) := by
  unfold conversionEnd
  with_reducible repeat' (first
    | assumption | intro _ | (apply sound_congr hs <;> rfl) | apply sound_modConv | apply sound_ctrAdd
    | apply sound_burstEnd | apply sound_ite | dsimp only | split | (apply sound_congr (by assumption) <;> rfl))

theorem sound_rippleCtrlWrite (m : Nat) (v : Word) {s : State} (hs : Sound q s) :
    Sound q (rippleCtrlWrite m v s) := by
  unfold rippleCtrlWrite
  with_reducible repeat' (first
    | assumption | intro _ | apply sound_plainWrite | apply sound_wr | apply sound_modRipple | apply sound_wb
    | apply sound_rippleLost | apply sound_ite | dsimp only | split)

theorem sound_adcCtrlWrite (t : Nat) (v : Word) {s : State} (hs : Sound q s) :
    Sound q (adcCtrlWrite t v s) := by
  unfold adcCtrlWrite
  with_reducible repeat' (first
    | assumption | intro _ | apply sound_plainWrite | apply sound_keepBefore | apply sound_adcCfgErr
    | apply sound_ite | apply sound_foldl | dsimp only | split)

theorem sound_seqCfgWrite (i : Nat) (a : Nat) (v : Word) {s : State} (hs : Sound q s) :
    Sound q (seqCfgWrite i a v s) := by
  unfold seqCfgWrite
  with_reducible repeat' (first
    | assumption | apply sound_needOwner | apply sound_plainWrite | apply sound_keepBefore | apply sound_adcCfgErr
    | apply sound_ite | dsimp only | split)

theorem sound_adcWrite (q0 : Nat) (a : Nat) (v : Word) {s : State} (hs : Sound q s) :
    Sound q (adcWrite q0 a v s) := by
  unfold adcWrite
  with_reducible repeat' (first
    | assumption | intro _ | apply sound_withFreeze | apply sound_rippleCtrlWrite | apply sound_plainWrite
    | apply sound_adcCtrlWrite | apply sound_softTrigger | apply sound_seqCfgWrite | apply sound_needOwner
    | apply sound_protScan | apply sound_cmpOff | apply sound_ite | dsimp only | split)

theorem sound_referenceSettled {s : State} (hs : Sound q s) :
    Sound q (referenceSettled s) := by
  unfold referenceSettled
  with_reducible repeat' (first
    | assumption | intro _ | apply sound_protScan | apply sound_forAll | apply sound_wb | dsimp only)

theorem sound_execAdcTrigger (t : Turret) (e : Fin 16) {s : State} (hs : Sound q s) :
    SoundR q (execAdcTrigger t e s) := by
  unfold execAdcTrigger
  with_reducible repeat' (first
    | assumption | intro _ | apply sound_happens | apply sound_adcTrigger)

theorem sound_execAdcSoftwareTrigger (q0 : Req) (t : Turret) (v : Word) {s : State} (hs : Sound q s) :
    SoundR q (execAdcSoftwareTrigger q0 t v s) := by
  unfold execAdcSoftwareTrigger
  with_reducible repeat' (first
    | assumption | intro _ | apply sound_withAccess | apply sound_adcWrite | apply soundR_next)

theorem sound_execSamplingInstant (k : Fin 16) {s : State} (hs : Sound q s) :
    SoundR q (execSamplingInstant k s) := by
  unfold execSamplingInstant
  with_reducible repeat' (first
    | assumption | intro _ | apply sound_happens | apply sound_samplingInstant)

theorem sound_execConversionEnd (k : Fin 16) (code : Int) {s : State} (hs : Sound q s) :
    SoundR q (execConversionEnd k code s) := by
  unfold execConversionEnd
  with_reducible repeat' (first
    | assumption | intro _ | apply sound_happens | apply sound_conversionEnd)

theorem sound_execRippleLockTimeout (m : Fin 8) {s : State} (hs : Sound q s) :
    SoundR q (execRippleLockTimeout m s) := by
  unfold execRippleLockTimeout
  with_reducible repeat' (first
    | assumption | intro _ | apply sound_happens | apply sound_withFreeze | apply sound_rippleLost)

theorem sound_execReferenceSettled {s : State} (hs : Sound q s) :
    SoundR q (execReferenceSettled s) := by
  unfold execReferenceSettled
  with_reducible repeat' (first
    | assumption | intro _ | apply sound_happens | apply sound_referenceSettled)

theorem sound_keepSpeed (n : Nat) (t : Nat) {s : State} (hs : Sound q s) :
    Sound q (keepSpeed n t s) := by
  unfold keepSpeed
  with_reducible repeat' (first
    | assumption | apply sound_wr)

theorem sound_speedInvalid (n : Nat) (t : Nat) {s : State} (hs : Sound q s) :
    Sound q (speedInvalid n t s) := by
  unfold speedInvalid
  with_reducible repeat' (first
    | assumption | intro _ | (apply sound_congr hs <;> rfl) | apply sound_keepSpeed | apply sound_wb
    | apply sound_modPos | dsimp only | (apply sound_congr (by assumption) <;> rfl))

theorem sound_posError (n : Nat) (bit : Nat) {s : State} (hs : Sound q s) :
    Sound q (posError n bit s) := by
  unfold posError
  with_reducible repeat' (first
    | assumption | apply sound_wb | apply sound_bump)

theorem sound_edgeVoid (n : Nat) {s : State} (hs : Sound q s) :
    Sound q (edgeVoid n s) := by
  unfold edgeVoid
  with_reducible repeat' (first
    | assumption | intro _ | (apply sound_congr hs <;> rfl) | apply sound_modPos | dsimp only
    | (apply sound_congr (by assumption) <;> rfl))

theorem sound_countTurn (n : Nat) (old : Nat) (new : Nat) (up : Bool) {s : State} (hs : Sound q s) :
    Sound q (countTurn n old new up s) := by
  unfold countTurn
  with_reducible repeat' (first
    | assumption | apply sound_wrWide | apply sound_ite | dsimp only | split)

theorem sound_edgeInterval (n : Nat) (now : Nat) (d : Bool) (speed : Nat → Bool → Int) {s : State} (hs : Sound q s) :
    Sound q (edgeInterval n now d speed s) := by
  unfold edgeInterval
  with_reducible repeat' (first
    | assumption | intro _ | (apply sound_congr hs <;> rfl) | apply sound_keepSpeed | apply sound_modPos
    | apply sound_wb | apply sound_wr | apply sound_wrWide | apply sound_ite | dsimp only | split
    | (apply sound_congr (by assumption) <;> rfl))

theorem sound_angleEdge (n : Nat) (now : Nat) (new : Nat) (up : Bool) (speed : Nat → Bool → Int) {s : State} (hs : Sound q s) :
    Sound q (angleEdge n now new up speed s) := by
  unfold angleEdge
  with_reducible repeat' (first
    | assumption | intro _ | (apply sound_congr hs <;> rfl) | apply sound_countTurn | apply sound_modPos
    | apply sound_edgeInterval | apply sound_ite | dsimp only | split | (apply sound_congr (by assumption) <;> rfl))

theorem sound_quadEdge (n : Nat) (now : Nat) (was : BitVec 6) (lv : BitVec 6) {s : State} (hs : Sound q s) :
    Sound q (quadEdge n now was lv s) := by
  unfold quadEdge
  with_reducible repeat' (first
    | assumption | intro _ | (apply sound_congr hs <;> rfl) | apply sound_speedInvalid | apply sound_posError
    | apply sound_modPos | apply sound_angleEdge | apply sound_ite | dsimp only | split
    | (apply sound_congr (by assumption) <;> rfl))

theorem sound_indexEdge (n : Nat) (was : BitVec 6) (lv : BitVec 6) {s : State} (hs : Sound q s) :
    Sound q (indexEdge n was lv s) := by
  unfold indexEdge
  with_reducible repeat' (first
    | assumption | intro _ | (apply sound_congr hs <;> rfl) | apply sound_edgeVoid | apply sound_posError
    | apply sound_modPos | apply sound_wb | apply sound_ite | dsimp only | split
    | (apply sound_congr (by assumption) <;> rfl))

theorem sound_hallError (n : Nat) (t : Nat) {s : State} (hs : Sound q s) :
    Sound q (hallError n t s) := by
  unfold hallError
  with_reducible repeat' (first
    | assumption | apply sound_speedInvalid | apply sound_posError | apply sound_wb)

theorem sound_hallEdge (n : Nat) (now : Nat) (was : BitVec 6) (lv : BitVec 6) {s : State} (hs : Sound q s) :
    Sound q (hallEdge n now was lv s) := by
  unfold hallEdge
  with_reducible repeat' (first
    | assumption | intro _ | (apply sound_congr hs <;> rfl) | apply sound_hallError | apply sound_modPos
    | apply sound_wb | apply sound_at_ | apply sound_angleEdge | apply sound_ite | dsimp only | split
    | (apply sound_congr (by assumption) <;> rfl))

theorem sound_positionEdge (n : Nat) (now : Nat) (lv : BitVec 6) {s : State} (hs : Sound q s) :
    Sound q (positionEdge n now lv s) := by
  unfold positionEdge
  with_reducible repeat' (first
    | assumption | intro _ | (apply sound_congr hs <;> rfl) | apply sound_modPos | apply sound_wf
    | apply sound_indexEdge | apply sound_quadEdge | apply sound_hallEdge | apply sound_ite | dsimp only | split
    | (apply sound_congr (by assumption) <;> rfl))

theorem sound_ssiStart (n : Nat) (qnb : Bool) {s : State} (hs : Sound q s) :
    Sound q (ssiStart n qnb s) := by
  unfold ssiStart
  with_reducible repeat' (first
    | assumption | intro _ | (apply sound_congr hs <;> rfl) | apply sound_wb | apply sound_edgeVoid
    | apply sound_posError | apply sound_modPos | apply sound_ite | dsimp only | split
    | (apply sound_congr (by assumption) <;> rfl))

theorem sound_ssiValue (n : Nat) (start : Nat) (pos : Nat) {s : State} (hs : Sound q s) :
    Sound q (ssiValue n start pos s) := by
  unfold ssiValue
  with_reducible repeat' (first
    | assumption | intro _ | (apply sound_congr hs <;> rfl) | apply sound_wb | apply sound_modPos
    | apply sound_edgeInterval | apply sound_wr | apply sound_countTurn | apply sound_ite | dsimp only | split
    | (apply sound_congr (by assumption) <;> rfl))

theorem sound_ssiEnd (n : Nat) (data : Word) {s : State} (hs : Sound q s) :
    Sound q (ssiEnd n data s) := by
  unfold ssiEnd
  with_reducible repeat' (first
    | assumption | intro _ | (apply sound_congr hs <;> rfl) | apply sound_modPos | apply sound_ssiValue
    | apply sound_ite | dsimp only | split | (apply sound_congr (by assumption) <;> rfl))

theorem sound_speedTimeout (n : Nat) (t : Nat) {s : State} (hs : Sound q s) :
    Sound q (speedTimeout n t s) := by
  unfold speedTimeout
  with_reducible repeat' (first
    | assumption | apply sound_wr | apply sound_wb | apply sound_ite | dsimp only | split)

theorem sound_posEvents (due : List Ev) {s : State} (hs : Sound q s) :
    Sound q (posEvents due s) := by
  unfold posEvents
  with_reducible repeat' (first
    | assumption | intro _ | (apply sound_congr hs <;> rfl) | apply sound_withFreeze | apply sound_positionEdge
    | apply sound_speedTimeout | apply sound_foldl | dsimp only | split
    | (apply sound_congr (by assumption) <;> rfl))

theorem sound_posEnable (n : Nat) {s : State} (hs : Sound q s) :
    Sound q (posEnable n s) := by
  unfold posEnable
  with_reducible repeat' (first
    | assumption | intro _ | (apply sound_congr hs <;> rfl) | apply sound_wr | apply sound_modPos | apply sound_wb
    | apply sound_hallError | dsimp only | split | (apply sound_congr (by assumption) <;> rfl))

theorem sound_posCtrlWrite (n : Nat) (v : Word) {s : State} (hs : Sound q s) :
    Sound q (posCtrlWrite n v s) := by
  unfold posCtrlWrite
  with_reducible repeat' (first
    | assumption | intro _ | (apply sound_congr hs <;> rfl) | apply sound_wb | apply sound_modPos
    | apply sound_plainWrite | apply sound_posEnable | apply sound_needPads | apply sound_ite | dsimp only | split
    | (apply sound_congr (by assumption) <;> rfl))

theorem sound_turnsWrite (n : Nat) (v : Word) {s : State} (hs : Sound q s) :
    Sound q (turnsWrite n v s) := by
  unfold turnsWrite
  with_reducible repeat' (first
    | assumption | apply sound_wr | apply sound_ite | split)

theorem sound_ssiWrite (n : Nat) (v : Word) {s : State} (hs : Sound q s) :
    Sound q (ssiWrite n v s) := by
  unfold ssiWrite
  with_reducible repeat' (first
    | assumption | apply sound_plainWrite | apply sound_wb | apply sound_ite | dsimp only | split)

theorem sound_posRegWrite (n : Nat) (o : Nat) (v : Word) {s : State} (hs : Sound q s) :
    Sound q (posRegWrite n o v s) := by
  unfold posRegWrite
  with_reducible repeat' (first
    | assumption | apply sound_posCtrlWrite | apply sound_keepBefore | apply sound_wr | apply sound_wb
    | apply sound_plainWrite | apply sound_ssiWrite | apply sound_turnsWrite | apply sound_ite | dsimp only | split)

theorem sound_emuWrite (m : Nat) (o : Nat) (v : Word) {s : State} (hs : Sound q s) :
    Sound q (emuWrite m o v s) := by
  unfold emuWrite
  with_reducible repeat' (first
    | assumption | apply sound_needPads | apply sound_plainWrite | apply sound_wb | apply sound_wr | apply sound_ite
    | dsimp only | split)

theorem sound_posWrite (q0 : Nat) (a : Nat) (v : Word) {s : State} (hs : Sound q s) :
    Sound q (posWrite q0 a v s) := by
  unfold posWrite
  with_reducible repeat' (first
    | assumption | intro _ | apply sound_withFreeze | apply sound_posRegWrite | apply sound_emuWrite
    | apply sound_plainWrite | apply sound_ite | split)

theorem sound_emuStep (m : Nat) {s : State} (hs : Sound q s) :
    Sound q (emuStep m s) := by
  unfold emuStep
  with_reducible repeat' (first
    | assumption | intro _ | (apply sound_congr hs <;> rfl) | apply sound_wf | apply sound_modEmu | apply sound_wb
    | apply sound_ite | dsimp only | split | (apply sound_congr (by assumption) <;> rfl))

theorem sound_emuTick (m : Nat) {s : State} (hs : Sound q s) :
    Sound q (emuTick m s) := by
  unfold emuTick
  with_reducible repeat' (first
    | assumption | intro _ | (apply sound_congr hs <;> rfl) | apply sound_modEmu | apply sound_ite | dsimp only
    | split | (apply sound_congr (by assumption) <;> rfl))

theorem sound_posTick (n : Nat) {s : State} (hs : Sound q s) :
    Sound q (posTick n s) := by
  unfold posTick
  with_reducible repeat' (first
    | assumption | intro _ | (apply sound_congr hs <;> rfl) | apply sound_modPos | apply sound_ite | dsimp only
    | split | (apply sound_congr (by assumption) <;> rfl))

theorem sound_acceptLevels (n : Nat) (lv : BitVec 6) {s : State} (hs : Sound q s) :
    Sound q (acceptLevels n lv s) := by
  unfold acceptLevels
  with_reducible repeat' (first
    | assumption | intro _ | (apply sound_congr hs <;> rfl) | apply sound_modPos | apply sound_at_ | apply sound_ite
    | dsimp only | split | (apply sound_congr (by assumption) <;> rfl))

theorem sound_execPositionEdge (n : Fin 3) (lv : BitVec 6) {s : State} (hs : Sound q s) :
    SoundR q (execPositionEdge n lv s) := by
  unfold execPositionEdge
  with_reducible repeat' (first
    | assumption | intro _ | apply sound_happens | apply sound_acceptLevels)

theorem sound_execSpeedTimeout (n : Fin 3) {s : State} (hs : Sound q s) :
    SoundR q (execSpeedTimeout n s) := by
  unfold execSpeedTimeout
  with_reducible repeat' (first
    | assumption | intro _ | apply sound_happens | apply sound_at_ | dsimp only)

theorem sound_execSsiFrameStart (n : Fin 3) (qnb : Bool) {s : State} (hs : Sound q s) :
    SoundR q (execSsiFrameStart n qnb s) := by
  unfold execSsiFrameStart
  with_reducible repeat' (first
    | assumption | intro _ | apply sound_happens | apply sound_ssiStart)

theorem sound_execSsiFrameEnd (n : Fin 3) (data : Word) {s : State} (hs : Sound q s) :
    SoundR q (execSsiFrameEnd n data s) := by
  unfold execSsiFrameEnd
  with_reducible repeat' (first
    | assumption | intro _ | apply sound_happens | apply sound_withFreeze | apply sound_ssiEnd)

theorem sound_execTurnsClear (q0 : Req) (n : Fin 3) (v : Word) {s : State} (hs : Sound q s) :
    SoundR q (execTurnsClear q0 n v s) := by
  unfold execTurnsClear
  with_reducible repeat' (first
    | assumption | intro _ | apply sound_withAccess | apply sound_turnsWrite | apply soundR_next)

theorem sound_execPosCtrlWrite (q0 : Req) (n : Fin 3) (v : Word) {s : State} (hs : Sound q s) :
    SoundR q (execPosCtrlWrite q0 n v s) := by
  unfold execPosCtrlWrite
  with_reducible repeat' (first
    | assumption | intro _ | apply sound_withAccess | apply sound_withFreeze | apply sound_posCtrlWrite
    | apply soundR_next)

theorem sound_execEmuStep (m : Fin 2) {s : State} (hs : Sound q s) :
    SoundR q (execEmuStep m s) := by
  unfold execEmuStep
  with_reducible repeat' (first
    | assumption | intro _ | apply sound_happens | apply sound_emuStep)

end Sys2Proof.Machine
end

