-- ==== Sys2Proof/Laws/SoundSys.lean ====
section
/-! SUPPORT. Every operation keeps Sound: claims, clocks, interrupts, power, resets, TETHER LINK and the keypad. -/
namespace Sys2Proof.Machine

set_option linter.unusedTactic false
set_option linter.unreachableTactic false

variable {q : Kept}

theorem sound_padPut (p : Nat) (v : Word) {s : State} (hs : Sound q s) :
    Sound q (padPut p v s) := by
  unfold padPut
  with_reducible repeat' (first
    | assumption | apply sound_plainWrite | apply sound_busCfgErr | apply sound_ite | dsimp only | split)

theorem sound_padSoftWrite (p : Nat) (v : Word) {s : State} (hs : Sound q s) :
    Sound q (padSoftWrite p v s) := by
  unfold padSoftWrite
  with_reducible repeat' (first
    | assumption | apply sound_padPut | apply sound_conflict | apply sound_ite | dsimp only | split)

theorem sound_padWrite (q0 : Nat) (p : Nat) (v : Word) {s : State} (hs : Sound q s) :
    Sound q (padWrite q0 p v s) := by
  unfold padWrite
  with_reducible repeat' (first
    | assumption | apply sound_padSoftWrite | apply sound_padPut | apply sound_conflict | apply sound_ite
    | dsimp only | split)

theorem sound_holdGroup (g : Nat) {s : State} (hs : Sound q s) :
    Sound q (holdGroup g s) := by
  unfold holdGroup
  with_reducible repeat' (first
    | assumption | intro _ | (apply sound_congr hs <;> rfl) | apply sound_mapPwr | apply sound_wb | apply sound_ite
    | apply sound_foldl | dsimp only | split | (apply sound_congr (by assumption) <;> rfl))

theorem sound_holdDomain (d : Nat) {s : State} (hs : Sound q s) :
    Sound q (holdDomain d s) := by
  unfold holdDomain
  with_reducible repeat' (first
    | assumption | intro _ | apply sound_forAll | apply sound_holdGroup | apply sound_ite | dsimp only | split)

theorem sound_releaseGroup (g : Nat) {s : State} (hs : Sound q s) :
    Sound q (releaseGroup g s) := by
  unfold releaseGroup
  with_reducible repeat' (first
    | assumption | intro _ | (apply sound_congr hs <;> rfl) | apply sound_mapPwr | apply sound_wb
    | apply sound_foldl | dsimp only | (apply sound_congr (by assumption) <;> rfl))

theorem sound_padHoldWrite (v : Word) {s : State} (hs : Sound q s) :
    Sound q (padHoldWrite v s) := by
  unfold padHoldWrite
  with_reducible repeat' (first
    | assumption | intro _ | apply sound_forAll | apply sound_releaseGroup | apply sound_ite | dsimp only | split)

theorem sound_dutySource (w : Nat) {s : State} (hs : Sound q s) :
    Sound q (dutySource w s) := by
  unfold dutySource
  with_reducible repeat' (first
    | assumption | apply sound_sendDuty | apply sound_ite | dsimp only | split)

theorem sound_almRetest (j : Nat) {s : State} (hs : Sound q s) :
    Sound q (almRetest j s) := by
  unfold almRetest
  with_reducible repeat' (first
    | assumption | intro _ | apply sound_forAll | apply sound_almTest | apply sound_ite | dsimp only | split)

theorem sound_changeOwner (cls : Nat) (idx : Nat) (code : Nat) {s : State} (hs : Sound q s) :
    Sound q (changeOwner cls idx code s) := by
  unfold changeOwner
  with_reducible repeat' (first
    | assumption | (apply sound_congr hs <;> rfl) | apply sound_safeRequest | apply sound_setOwner
    | apply sound_dutySource | apply sound_chanCfgErr | apply sound_cmpOff | apply sound_chansRecheck
    | apply sound_almRetest | apply sound_ite | dsimp only | split)

theorem sound_claimCommand (op : Nat) (cls : Nat) (idx : Nat) (code : Nat) {s : State} (hs : Sound q s) :
    Sound q (claimCommand op cls idx code s).2 := by
  unfold claimCommand
  with_reducible repeat' (first
    | assumption | apply sound_changeOwner | apply sound_ite | dsimp only | split)

theorem sound_claimBy (h0 : Nat) (op : Nat) (cls : Nat) (idx : Nat) (code : Nat) {s : State} (hs : Sound q s) :
    Sound q (claimBy h0 op cls idx code s).2 := by
  unfold claimBy
  with_reducible repeat' (first
    | assumption | intro _ | (apply sound_congr hs <;> rfl) | apply sound_claimCommand | apply sound_mapBus
    | apply sound_ite | dsimp only | split | (apply sound_congr (by assumption) <;> rfl))

theorem sound_claimDo (h0 : Nat) (v : Word) {s : State} (hs : Sound q s) :
    Sound q (claimDo h0 v s).2 := by
  unfold claimDo
  with_reducible repeat' (first
    | assumption | apply sound_claimBy | apply sound_busCfgErr | apply sound_ite | dsimp only | split)

theorem sound_claimWrite (q0 : Nat) (v : Word) {s : State} (hs : Sound q s) :
    Sound q (claimWrite q0 v s) := by
  unfold claimWrite
  with_reducible repeat' (first
    | assumption | apply sound_claimDo | apply sound_ite | split)

theorem sound_execPadHoldRelease (q0 : Req) (v : Word) {s : State} (hs : Sound q s) :
    SoundR q (execPadHoldRelease q0 v s) := by
  unfold execPadHoldRelease
  with_reducible repeat' (first
    | assumption | intro _ | apply sound_withAccess | apply sound_padHoldWrite | apply soundR_next)

theorem sound_execPadWrite (q0 : Req) (p : Fin 285) (v : Word) {s : State} (hs : Sound q s) :
    SoundR q (execPadWrite q0 p v s) := by
  unfold execPadWrite
  with_reducible repeat' (first
    | assumption | intro _ | apply sound_withAccess | apply sound_padWrite | apply soundR_next)

theorem sound_execBusClaim (q0 : Req) (v : Word) {s : State} (hs : Sound q s) :
    SoundR q (execBusClaim q0 v s) := by
  unfold execBusClaim
  with_reducible repeat' (first
    | assumption | intro _ | apply sound_withAccess | apply sound_claimWrite | apply soundR_next)

theorem sound_execBusRelease (q0 : Req) (v : Word) {s : State} (hs : Sound q s) :
    SoundR q (execBusRelease q0 v s) := by
  unfold execBusRelease
  with_reducible repeat' (first
    | assumption | intro _ | apply sound_withAccess | apply sound_claimWrite | apply soundR_next)

theorem sound_execBusQuery (q0 : Req) (v : Word) {s : State} (hs : Sound q s) :
    SoundR q (execBusQuery q0 v s) := by
  unfold execBusQuery
  with_reducible repeat' (first
    | assumption | intro _ | apply sound_withAccess | apply sound_claimWrite | apply soundR_next)

theorem sound_sxtEnqueue (bulk : Bool) (a : Word) {s : State} (hs : Sound q s) :
    Sound q (sxtEnqueue bulk a s) := by
  unfold sxtEnqueue
  with_reducible repeat' (first
    | assumption | intro _ | (apply sound_congr hs <;> rfl) | apply sound_wb | apply sound_bump | apply sound_mapSxt
    | apply sound_ite | dsimp only | split | (apply sound_congr (by assumption) <;> rfl))

theorem sound_sxtSubmit (q0 : Nat) (bulk : Bool) (a : Word) {s : State} (hs : Sound q s) :
    Sound q (sxtSubmit q0 bulk a s) := by
  unfold sxtSubmit
  with_reducible repeat' (first
    | assumption | intro _ | (apply sound_congr hs <;> rfl) | apply sound_sxtEnqueue | apply sound_mapSxt
    | apply sound_ite | dsimp only | split | (apply sound_congr (by assumption) <;> rfl))

theorem sound_evalOutcome (refused : Bool) {s : State} (hs : Sound q s) :
    Sound q (evalOutcome refused s) := by
  unfold evalOutcome
  with_reducible repeat' (first
    | assumption | intro _ | (apply sound_congr hs <;> rfl) | apply sound_mapHostif | dsimp only | split
    | (apply sound_congr (by assumption) <;> rfl))

theorem sound_sxtResume {s : State} (hs : Sound q s) :
    Sound q (sxtResume s) := by
  unfold sxtResume
  with_reducible repeat' (first
    | assumption | intro _ | (apply sound_congr hs <;> rfl) | apply sound_sxtEnqueue | apply sound_evalOutcome
    | apply sound_mapSxt | apply sound_ite | apply sound_foldl | dsimp only | split
    | (apply sound_congr (by assumption) <;> rfl))

theorem sound_keyRead (k : Nat) {s : State} (hs : Sound q s) :
    Sound q (keyRead k s) := by
  unfold keyRead
  with_reducible repeat' (first
    | assumption | apply sound_recordParity | apply sound_ite | split)

theorem sound_calcTrim {s : State} (hs : Sound q s) :
    Sound q (calcTrim s) := by
  unfold calcTrim
  with_reducible repeat' (first
    | assumption | intro _ | (apply sound_congr hs <;> rfl) | apply sound_keyRead | apply sound_mapKey
    | apply sound_mapCalc | apply sound_ite | apply sound_foldl | dsimp only | split
    | (apply sound_congr (by assumption) <;> rfl))

theorem sound_sxtDone (bulk : Bool) {s : State} (hs : Sound q s) :
    Sound q (sxtDone bulk s).2 := by
  unfold sxtDone
  with_reducible repeat' (first
    | assumption | intro _ | (apply sound_congr hs <;> rfl) | apply sound_mapSxt | apply sound_ite | dsimp only
    | split | (apply sound_congr (by assumption) <;> rfl))

theorem sound_submitAccess (q0 : Nat) (a : Nat) (eff : State → State) {s : State} (hf1 : ∀ x0, Sound q x0 → Sound q (eff x0)) (hs : Sound q s) :
    Sound q (submitAccess q0 a eff s) := by
  unfold submitAccess
  with_reducible repeat' (first
    | assumption | intro _ | apply hf1 | apply sound_recordFault | apply sound_withAccess | apply sound_ite | split)

theorem sound_execSxtSubmitInteractive (q0 : Req) (a : Word) {s : State} (hs : Sound q s) :
    SoundR q (execSxtSubmitInteractive q0 a s) := by
  unfold execSxtSubmitInteractive
  with_reducible repeat' (first
    | assumption | intro _ | apply sound_submitAccess | apply sound_sxtSubmit | apply soundR_next)

theorem sound_execSxtSubmitBulk (q0 : Req) (a : Word) {s : State} (hs : Sound q s) :
    SoundR q (execSxtSubmitBulk q0 a s) := by
  unfold execSxtSubmitBulk
  with_reducible repeat' (first
    | assumption | intro _ | apply sound_submitAccess | apply sound_sxtSubmit | apply soundR_next)

theorem sound_execSxtDoneRead (q0 : Req) (bulk : Bool) {s : State} (hs : Sound q s) :
    SoundR q (execSxtDoneRead q0 bulk s) := by
  unfold execSxtDoneRead
  with_reducible repeat' (first
    | assumption | intro _ | apply sound_withAccess | apply sound_sxtDone | apply soundR_ite | apply sound_ite
    | apply soundR_next | dsimp only | split)

theorem sound_fifoPush (e : Nat) {s : State} (hs : Sound q s) :
    Sound q (fifoPush e s) := by
  unfold fifoPush
  with_reducible repeat' (first
    | assumption | intro _ | (apply sound_congr hs <;> rfl) | apply sound_wb | apply sound_bump | apply sound_mapKey
    | apply sound_ite | dsimp only | split | (apply sound_congr (by assumption) <;> rfl))

theorem sound_calcPush (k : Nat) {s : State} (hs : Sound q s) :
    Sound q (calcPush k s) := by
  unfold calcPush
  with_reducible repeat' (first
    | assumption | intro _ | (apply sound_congr hs <;> rfl) | apply sound_calcTrim | apply sound_bump
    | apply sound_mapKey | apply sound_ite | dsimp only | split | (apply sound_congr (by assumption) <;> rfl))

theorem sound_keyChange (x : Nat) {s : State} (hs : Sound q s) :
    Sound q (keyChange x s) := by
  unfold keyChange
  with_reducible repeat' (first
    | assumption | apply sound_wb | apply sound_hwIrq | apply sound_fifoPush | apply sound_calcPush
    | apply sound_ite | dsimp only | split)

theorem sound_keyHold (x : Nat) {s : State} (hs : Sound q s) :
    Sound q (keyHold x s) := by
  unfold keyHold
  with_reducible repeat' (first
    | assumption | intro _ | (apply sound_congr hs <;> rfl) | apply sound_mapKey | dsimp only
    | (apply sound_congr (by assumption) <;> rfl))

theorem sound_keyReplay {s : State} (hs : Sound q s) :
    Sound q (keyReplay s) := by
  unfold keyReplay
  with_reducible repeat' (first
    | assumption | intro _ | (apply sound_congr hs <;> rfl) | apply sound_keyChange | apply sound_mapKey
    | apply sound_foldl | dsimp only | (apply sound_congr (by assumption) <;> rfl))

theorem sound_presChange (x : Nat) {s : State} (hs : Sound q s) :
    Sound q (presChange x s) := by
  unfold presChange
  with_reducible repeat' (first
    | assumption | intro _ | (apply sound_congr hs <;> rfl) | apply sound_wb | apply sound_mapTl | apply sound_ite
    | dsimp only | split | (apply sound_congr (by assumption) <;> rfl))

theorem sound_setSource (i : Nat) (src : Nat) {s : State} (hs : Sound q s) :
    Sound q (setSource i src s) := by
  unfold setSource
  with_reducible repeat' (first
    | assumption | intro _ | (apply sound_congr hs <;> rfl) | apply sound_mapClk | dsimp only
    | (apply sound_congr (by assumption) <;> rfl))

theorem sound_refuseSwitch (i : Nat) (old : Nat) {s : State} (hs : Sound q s) :
    Sound q (refuseSwitch i old s) := by
  unfold refuseSwitch
  with_reducible repeat' (first
    | assumption | apply sound_wb | apply sound_bump)

theorem sound_requestSource (i : Nat) (busy : Bool) (want : Nat) (old : Nat) {s : State} (hs : Sound q s) :
    Sound q (requestSource i busy want old s) := by
  unfold requestSource
  with_reducible repeat' (first
    | assumption | intro _ | (apply sound_congr hs <;> rfl) | apply sound_wb | apply sound_refuseSwitch
    | apply sound_mapClk | apply sound_ite | dsimp only | split | (apply sound_congr (by assumption) <;> rfl))

theorem sound_clkSwitchWrite (v : Word) {s : State} (hs : Sound q s) :
    Sound q (clkSwitchWrite v s) := by
  unfold clkSwitchWrite
  with_reducible repeat' (first
    | assumption | intro _ | apply sound_clearBits | apply sound_forAll | apply sound_requestSource | dsimp only)

theorem sound_completeSwitches (src : Nat) {s : State} (hs : Sound q s) :
    Sound q (completeSwitches src s) := by
  unfold completeSwitches
  with_reducible repeat' (first
    | assumption | intro _ | (apply sound_congr hs <;> rfl) | apply sound_forAll | apply sound_setSource
    | apply sound_ite | dsimp only | split | (apply sound_congr (by assumption) <;> rfl))

theorem sound_switchComplete {s : State} (hs : Sound q s) :
    Sound q (switchComplete s) := by
  unfold switchComplete
  with_reducible repeat' (first
    | assumption | apply sound_completeSwitches | apply sound_ite | split)

theorem sound_toCoast (i : Nat) {s : State} (hs : Sound q s) :
    Sound q (toCoast i s) := by
  unfold toCoast
  with_reducible repeat' (first
    | assumption | (apply sound_congr hs <;> rfl) | apply sound_refuseSwitch | apply sound_setSource | dsimp only
    | split)

theorem sound_refQualified {s : State} (hs : Sound q s) :
    Sound q (refQualified s) := by
  unfold refQualified
  with_reducible repeat' (first
    | assumption | intro _ | (apply sound_congr hs <;> rfl) | apply sound_wb | apply sound_mapClk | apply sound_ite
    | dsimp only | split | (apply sound_congr (by assumption) <;> rfl))

theorem sound_qualificationFail {s : State} (hs : Sound q s) :
    Sound q (qualificationFail s) := by
  unfold qualificationFail
  with_reducible repeat' (first
    | assumption | intro _ | (apply sound_congr hs <;> rfl) | apply sound_wb | apply sound_forAll
    | apply sound_toCoast | apply sound_ite | dsimp only | split | (apply sound_congr (by assumption) <;> rfl))

theorem sound_analogReady {s : State} (hs : Sound q s) :
    Sound q (analogReady s) := by
  unfold analogReady
  with_reducible repeat' (first
    | assumption | apply sound_wb | apply sound_ite | split)

theorem sound_loopSettled {s : State} (hs : Sound q s) :
    Sound q (loopSettled s) := by
  unfold loopSettled
  with_reducible repeat' (first
    | assumption | intro _ | (apply sound_congr hs <;> rfl) | apply sound_mapPwr | apply sound_analogReady
    | apply sound_ite | dsimp only | split | (apply sound_congr (by assumption) <;> rfl))

theorem sound_clkLocked {s : State} (hs : Sound q s) :
    Sound q (clkLocked s) := by
  unfold clkLocked
  with_reducible repeat' (first
    | assumption | intro _ | (apply sound_congr hs <;> rfl) | apply sound_withFreeze | apply sound_wb
    | apply sound_forAll | apply sound_modCell | apply sound_loopSettled | apply sound_setSource | apply sound_ite
    | dsimp only | split | (apply sound_congr (by assumption) <;> rfl))

theorem sound_counterRuns {s : State} (hs : Sound q s) :
    Sound q (counterRuns s) := by
  unfold counterRuns
  with_reducible repeat' (first
    | assumption | intro _ | (apply sound_congr hs <;> rfl) | apply sound_mapClk | dsimp only
    | (apply sound_congr (by assumption) <;> rfl))

theorem sound_fabricLoad {s : State} (hs : Sound q s) :
    Sound q (fabricLoad s) := by
  unfold fabricLoad
  with_reducible repeat' (first
    | assumption | apply sound_counterRuns | apply sound_wb | apply sound_loopSettled | apply sound_ite | dsimp only
    | split)

theorem sound_handOver {s : State} (hs : Sound q s) :
    Sound q (handOver s) := by
  unfold handOver
  with_reducible repeat' (first
    | assumption | intro _ | (apply sound_congr hs <;> rfl) | apply sound_mapClk | apply sound_ite | dsimp only
    | split | (apply sound_congr (by assumption) <;> rfl))

theorem sound_lossRecord (mt : Nat) {s : State} (hs : Sound q s) :
    Sound q (lossRecord mt s) := by
  unfold lossRecord
  with_reducible repeat' (first
    | assumption | intro _ | (apply sound_congr hs <;> rfl) | apply sound_wb | apply sound_bump | apply sound_wrWide
    | apply sound_mapClk | dsimp only | (apply sound_congr (by assumption) <;> rfl))

theorem sound_lossActions {s : State} (hs : Sound q s) :
    Sound q (lossActions s) := by
  unfold lossActions
  with_reducible repeat' (first
    | assumption | intro _ | (apply sound_congr hs <;> rfl) | apply sound_forAll | apply sound_modCell
    | apply sound_cellStop | apply sound_ite | dsimp only | split | (apply sound_congr (by assumption) <;> rfl))

theorem sound_referenceLoss {s : State} (hs : Sound q s) :
    Sound q (referenceLoss s) := by
  unfold referenceLoss
  with_reducible repeat' (first
    | assumption | intro _ | apply sound_forAll | apply sound_toCoast | apply sound_lossActions
    | apply sound_withFreeze | apply sound_lossRecord | apply sound_raiseNmiAll | apply sound_logEvent | dsimp only)

theorem sound_quietLoss {s : State} (hs : Sound q s) :
    Sound q (quietLoss s) := by
  unfold quietLoss
  with_reducible repeat' (first
    | assumption | intro _ | apply sound_forAll | apply sound_toCoast | apply sound_lossRecord | dsimp only)

theorem sound_plWrite (v : Word) {s : State} (hs : Sound q s) :
    Sound q (plWrite v s) := by
  unfold plWrite
  with_reducible repeat' (first
    | assumption | intro _ | (apply sound_congr hs <;> rfl) | apply sound_plainWrite | apply sound_mapClk
    | apply sound_wb | apply sound_ite | dsimp only | split | (apply sound_congr (by assumption) <;> rfl))

theorem sound_divisorChange {s : State} (hs : Sound q s) :
    Sound q (divisorChange s) := by
  unfold divisorChange
  with_reducible repeat' (first
    | assumption | intro _ | (apply sound_congr hs <;> rfl) | apply sound_mapClk | apply sound_ite | dsimp only
    | split | (apply sound_congr (by assumption) <;> rfl))

theorem sound_plComplete {s : State} (hs : Sound q s) :
    Sound q (plComplete s) := by
  unfold plComplete
  with_reducible repeat' (first
    | assumption | intro _ | (apply sound_congr hs <;> rfl) | apply sound_mapClk | apply sound_wb | apply sound_ite
    | dsimp only | split | (apply sound_congr (by assumption) <;> rfl))

theorem sound_mtHold (key : Nat) {s : State} (hs : Sound q s) :
    Sound q (mtHold key s) := by
  unfold mtHold
  with_reducible repeat' (first
    | assumption | intro _ | (apply sound_congr hs <;> rfl) | apply sound_mapClk | dsimp only
    | (apply sound_congr (by assumption) <;> rfl))

theorem sound_execMtLowRead (r : MtReader) {s : State} (hs : Sound q s) :
    SoundR q (execMtLowRead r s) := by
  unfold execMtLowRead
  with_reducible repeat' (first
    | assumption | intro _ | (apply sound_congr hs <;> rfl) | apply sound_happens | apply sound_hostShown
    | apply sound_mtHold | apply soundR_ite | apply sound_ite | dsimp only | split
    | (apply sound_congr (by assumption) <;> rfl))

theorem sound_execRefclkQualified {s : State} (hs : Sound q s) :
    SoundR q (execRefclkQualified s) := by
  unfold execRefclkQualified
  with_reducible repeat' (first
    | assumption | intro _ | apply sound_happens | apply sound_refQualified)

theorem sound_execQualificationFail {s : State} (hs : Sound q s) :
    SoundR q (execQualificationFail s) := by
  unfold execQualificationFail
  with_reducible repeat' (first
    | assumption | intro _ | apply sound_happens | apply sound_qualificationFail)

theorem sound_execLock {s : State} (hs : Sound q s) :
    SoundR q (execLock s) := by
  unfold execLock
  with_reducible repeat' (first
    | assumption | intro _ | apply sound_happens | apply sound_clkLocked)

theorem sound_execReferenceLoss {s : State} (hs : Sound q s) :
    SoundR q (execReferenceLoss s) := by
  unfold execReferenceLoss
  with_reducible repeat' (first
    | assumption | intro _ | apply sound_happens | apply sound_referenceLoss)

theorem sound_execReferenceLossSlateHold {s : State} (hs : Sound q s) :
    SoundR q (execReferenceLossSlateHold s) := by
  unfold execReferenceLossSlateHold
  with_reducible repeat' (first
    | assumption | intro _ | apply sound_happens | apply sound_quietLoss)

theorem sound_execClkSwitchWrite (q0 : Req) (v : Word) {s : State} (hs : Sound q s) :
    SoundR q (execClkSwitchWrite q0 v s) := by
  unfold execClkSwitchWrite
  with_reducible repeat' (first
    | assumption | intro _ | apply sound_withAccess | apply sound_clkSwitchWrite | apply soundR_next)

theorem sound_execClockSwitchComplete {s : State} (hs : Sound q s) :
    SoundR q (execClockSwitchComplete s) := by
  unfold execClockSwitchComplete
  with_reducible repeat' (first
    | assumption | intro _ | apply sound_happens | apply sound_switchComplete)

theorem sound_execDivisorChange {s : State} (hs : Sound q s) :
    SoundR q (execDivisorChange s) := by
  unfold execDivisorChange
  with_reducible repeat' (first
    | assumption | intro _ | apply sound_happens | apply sound_divisorChange)

theorem sound_execPlChange (q0 : Req) (v : Word) {s : State} (hs : Sound q s) :
    SoundR q (execPlChange q0 v s) := by
  unfold execPlChange
  with_reducible repeat' (first
    | assumption | intro _ | apply sound_withAccess | apply sound_plWrite | apply soundR_next)

theorem sound_stopStream (p : Packet) {s : State} (hs : Sound q s) :
    Sound q (stopStream p s) := by
  unfold stopStream
  with_reducible repeat' (first
    | assumption | intro _ | (apply sound_congr hs <;> rfl) | apply sound_hwIrq | apply sound_wb
    | apply sound_mapHostif | apply sound_ite | dsimp only | split | (apply sound_congr (by assumption) <;> rfl))

theorem sound_replied (st : Nat) {s : State} (hs : Sound q s) :
    Sound q (replied st s) := by
  unfold replied
  with_reducible repeat' (first
    | assumption | intro _ | apply sound_wb | dsimp only)

theorem sound_respond (p : Packet) (st : Nat) (det : Nat) (data : List Word) {s : State} (hs : Sound q s) :
    Sound q (respond p st det data s) := by
  unfold respond
  with_reducible repeat' (first
    | assumption | intro _ | (apply sound_congr hs <;> rfl) | apply sound_mapHostif | apply sound_stopStream
    | apply sound_ite | dsimp only | split | (apply sound_congr (by assumption) <;> rfl))

theorem sound_rxPush (ws : List Word) {s : State} (hs : Sound q s) :
    Sound q (rxPush ws s) := by
  unfold rxPush
  with_reducible repeat' (first
    | assumption | intro _ | (apply sound_congr hs <;> rfl) | apply sound_mapHostif | apply sound_hwIrq
    | apply sound_ite | dsimp only | split | (apply sound_congr (by assumption) <;> rfl))

theorem sound_postHost (code : Nat) {s : State} (hs : Sound q s) :
    Sound q (postHost code s) := by
  unfold postHost
  with_reducible repeat' (first
    | assumption | apply sound_hwIrq | apply sound_wf)

theorem sound_placeStaged {s : State} (hs : Sound q s) :
    Sound q (placeStaged s) := by
  unfold placeStaged
  with_reducible repeat' (first
    | assumption | intro _ | (apply sound_congr hs <;> rfl) | apply sound_rxPush | apply sound_mapHostif
    | apply sound_replied | apply sound_ite | dsimp only | split | (apply sound_congr (by assumption) <;> rfl))

theorem sound_stateFailed (st : Nat) (det : Nat) {s : State} (hs : Sound q s) :
    Sound q (stateFailed st det s) := by
  unfold stateFailed
  with_reducible repeat' (first
    | assumption | intro _ | (apply sound_congr hs <;> rfl) | apply sound_respond | apply sound_mapHostif
    | dsimp only | split | (apply sound_congr (by assumption) <;> rfl))

theorem sound_stateDone {s : State} (hs : Sound q s) :
    Sound q (stateDone s) := by
  unfold stateDone
  with_reducible repeat' (first
    | assumption | intro _ | (apply sound_congr hs <;> rfl) | apply sound_mapHostif | apply sound_ite | dsimp only
    | split | (apply sound_congr (by assumption) <;> rfl))

theorem sound_pwrCfgErr {s : State} (hs : Sound q s) :
    Sound q (pwrCfgErr s) := by
  unfold pwrCfgErr
  with_reducible repeat' (first
    | assumption | apply sound_wb)

theorem sound_voteApply (v : Word) {s : State} (hs : Sound q s) :
    Sound q (voteApply v s) := by
  unfold voteApply
  with_reducible repeat' (first
    | assumption | apply sound_pwrCfgErr | apply sound_wb | apply sound_ite | dsimp only | split)

theorem sound_voteWrite (v : Word) {s : State} (hs : Sound q s) :
    Sound q (voteWrite v s) := by
  unfold voteWrite
  with_reducible repeat' (first
    | assumption | intro _ | (apply sound_congr hs <;> rfl) | apply sound_mapPwr | apply sound_voteApply
    | apply sound_ite | dsimp only | split | (apply sound_congr (by assumption) <;> rfl))

theorem sound_unfreezeVotes {s : State} (hs : Sound q s) :
    Sound q (unfreezeVotes s) := by
  unfold unfreezeVotes
  with_reducible repeat' (first
    | assumption | intro _ | (apply sound_congr hs <;> rfl) | apply sound_voteApply | apply sound_mapPwr
    | apply sound_foldl | dsimp only | (apply sound_congr (by assumption) <;> rfl))

theorem sound_analogLost {s : State} (hs : Sound q s) :
    Sound q (analogLost s) := by
  unfold analogLost
  with_reducible repeat' (first
    | assumption | intro _ | apply sound_protSafe | apply sound_forAll | apply sound_cmpOff | apply sound_withFreeze
    | apply sound_wb | dsimp only)

theorem sound_pumpOff {s : State} (hs : Sound q s) :
    Sound q (pumpOff s) := by
  unfold pumpOff
  with_reducible repeat' (first
    | assumption | apply sound_wb)

theorem sound_scanStops {s : State} (hs : Sound q s) :
    Sound q (scanStops s) := by
  unfold scanStops
  with_reducible repeat' (first
    | assumption | intro _ | (apply sound_congr hs <;> rfl) | apply sound_mapKey | dsimp only
    | (apply sound_congr (by assumption) <;> rfl))

theorem sound_watchRows {s : State} (hs : Sound q s) :
    Sound q (watchRows s) := by
  unfold watchRows
  with_reducible repeat' (first
    | assumption | intro _ | (apply sound_congr hs <;> rfl) | apply sound_mapKey | apply sound_advance
    | apply sound_ite | apply sound_foldl | dsimp only | split | (apply sound_congr (by assumption) <;> rfl))

theorem sound_retainDomain (d : Nat) {s : State} (hs : Sound q s) :
    Sound q (retainDomain d s) := by
  unfold retainDomain
  with_reducible repeat' (first
    | assumption | intro _ | (apply sound_congr hs <;> rfl) | apply sound_traceEnd | apply sound_holdDomain
    | apply sound_wb | apply sound_forAll | apply sound_safeRequest | apply sound_mapPwr | apply sound_analogLost
    | apply sound_scanStops | apply sound_pumpOff | apply sound_ite | dsimp only | split
    | (apply sound_congr (by assumption) <;> rfl))

theorem sound_setPstate (t : Nat) {s : State} (hs : Sound q s) :
    Sound q (setPstate t s) := by
  unfold setPstate
  with_reducible repeat' (first
    | assumption | apply sound_hwIrq | apply sound_wf)

theorem sound_entryResult (code : Nat) (block : Nat) (load : Nat) {s : State} (hs : Sound q s) :
    Sound q (entryResult code block load s) := by
  unfold entryResult
  with_reducible repeat' (first
    | assumption | apply sound_wr | apply sound_loadBank)

theorem sound_replayEvent (src : Nat) (data : Nat) {s : State} (hs : Sound q s) :
    Sound q (replayEvent src data s) := by
  unfold replayEvent
  with_reducible repeat' (first
    | assumption | apply sound_wb | apply sound_bump | apply sound_keyReplay | apply sound_presChange
    | apply sound_ite | split)

theorem sound_beginWake (src : Nat) (count : Nat) (mt : Nat) (replay : List (Nat × Nat)) {s : State} (hs : Sound q s) :
    Sound q (beginWake src count mt replay s) := by
  unfold beginWake
  with_reducible repeat' (first
    | assumption | intro _ | (apply sound_congr hs <;> rfl) | apply sound_mapPwr | apply sound_wb
    | apply sound_forAll | apply sound_setSource | apply sound_ite | dsimp only | split
    | (apply sound_congr (by assumption) <;> rfl))

theorem sound_wakeEvent (src : Nat) (data : Nat) {s : State} (hs : Sound q s) :
    Sound q (wakeEvent src data s) := by
  unfold wakeEvent
  with_reducible repeat' (first
    | assumption | intro _ | (apply sound_congr hs <;> rfl) | apply sound_mapPwr | apply sound_beginWake
    | apply sound_ite | dsimp only | split | (apply sound_congr (by assumption) <;> rfl))

theorem sound_outsideEvent (src : Nat) {s : State} (hs : Sound q s) :
    Sound q (outsideEvent src s) := by
  unfold outsideEvent
  with_reducible repeat' (first
    | assumption | intro _ | (apply sound_congr hs <;> rfl) | apply sound_wakeEvent | apply sound_mapKey
    | apply sound_ite | dsimp only | split | (apply sound_congr (by assumption) <;> rfl))

theorem sound_closeEntry {s : State} (hs : Sound q s) :
    Sound q (closeEntry s) := by
  unfold closeEntry
  with_reducible repeat' (first
    | assumption | intro _ | (apply sound_congr hs <;> rfl) | apply sound_unfreezeVotes | apply sound_mapPwr
    | apply sound_wb | dsimp only | (apply sound_congr (by assumption) <;> rfl))

theorem sound_latchedWake {s : State} (hs : Sound q s) :
    Sound q (latchedWake s) := by
  unfold latchedWake
  with_reducible repeat' (first
    | assumption | intro _ | (apply sound_congr hs <;> rfl) | apply sound_beginWake | apply sound_mapPwr
    | dsimp only | split | (apply sound_congr (by assumption) <;> rfl))

theorem sound_powerDown (t : Nat) {s : State} (hs : Sound q s) :
    Sound q (powerDown t s) := by
  unfold powerDown
  with_reducible repeat' (first
    | assumption | apply sound_retainDomain | apply sound_watchRows | apply sound_wb | apply sound_setSource
    | apply sound_ite | dsimp only | split)

theorem sound_finishEntry (t : Nat) {s : State} (hs : Sound q s) :
    Sound q (finishEntry t s) := by
  unfold finishEntry
  with_reducible repeat' (first
    | assumption | apply sound_powerDown | apply sound_setPstate | apply sound_entryResult | apply sound_sxtResume
    | apply sound_stateDone | apply sound_closeEntry | apply sound_latchedWake | apply sound_placeStaged
    | apply sound_ite | dsimp only | split)

theorem sound_markEntry (t : Nat) (via : Bool) {s : State} (hs : Sound q s) :
    Sound q (markEntry t via s) := by
  unfold markEntry
  with_reducible repeat' (first
    | assumption | intro _ | (apply sound_congr hs <;> rfl) | apply sound_hw | apply sound_wb | apply sound_wf
    | apply sound_mapPwr | dsimp only | (apply sound_congr (by assumption) <;> rfl))

theorem sound_checkLoad {s : State} (hs : Sound q s) :
    Sound q (checkLoad s) := by
  unfold checkLoad
  with_reducible repeat' (first
    | assumption | intro _ | (apply sound_congr hs <;> rfl) | apply sound_mapPwr | dsimp only
    | (apply sound_congr (by assumption) <;> rfl))

theorem sound_abortEntry (code : Nat) (block : Nat) {s : State} (hs : Sound q s) :
    Sound q (abortEntry code block s) := by
  unfold abortEntry
  with_reducible repeat' (first
    | assumption | intro _ | (apply sound_congr hs <;> rfl) | apply sound_entryResult | apply sound_closeEntry
    | apply sound_wf | apply sound_mapPwr | apply sound_replayEvent | apply sound_stateFailed | apply sound_ite
    | apply sound_foldl | dsimp only | split | (apply sound_congr (by assumption) <;> rfl))

theorem sound_beginEntry (t : Nat) (via : Bool) {s : State} (hs : Sound q s) : Sound q (beginEntry t via s) := by
  unfold beginEntry
  dsimp only
  have h := sound_checkLoad (sound_markEntry t via hs)
  refine sound_ite (sound_ite (sound_placeStaged (sound_stateDone (sound_entryResult _ _ _ hs)))
    (sound_entryResult _ _ _ hs)) (sound_ite (sound_ite (sound_abortEntry _ _ h) h) (sound_markEntry t via hs))

theorem sound_startOldest {s : State} (hs : Sound q s) :
    Sound q (startOldest s) := by
  unfold startOldest
  with_reducible repeat' (first
    | assumption | intro _ | (apply sound_congr hs <;> rfl) | apply sound_beginEntry | apply sound_mapPwr
    | apply sound_ite | dsimp only | split | (apply sound_congr (by assumption) <;> rfl))

theorem sound_startWaiting {s : State} (hs : Sound q s) :
    Sound q (startWaiting s) := by
  unfold startWaiting
  with_reducible repeat' (first
    | assumption | intro _ | apply sound_startOldest | apply sound_foldl | dsimp only)

theorem sound_requestEntry (t : Nat) (via : Bool) {s : State} (hs : Sound q s) :
    Sound q (requestEntry t via s) := by
  unfold requestEntry
  with_reducible repeat' (first
    | assumption | intro _ | (apply sound_congr hs <;> rfl) | apply sound_startWaiting | apply sound_mapPwr
    | dsimp only | (apply sound_congr (by assumption) <;> rfl))

theorem sound_entryWrite (q0 : Nat) (v : Word) {s : State} (hs : Sound q s) :
    Sound q (entryWrite q0 v s) := by
  unfold entryWrite
  with_reducible repeat' (first
    | assumption | apply sound_pwrCfgErr | apply sound_requestEntry | apply sound_ite | dsimp only | split)

theorem sound_entryAdvance {s : State} (hs : Sound q s) :
    Sound q (entryAdvance s) := by
  unfold entryAdvance
  with_reducible repeat' (first
    | assumption | intro _ | (apply sound_congr hs <;> rfl) | apply sound_finishEntry | apply sound_mapPwr
    | apply sound_holdDomain | apply sound_pumpOff | apply sound_ite | dsimp only | split
    | (apply sound_congr (by assumption) <;> rfl))

theorem sound_mtHandover {s : State} (hs : Sound q s) :
    Sound q (mtHandover s) := by
  unfold mtHandover
  with_reducible repeat' (first
    | assumption | (apply sound_congr hs <;> rfl) | apply sound_finishEntry | apply sound_handOver | split)

theorem sound_handshakeAsk (seen : Bool) {s : State} (hs : Sound q s) :
    Sound q (handshakeAsk seen s) := by
  unfold handshakeAsk
  with_reducible repeat' (first
    | assumption | intro _ | (apply sound_congr hs <;> rfl) | apply sound_startWaiting | apply sound_abortEntry
    | apply sound_mapPwr | apply sound_finishEntry | apply sound_ite | dsimp only | split
    | (apply sound_congr (by assumption) <;> rfl))

theorem sound_handshakeTimeout {s : State} (hs : Sound q s) :
    Sound q (handshakeTimeout s) := by
  unfold handshakeTimeout
  with_reducible repeat' (first
    | assumption | (apply sound_congr hs <;> rfl) | apply sound_startWaiting | apply sound_abortEntry | split)

theorem sound_orderDwell (cond : Word) {s : State} (hs : Sound q s) :
    Sound q (orderDwell cond s) := by
  unfold orderDwell
  with_reducible repeat' (first
    | assumption | intro _ | (apply sound_congr hs <;> rfl) | apply sound_forAll | apply sound_mapPwr
    | apply sound_ite | dsimp only | split | (apply sound_congr (by assumption) <;> rfl))

theorem sound_orderFire (t : Nat) {s : State} (hs : Sound q s) :
    Sound q (orderFire t s) := by
  unfold orderFire
  with_reducible repeat' (first
    | assumption | apply sound_requestEntry | apply sound_wakeEvent | apply sound_ite | split)

theorem sound_ordersFire {s : State} (hs : Sound q s) :
    Sound q (ordersFire s) := by
  unfold ordersFire
  with_reducible repeat' (first
    | assumption | intro _ | (apply sound_congr hs <;> rfl) | apply sound_orderFire | apply sound_mapPwr
    | apply sound_foldl | dsimp only | split | (apply sound_congr (by assumption) <;> rfl))

theorem sound_ordersEvaluate {s : State} (hs : Sound q s) :
    Sound q (ordersEvaluate s) := by
  unfold ordersEvaluate
  with_reducible repeat' (first
    | assumption | intro _ | (apply sound_congr hs <;> rfl) | apply sound_orderDwell | apply sound_mapPwr
    | apply sound_advance | apply sound_ordersFire | apply sound_ite | dsimp only | split
    | (apply sound_congr (by assumption) <;> rfl))

theorem sound_readyBits (ds : List Nat) {s : State} (hs : Sound q s) :
    Sound q (readyBits ds s) := by
  unfold readyBits
  with_reducible repeat' (first
    | assumption | intro _ | apply sound_sxtResume | apply sound_wb | apply sound_ite | apply sound_foldl
    | dsimp only | split)

theorem sound_wakeEffect (w : Wake) {s : State} (hs : Sound q s) :
    Sound q (wakeEffect w s) := by
  unfold wakeEffect
  with_reducible repeat' (first
    | assumption | intro _ | (apply sound_congr hs <;> rfl) | apply sound_mapPwr | apply sound_readyBits
    | apply sound_fabricLoad | apply sound_counterRuns | apply sound_forAll | apply sound_setSource
    | apply sound_ite | dsimp only | split | (apply sound_congr (by assumption) <;> rfl))

theorem sound_wakeStep {s : State} (hs : Sound q s) :
    Sound q (wakeStep s) := by
  unfold wakeStep
  with_reducible repeat' (first
    | assumption | intro _ | (apply sound_congr hs <;> rfl) | apply sound_wakeEffect | apply sound_mapPwr
    | apply sound_ite | dsimp only | split | (apply sound_congr (by assumption) <;> rfl))

theorem sound_wakeRecord (w : Wake) {s : State} (hs : Sound q s) :
    Sound q (wakeRecord w s) := by
  unfold wakeRecord
  with_reducible repeat' (first
    | assumption | apply sound_hwIrq | apply sound_wr | apply sound_wrWide | apply sound_ite | split)

theorem sound_wakeComplete {s : State} (hs : Sound q s) :
    Sound q (wakeComplete s) := by
  unfold wakeComplete
  with_reducible repeat' (first
    | assumption | intro _ | (apply sound_congr hs <;> rfl) | apply sound_setPstate | apply sound_mapPwr
    | apply sound_wb | apply sound_startWaiting | apply sound_placeStaged | apply sound_replayEvent
    | apply sound_wakeRecord | apply sound_foldl | dsimp only | split | (apply sound_congr (by assumption) <;> rfl))

theorem sound_readyDomain (d : Nat) {s : State} (hs : Sound q s) :
    Sound q (readyDomain d s) := by
  unfold readyDomain
  with_reducible repeat' (first
    | assumption | intro _ | (apply sound_congr hs <;> rfl) | apply sound_mapPwr | apply sound_fabricLoad
    | apply sound_sxtResume | apply sound_wb | apply sound_ite | dsimp only | split
    | (apply sound_congr (by assumption) <;> rfl))

theorem sound_lockFail {s : State} (hs : Sound q s) :
    Sound q (lockFail s) := by
  unfold lockFail
  with_reducible repeat' (first
    | assumption | intro _ | (apply sound_congr hs <;> rfl) | apply sound_wb | apply sound_mapPwr
    | apply sound_loopSettled | apply sound_counterRuns | apply sound_fabricLoad | apply sound_pendNmiAll
    | apply sound_ite | dsimp only | split | (apply sound_congr (by assumption) <;> rfl))

theorem sound_counterLoad {s : State} (hs : Sound q s) :
    Sound q (counterLoad s) := by
  unfold counterLoad
  with_reducible repeat' (first
    | assumption | apply sound_counterRuns | apply sound_fabricLoad | apply sound_ite | split)

theorem sound_pwrWrite (a : Nat) (v : Word) {s : State} (hs : Sound q s) :
    Sound q (pwrWrite a v s) := by
  unfold pwrWrite
  with_reducible repeat' (first
    | assumption | apply sound_pwrCfgErr | apply sound_plainWrite | apply sound_ite | split)

theorem sound_execPlChangeComplete {s : State} (hs : Sound q s) :
    SoundR q (execPlChangeComplete s) := by
  unfold execPlChangeComplete
  with_reducible repeat' (first
    | assumption | intro _ | apply sound_happens | apply sound_startWaiting | apply sound_plComplete | dsimp only)

theorem sound_execLockFail {s : State} (hs : Sound q s) :
    SoundR q (execLockFail s) := by
  unfold execLockFail
  with_reducible repeat' (first
    | assumption | intro _ | apply sound_happens | apply sound_lockFail)

theorem sound_execMtHandover {s : State} (hs : Sound q s) :
    SoundR q (execMtHandover s) := by
  unfold execMtHandover
  with_reducible repeat' (first
    | assumption | intro _ | apply sound_happens | apply sound_mtHandover)

theorem sound_execFabricCounterLoad {s : State} (hs : Sound q s) :
    SoundR q (execFabricCounterLoad s) := by
  unfold execFabricCounterLoad
  with_reducible repeat' (first
    | assumption | intro _ | apply sound_happens | apply sound_counterLoad)

theorem sound_execStateEntry (c : EntryCause) {s : State} (hs : Sound q s) :
    SoundR q (execStateEntry c s) := by
  unfold execStateEntry
  with_reducible repeat' (first
    | assumption | intro _ | (apply sound_congr hs <;> rfl) | apply sound_withAccess | apply sound_entryWrite
    | apply sound_happens | apply sound_ordersFire | apply soundR_next | dsimp only | split
    | (apply sound_congr (by assumption) <;> rfl))

theorem sound_execEntryCellsStopped {s : State} (hs : Sound q s) :
    SoundR q (execEntryCellsStopped s) := by
  unfold execEntryCellsStopped
  with_reducible repeat' (first
    | assumption | intro _ | apply sound_happens | apply sound_entryAdvance)

theorem sound_execHandshakeAsk (delays : Bool) {s : State} (hs : Sound q s) :
    SoundR q (execHandshakeAsk delays s) := by
  unfold execHandshakeAsk
  with_reducible repeat' (first
    | assumption | intro _ | apply sound_happens | apply sound_handshakeAsk)

theorem sound_execHandshakeTimeout {s : State} (hs : Sound q s) :
    SoundR q (execHandshakeTimeout s) := by
  unfold execHandshakeTimeout
  with_reducible repeat' (first
    | assumption | intro _ | apply sound_happens | apply sound_handshakeTimeout)

theorem sound_execStandingOrderEvaluation {s : State} (hs : Sound q s) :
    SoundR q (execStandingOrderEvaluation s) := by
  unfold execStandingOrderEvaluation
  with_reducible repeat' (first
    | assumption | intro _ | apply sound_happens | apply sound_ordersEvaluate)

theorem sound_execVoteSet (q0 : Req) (v : Word) {s : State} (hs : Sound q s) :
    SoundR q (execVoteSet q0 v s) := by
  unfold execVoteSet
  with_reducible repeat' (first
    | assumption | intro _ | apply sound_withAccess | apply sound_voteWrite | apply soundR_next)

theorem sound_execVoteWithdraw (q0 : Req) (v : Word) {s : State} (hs : Sound q s) :
    SoundR q (execVoteWithdraw q0 v s) := by
  unfold execVoteWithdraw
  with_reducible repeat' (first
    | assumption | intro _ | apply sound_withAccess | apply sound_voteWrite | apply soundR_next)

theorem sound_execDomainRetentionEntry (d : DomId) {s : State} (hs : Sound q s) :
    SoundR q (execDomainRetentionEntry d s) := by
  unfold execDomainRetentionEntry
  with_reducible repeat' (first
    | assumption | intro _ | apply sound_happens | apply sound_retainDomain)

theorem sound_execDomainReady (d : DomId) {s : State} (hs : Sound q s) :
    SoundR q (execDomainReady d s) := by
  unfold execDomainReady
  with_reducible repeat' (first
    | assumption | intro _ | apply sound_happens | apply sound_readyDomain)

theorem sound_execWakeEvent (src : BitVec 5) {s : State} (hs : Sound q s) :
    SoundR q (execWakeEvent src s) := by
  unfold execWakeEvent
  with_reducible repeat' (first
    | assumption | intro _ | apply sound_happens | apply sound_outsideEvent)

theorem sound_execWakeStep {s : State} (hs : Sound q s) :
    SoundR q (execWakeStep s) := by
  unfold execWakeStep
  with_reducible repeat' (first
    | assumption | intro _ | apply sound_happens | apply sound_wakeStep)

theorem sound_execWakeComplete {s : State} (hs : Sound q s) :
    SoundR q (execWakeComplete s) := by
  unfold execWakeComplete
  with_reducible repeat' (first
    | assumption | intro _ | apply sound_happens | apply sound_wakeComplete)

theorem sound_holdReset {s : State} (hs : Sound q s) :
    Sound q (holdReset s) := by
  unfold holdReset
  with_reducible repeat' (first
    | assumption | intro _ | apply sound_wb | apply sound_foldl | dsimp only)

theorem sound_resetCause (x : Nat × Nat) {s : State} (hs : Sound q s) :
    Sound q (resetCause x s) := by
  unfold resetCause
  with_reducible repeat' (first
    | assumption | intro _ | (apply sound_congr hs <;> rfl) | apply sound_wr | apply sound_mapCyc | dsimp only
    | (apply sound_congr (by assumption) <;> rfl))

theorem above_keepRegs {l : Mem} {j : Nat} (h : above j l = true) : above j (keepRegs l) = true := by
  induction l with
  | nil => rfl
  | cons x l ih =>
    simp only [above, Bool.and_eq_true, decide_eq_true_eq] at h
    have := ih h.2
    unfold keepRegs at this ⊢
    by_cases hk : keepWord x.1 x.2 = regReset x.1 <;> simp_all [above]

theorem canonical_keepRegs {m : Mem} (h : canonical regReset m = true) : canonical regReset (keepRegs m) = true := by
  induction m with
  | nil => rfl
  | cons x m ih =>
    simp only [canonical, Bool.and_eq_true, decide_eq_true_eq] at h
    have h1 := above_keepRegs h.1.2
    have h2 := ih h.2
    unfold keepRegs at h1 h2 ⊢
    by_cases hk : keepWord x.1 x.2 = regReset x.1 <;> simp_all [canonical]

theorem reset_wf : State.reset.WF := by
  constructor <;> decide

theorem sound_resetKeep (code : Nat) {s : State} (hs : Sound q s) : Sound q (resetKeep code s) := by
  refine sound_resetCause _ (sound_holdReset ?_)
  exact ⟨hs.pend, ⟨canonical_filter hs.wf.mem, canonical_keepRegs hs.wf.reg, reset_wf.bank, reset_wf.claims,
    reset_wf.ctr⟩, hs.otp⟩

theorem sound_resetCold {s : State} (hs : Sound q s) : Sound q (resetCold s) :=
  sound_holdReset ⟨hs.pend, ⟨reset_wf.mem, reset_wf.reg, reset_wf.bank, reset_wf.claims, reset_wf.ctr⟩, hs.otp⟩

theorem sound_goOff {s : State} (hs : Sound q s) :
    Sound q (goOff s) := by
  unfold goOff
  with_reducible repeat' (first
    | assumption | intro _ | (apply sound_congr hs <;> rfl) | apply sound_resetCold | apply sound_mapPwr
    | apply sound_wf | dsimp only | (apply sound_congr (by assumption) <;> rfl))

theorem sound_brownOut {s : State} (hs : Sound q s) :
    Sound q (brownOut s) := by
  unfold brownOut
  with_reducible repeat' (first
    | assumption | apply sound_bump | apply sound_wr | apply sound_resetKeep | apply sound_wrWide | dsimp only)

theorem sound_release {s : State} (hs : Sound q s) :
    Sound q (release s) := by
  unfold release
  with_reducible repeat' (first
    | assumption | intro _ | (apply sound_congr hs <;> rfl) | apply sound_mapPwr | apply sound_forAll
    | apply sound_setSource | apply sound_fabricLoad | apply sound_readyBits | apply sound_wb | apply sound_ite
    | dsimp only | split | (apply sound_congr (by assumption) <;> rfl))

theorem sound_sysResetWrite (q0 : Nat) (v : Word) {s : State} (hs : Sound q s) :
    Sound q (sysResetWrite q0 v s) := by
  unfold sysResetWrite
  with_reducible repeat' (first
    | assumption | apply sound_resetKeep | apply sound_ite | split)

theorem sound_vddaCross (above : Bool) {s : State} (hs : Sound q s) :
    Sound q (vddaCross above s) := by
  unfold vddaCross
  with_reducible repeat' (first
    | assumption | intro _ | (apply sound_congr hs <;> rfl) | apply sound_mapPwr | apply sound_wb
    | apply sound_analogLost | apply sound_ite | dsimp only | split | (apply sound_congr (by assumption) <;> rfl))

theorem sound_execColdReset {s : State} (hs : Sound q s) :
    SoundR q (execColdReset s) := by
  unfold execColdReset
  with_reducible repeat' (first
    | assumption | apply sound_resetCold | apply soundR_next)

theorem sound_execPinReset {s : State} (hs : Sound q s) :
    SoundR q (execPinReset s) := by
  unfold execPinReset
  with_reducible repeat' (first
    | assumption | intro _ | apply sound_happens | apply sound_resetKeep)

theorem sound_execLockupReset {s : State} (hs : Sound q s) :
    SoundR q (execLockupReset s) := by
  unfold execLockupReset
  with_reducible repeat' (first
    | assumption | intro _ | apply sound_happens | apply sound_resetKeep)

theorem sound_execSysreset {s : State} (hs : Sound q s) :
    SoundR q (execSysreset s) := by
  unfold execSysreset
  with_reducible repeat' (first
    | assumption | intro _ | apply sound_happens | apply sound_resetKeep)

theorem sound_execSoftReset (q0 : Req) (v : Word) {s : State} (hs : Sound q s) :
    SoundR q (execSoftReset q0 v s) := by
  unfold execSoftReset
  with_reducible repeat' (first
    | assumption | intro _ | apply sound_withAccess | apply sound_sysResetWrite | apply soundR_next)

theorem sound_execBrownOut {s : State} (hs : Sound q s) :
    SoundR q (execBrownOut s) := by
  unfold execBrownOut
  with_reducible repeat' (first
    | assumption | intro _ | apply sound_happens | apply sound_brownOut)

theorem sound_execResetRelease {s : State} (hs : Sound q s) :
    SoundR q (execResetRelease s) := by
  unfold execResetRelease
  with_reducible repeat' (first
    | assumption | intro _ | apply sound_happens | apply sound_release)

theorem sound_execPowerOff {s : State} (hs : Sound q s) :
    SoundR q (execPowerOff s) := by
  unfold execPowerOff
  with_reducible repeat' (first
    | assumption | apply sound_goOff | apply soundR_next)

theorem sound_execVdda33Crossing (above : Bool) {s : State} (hs : Sound q s) :
    SoundR q (execVdda33Crossing above s) := by
  unfold execVdda33Crossing
  with_reducible repeat' (first
    | assumption | intro _ | apply sound_happens | apply sound_vddaCross)

theorem sound_execOtpAddrWrite (q0 : Req) (v : Word) {s : State} (hs : Sound q s) :
    SoundR q (execOtpAddrWrite q0 v s) := by
  unfold execOtpAddrWrite
  with_reducible repeat' (first
    | assumption | intro _ | apply sound_withAccess | apply sound_plainWrite | apply soundR_next)

theorem sound_tlCfgErr {s : State} (hs : Sound q s) :
    Sound q (tlCfgErr s) := by
  unfold tlCfgErr
  with_reducible repeat' (first
    | assumption | apply sound_wb)

theorem sound_presFlag (x : Nat) {s : State} (hs : Sound q s) :
    Sound q (presFlag x s) := by
  unfold presFlag
  with_reducible repeat' (first
    | assumption | apply sound_wakeEvent | apply sound_presChange | apply sound_ite | split)

theorem sound_presence (n : Nat) {s : State} (hs : Sound q s) :
    Sound q (presence n s) := by
  unfold presence
  with_reducible repeat' (first
    | assumption | apply sound_presFlag | apply sound_wb)

theorem sound_slotSafe (n : Nat) {s : State} (hs : Sound q s) :
    Sound q (slotSafe n s) := by
  unfold slotSafe
  with_reducible repeat' (first
    | assumption | intro _ | apply sound_forAll | apply sound_safeRequest | apply sound_cellStop | apply sound_ite
    | apply sound_foldl | dsimp only | split)

theorem sound_cutDiscovery (n : Nat) {s : State} (hs : Sound q s) :
    Sound q (cutDiscovery n s) := by
  unfold cutDiscovery
  with_reducible repeat' (first
    | assumption | intro _ | (apply sound_congr hs <;> rfl) | apply sound_mapTl | apply sound_ite | dsimp only
    | split | (apply sound_congr (by assumption) <;> rfl))

theorem sound_absence (n : Nat) {s : State} (hs : Sound q s) :
    Sound q (absence n s) := by
  unfold absence
  with_reducible repeat' (first
    | assumption | apply sound_wb | apply sound_presFlag | apply sound_cutDiscovery | apply sound_slotSafe
    | apply sound_ite | dsimp only | split)

theorem sound_tlPen (v : Word) {s : State} (hs : Sound q s) :
    Sound q (tlPen v s) := by
  unfold tlPen
  with_reducible repeat' (first
    | assumption | intro _ | apply sound_tlCfgErr | apply sound_needPads | apply sound_plainWrite | apply sound_ite
    | dsimp only | split)

theorem sound_tlSend (cmd : Nat) (addr : Nat) (ws : List Word) (disc : Bool) {s : State} (hs : Sound q s) :
    Sound q (tlSend cmd addr ws disc s) := by
  unfold tlSend
  with_reducible repeat' (first
    | assumption | intro _ | (apply sound_congr hs <;> rfl) | apply sound_wr | apply sound_needPads
    | apply sound_mapTl | apply sound_foldl | dsimp only | (apply sound_congr (by assumption) <;> rfl))

theorem sound_tlXferWrite (v : Word) {s : State} (hs : Sound q s) :
    Sound q (tlXferWrite v s) := by
  unfold tlXferWrite
  with_reducible repeat' (first
    | assumption | intro _ | apply sound_tlCfgErr | apply sound_plainWrite | apply sound_tlSend | apply sound_ite
    | dsimp only | split)

theorem sound_tlFiltWrite (v : Word) {s : State} (hs : Sound q s) :
    Sound q (tlFiltWrite v s) := by
  unfold tlFiltWrite
  with_reducible repeat' (first
    | assumption | apply sound_plainWrite | apply sound_tlCfgErr | apply sound_ite | dsimp only | split)

theorem sound_tlWrite (q0 : Nat) (a : Nat) (v : Word) {s : State} (hs : Sound q s) :
    Sound q (tlWrite q0 a v s) := by
  unfold tlWrite
  with_reducible repeat' (first
    | assumption | apply sound_tlCfgErr | apply sound_tlPen | apply sound_tlFiltWrite | apply sound_tlXferWrite
    | apply sound_plainWrite | apply sound_ite | split)

theorem sound_execPresenceAccepted (n : Slot) {s : State} (hs : Sound q s) :
    SoundR q (execPresenceAccepted n s) := by
  unfold execPresenceAccepted
  with_reducible repeat' (first
    | assumption | intro _ | apply sound_happens | apply sound_presence)

theorem sound_execAbsenceAccepted (n : Slot) {s : State} (hs : Sound q s) :
    SoundR q (execAbsenceAccepted n s) := by
  unfold execAbsenceAccepted
  with_reducible repeat' (first
    | assumption | intro _ | apply sound_happens | apply sound_absence)

theorem sound_execTlPenWrite (q0 : Req) (v : Word) {s : State} (hs : Sound q s) :
    SoundR q (execTlPenWrite q0 v s) := by
  unfold execTlPenWrite
  with_reducible repeat' (first
    | assumption | intro _ | apply sound_withAccess | apply sound_tlWrite | apply soundR_next)

theorem sound_keyCfgErr {s : State} (hs : Sound q s) :
    Sound q (keyCfgErr s) := by
  unfold keyCfgErr
  with_reducible repeat' (first
    | assumption | apply sound_wb)

theorem sound_keyWakes (k : Nat) (press : Bool) {s : State} (hs : Sound q s) :
    Sound q (keyWakes k press s) := by
  unfold keyWakes
  with_reducible repeat' (first
    | assumption | apply sound_wakeEvent | apply sound_ite | split)

theorem sound_unlockPress (k : Nat) {s : State} (hs : Sound q s) :
    Sound q (unlockPress k s) := by
  unfold unlockPress
  with_reducible repeat' (first
    | assumption | intro _ | (apply sound_congr hs <;> rfl) | apply sound_mapKey | apply sound_ite | dsimp only
    | split | (apply sound_congr (by assumption) <;> rfl))

theorem sound_wakingSet (k : Nat) (press : Bool) {s : State} (hs : Sound q s) :
    Sound q (wakingSet k press s) := by
  unfold wakingSet
  with_reducible repeat' (first
    | assumption | intro _ | (apply sound_congr hs <;> rfl) | apply sound_mapKey | apply sound_ite | dsimp only
    | split | (apply sound_congr (by assumption) <;> rfl))

theorem sound_reportChange (k : Nat) (press : Bool) (stuck : Bool) (ambig : Bool) {s : State} (hs : Sound q s) :
    Sound q (reportChange k press stuck ambig s) := by
  unfold reportChange
  with_reducible repeat' (first
    | assumption | intro _ | (apply sound_congr hs <;> rfl) | apply sound_wakingSet | apply sound_mapPwr
    | apply sound_unlockPress | apply sound_wakeEvent | apply sound_keyHold | apply sound_keyWakes
    | apply sound_keyChange | apply sound_ite | dsimp only | split | (apply sound_congr (by assumption) <;> rfl))

theorem sound_putKeyMap (a : Nat) (m : BitVec 144) {s : State} (hs : Sound q s) :
    Sound q (putKeyMap a m s) := by
  unfold putKeyMap
  with_reducible repeat' (first
    | assumption | apply sound_wrWide)

theorem sound_unlockEnd {s : State} (hs : Sound q s) :
    Sound q (unlockEnd s) := by
  unfold unlockEnd
  with_reducible repeat' (first
    | assumption | intro _ | (apply sound_congr hs <;> rfl) | apply sound_wb | apply sound_bump | apply sound_hwIrq
    | apply sound_putKeyMap | apply sound_mapKey | apply sound_ite | dsimp only | split
    | (apply sound_congr (by assumption) <;> rfl))

theorem sound_scanSets (raw : BitVec 144) {s : State} (hs : Sound q s) :
    Sound q (scanSets raw s) := by
  unfold scanSets
  with_reducible repeat' (first
    | assumption | intro _ | (apply sound_congr hs <;> rfl) | apply sound_mapKey | apply sound_ite
    | apply sound_foldl | dsimp only | split | (apply sound_congr (by assumption) <;> rfl))

theorem sound_reportAll (was : BitVec 144) {s : State} (hs : Sound q s) :
    Sound q (reportAll was s) := by
  unfold reportAll
  with_reducible repeat' (first
    | assumption | intro _ | apply sound_reportChange | apply sound_foldl | dsimp only)

theorem sound_scanEnd (raw : BitVec 144) {s : State} (hs : Sound q s) :
    Sound q (scanEnd raw s) := by
  unfold scanEnd
  with_reducible repeat' (first
    | assumption | apply sound_scanSets | apply sound_reportAll | apply sound_putKeyMap | apply sound_unlockEnd
    | apply sound_wb | dsimp only)

theorem sound_fifoPop (host : Bool) {s : State} (hs : Sound q s) :
    Sound q (fifoPop host s).2 := by
  unfold fifoPop
  with_reducible repeat' (first
    | assumption | intro _ | (apply sound_congr hs <;> rfl) | apply sound_mapKey | apply sound_ite | dsimp only
    | split | (apply sound_congr (by assumption) <;> rfl))

theorem sound_setLock {s : State} (hs : Sound q s) :
    Sound q (setLock s) := by
  unfold setLock
  with_reducible repeat' (first
    | assumption | intro _ | (apply sound_congr hs <;> rfl) | apply sound_keyCfgErr | apply sound_bump
    | apply sound_wb | apply sound_mapKey | apply sound_ite | dsimp only | split
    | (apply sound_congr (by assumption) <;> rfl))

theorem sound_keyCtrlWrite (v : Word) {s : State} (hs : Sound q s) :
    Sound q (keyCtrlWrite v s) := by
  unfold keyCtrlWrite
  with_reducible repeat' (first
    | assumption | intro _ | (apply sound_congr hs <;> rfl) | apply sound_needPads | apply sound_plainWrite
    | apply sound_putKeyMap | apply sound_wb | apply sound_mapKey | apply sound_ite | dsimp only | split
    | (apply sound_congr (by assumption) <;> rfl))

theorem sound_unlockWrite (q0 : Nat) (a : Nat) (v : Word) {s : State} (hs : Sound q s) :
    Sound q (unlockWrite q0 a v s) := by
  unfold unlockWrite
  with_reducible repeat' (first
    | assumption | apply sound_keyCfgErr | apply sound_plainWrite | apply sound_ite | split)

theorem sound_keyWrite (q0 : Nat) (a : Nat) (v : Word) {s : State} (hs : Sound q s) :
    Sound q (keyWrite q0 a v s) := by
  unfold keyWrite
  with_reducible repeat' (first
    | assumption | apply sound_keyCtrlWrite | apply sound_plainWrite | apply sound_keyCfgErr | apply sound_setLock
    | apply sound_unlockWrite | apply sound_ite | dsimp only | split)

theorem sound_execScanStart {s : State} (hs : Sound q s) :
    SoundR q (execScanStart s) := by
  unfold execScanStart
  with_reducible repeat' (first
    | assumption | intro _ | (apply sound_congr hs <;> rfl) | apply sound_happens | apply sound_mapKey | dsimp only
    | (apply sound_congr (by assumption) <;> rfl))

theorem sound_execScanEnd (raw : BitVec 144) {s : State} (hs : Sound q s) :
    SoundR q (execScanEnd raw s) := by
  unfold execScanEnd
  with_reducible repeat' (first
    | assumption | intro _ | apply sound_happens | apply sound_scanEnd)

theorem sound_execUnlockTimeout {s : State} (hs : Sound q s) :
    SoundR q (execUnlockTimeout s) := by
  unfold execUnlockTimeout
  with_reducible repeat' (first
    | assumption | intro _ | (apply sound_congr hs <;> rfl) | apply sound_happens | apply sound_mapKey | dsimp only
    | (apply sound_congr (by assumption) <;> rfl))

theorem sound_execKeyFifoRead (host : Bool) (q0 : Req) {s : State} (hs : Sound q s) :
    SoundR q (execKeyFifoRead host q0 s) := by
  unfold execKeyFifoRead
  with_reducible repeat' (first
    | assumption | intro _ | apply sound_happens | apply sound_hostShown | apply sound_fifoPop
    | apply sound_withAccess | apply soundR_ite | apply sound_ite | apply soundR_next | dsimp only | split)

theorem sound_execLockSet (host : Bool) (q0 : Req) (v : Word) {s : State} (hs : Sound q s) :
    SoundR q (execLockSet host q0 v s) := by
  unfold execLockSet
  with_reducible repeat' (first
    | assumption | intro _ | apply sound_happens | apply sound_setLock | apply sound_endFrame
    | apply sound_withAccess | apply sound_keyWrite | apply soundR_ite | apply sound_ite | apply soundR_next
    | dsimp only | split)

theorem sound_cupCfgErr {s : State} (hs : Sound q s) :
    Sound q (cupCfgErr s) := by
  unfold cupCfgErr
  with_reducible repeat' (first
    | assumption | apply sound_wb)

theorem sound_frameEnd {s : State} (hs : Sound q s) :
    Sound q (frameEnd s) := by
  unfold frameEnd
  with_reducible repeat' (first
    | assumption | intro _ | (apply sound_congr hs <;> rfl) | apply sound_bump | apply sound_mapCup | apply sound_wb
    | apply sound_ite | dsimp only | split | (apply sound_congr (by assumption) <;> rfl))

theorem sound_framesBegin (was : Bool) {s : State} (hs : Sound q s) :
    Sound q (framesBegin was s) := by
  unfold framesBegin
  with_reducible repeat' (first
    | assumption | intro _ | (apply sound_congr hs <;> rfl) | apply sound_mapCup | apply sound_ite | dsimp only
    | split | (apply sound_congr (by assumption) <;> rfl))

theorem sound_cupWrite (q0 : Nat) (a : Nat) (v : Word) {s : State} (hs : Sound q s) :
    Sound q (cupWrite q0 a v s) := by
  unfold cupWrite
  with_reducible repeat' (first
    | assumption | apply sound_cupCfgErr | apply sound_framesBegin | apply sound_plainWrite | apply sound_ite
    | dsimp only | split)

theorem sound_execCupolaFrame {s : State} (hs : Sound q s) :
    SoundR q (execCupolaFrame s) := by
  unfold execCupolaFrame
  with_reducible repeat' (first
    | assumption | intro _ | apply sound_happens | apply sound_frameEnd)

theorem sound_execPumpOkChange (ok : Bool) {s : State} (hs : Sound q s) :
    SoundR q (execPumpOkChange ok s) := by
  unfold execPumpOkChange
  with_reducible repeat' (first
    | assumption | intro _ | apply sound_happens | apply sound_framesBegin | apply sound_wb | dsimp only)

end Sys2Proof.Machine
end

