-- ==== Sys2Proof/Laws/SoundSxt.lean ====
section
/-! SUPPORT. Every operation keeps Sound: the bus, Sextant and the calculator. -/
namespace Sys2Proof.Machine

set_option linter.unusedTactic false
set_option linter.unreachableTactic false

variable {q : Kept}

theorem sound_sxtCfgErr {s : State} (hs : Sound q s) :
    Sound q (sxtCfgErr s) := by
  unfold sxtCfgErr
  with_reducible repeat' (first
    | assumption | apply sound_wb)

theorem sound_zeroNumbers (a : Nat) (n : Nat) {s : State} (hs : Sound q s) :
    Sound q (zeroNumbers a n s) := by
  unfold zeroNumbers
  with_reducible repeat' (first
    | assumption | intro _ | apply sound_wrMemN | apply sound_foldl | dsimp only)

theorem sound_calcClear {s : State} (hs : Sound q s) :
    Sound q (calcClear s) := by
  unfold calcClear
  with_reducible repeat' (first
    | assumption | intro _ | (apply sound_congr hs <;> rfl) | apply sound_zeroNumbers | apply sound_mapCalc
    | dsimp only | (apply sound_congr (by assumption) <;> rfl))

theorem sound_calcCtrlWrite (v : Word) {s : State} (hs : Sound q s) :
    Sound q (calcCtrlWrite v s) := by
  unfold calcCtrlWrite
  with_reducible repeat' (first
    | assumption | intro _ | (apply sound_congr hs <;> rfl) | apply sound_plainWrite | apply sound_mapCalc
    | apply sound_sxtCfgErr | apply sound_calcClear | apply sound_ite | dsimp only | split
    | (apply sound_congr (by assumption) <;> rfl))

theorem sound_patchClear {s : State} (hs : Sound q s) :
    Sound q (patchClear s) := by
  unfold patchClear
  with_reducible repeat' (first
    | assumption | intro _ | (apply sound_congr hs <;> rfl) | apply sound_mapSxt | apply sound_wrWide
    | apply sound_wr | apply sound_wb | dsimp only | (apply sound_congr (by assumption) <;> rfl))

theorem sound_patchArm (r : List Word) {s : State} (hs : Sound q s) :
    Sound q (patchArm r s) := by
  unfold patchArm
  with_reducible repeat' (first
    | assumption | intro _ | (apply sound_congr hs <;> rfl) | apply sound_mapSxt | apply sound_wr | apply sound_wb
    | apply sound_foldl | dsimp only | (apply sound_congr (by assumption) <;> rfl))

theorem sound_patchCheck (r : List Word) {s : State} (hs : Sound q s) :
    Sound q (patchCheck r s) := by
  unfold patchCheck
  with_reducible repeat' (first
    | assumption | intro _ | (apply sound_congr hs <;> rfl) | apply sound_mapSxt | apply sound_wb
    | apply sound_patchArm | apply sound_ite | dsimp only | split | (apply sound_congr (by assumption) <;> rfl))

theorem sound_patchWord (v : Word) {s : State} (hs : Sound q s) :
    Sound q (patchWord v s) := by
  unfold patchWord
  with_reducible repeat' (first
    | assumption | intro _ | (apply sound_congr hs <;> rfl) | apply sound_patchClear | apply sound_mapSxt
    | apply sound_patchCheck | apply sound_ite | dsimp only | split | (apply sound_congr (by assumption) <;> rfl))

theorem sound_patchDataWrite (q0 : Nat) (v : Word) {s : State} (hs : Sound q s) :
    Sound q (patchDataWrite q0 v s) := by
  unfold patchDataWrite
  with_reducible repeat' (first
    | assumption | apply sound_sxtCfgErr | apply sound_patchWord | apply sound_ite | split)

theorem sound_patchCtrlWrite (q0 : Nat) (v : Word) {s : State} (hs : Sound q s) :
    Sound q (patchCtrlWrite q0 v s) := by
  unfold patchCtrlWrite
  with_reducible repeat' (first
    | assumption | intro _ | (apply sound_congr hs <;> rfl) | apply sound_sxtCfgErr | apply sound_plainWrite
    | apply sound_mapSxt | apply sound_patchClear | apply sound_wb | apply sound_ite | dsimp only | split
    | (apply sound_congr (by assumption) <;> rfl))

theorem sound_sxtWrite (q0 : Nat) (a : Nat) (v : Word) {s : State} (hs : Sound q s) :
    Sound q (sxtWrite q0 a v s) := by
  unfold sxtWrite
  with_reducible repeat' (first
    | assumption | apply sound_sxtSubmit | apply sound_calcCtrlWrite | apply sound_patchCtrlWrite
    | apply sound_patchDataWrite | apply sound_plainWrite | apply sound_ite | split)

theorem sound_execPatchHold (q0 : Req) {s : State} (hs : Sound q s) :
    SoundR q (execPatchHold q0 s) := by
  unfold execPatchHold
  with_reducible repeat' (first
    | assumption | intro _ | apply sound_withAccess | apply sound_patchCtrlWrite | apply soundR_next)

theorem sound_execPatchRelease (q0 : Req) {s : State} (hs : Sound q s) :
    SoundR q (execPatchRelease q0 s) := by
  unfold execPatchRelease
  with_reducible repeat' (first
    | assumption | intro _ | apply sound_withAccess | apply sound_patchCtrlWrite | apply soundR_next)

theorem sound_execPatchData (q0 : Req) (v : Word) {s : State} (hs : Sound q s) :
    SoundR q (execPatchData q0 v s) := by
  unfold execPatchData
  with_reducible repeat' (first
    | assumption | intro _ | apply sound_withAccess | apply sound_patchDataWrite | apply soundR_next)

theorem sound_execCalcClear (q0 : Req) {s : State} (hs : Sound q s) :
    SoundR q (execCalcClear q0 s) := by
  unfold execCalcClear
  with_reducible repeat' (first
    | assumption | intro _ | apply sound_withAccess | apply sound_calcCtrlWrite | apply soundR_next | dsimp only)

theorem sound_hostifCfgErr {s : State} (hs : Sound q s) :
    Sound q (hostifCfgErr s) := by
  unfold hostifCfgErr
  with_reducible repeat' (first
    | assumption | apply sound_wb)

theorem sound_hostError (bit : Nat) (ctr : Nat) {s : State} (hs : Sound q s) :
    Sound q (hostError bit ctr s) := by
  unfold hostError
  with_reducible repeat' (first
    | assumption | apply sound_hwIrq | apply sound_wb | apply sound_bump)

theorem sound_txPush (v : Word) {s : State} (hs : Sound q s) :
    Sound q (txPush v s) := by
  unfold txPush
  with_reducible repeat' (first
    | assumption | intro _ | (apply sound_congr hs <;> rfl) | apply sound_hostError | apply sound_mapHostif
    | apply sound_ite | dsimp only | split | (apply sound_congr (by assumption) <;> rfl))

theorem sound_txSet (ws : List Word) {s : State} (hs : Sound q s) :
    Sound q (txSet ws s) := by
  unfold txSet
  with_reducible repeat' (first
    | assumption | intro _ | (apply sound_congr hs <;> rfl) | apply sound_mapHostif | apply sound_hwIrq
    | apply sound_ite | dsimp only | split | (apply sound_congr (by assumption) <;> rfl))

theorem sound_txPop {s : State} (hs : Sound q s) :
    Sound q (txPop s).2 := by
  unfold txPop
  with_reducible repeat' (first
    | assumption | (apply sound_congr hs <;> rfl) | apply sound_txSet | dsimp only | split)

theorem sound_rxPop {s : State} (hs : Sound q s) :
    Sound q (rxPop s).2 := by
  unfold rxPop
  with_reducible repeat' (first
    | assumption | intro _ | (apply sound_congr hs <;> rfl) | apply sound_hostError | apply sound_placeStaged
    | apply sound_mapHostif | dsimp only | split | (apply sound_congr (by assumption) <;> rfl))

theorem sound_txFlush {s : State} (hs : Sound q s) :
    Sound q (txFlush s) := by
  unfold txFlush
  with_reducible repeat' (first
    | assumption | intro _ | (apply sound_congr hs <;> rfl) | apply sound_txSet | apply sound_mapHostif | dsimp only
    | (apply sound_congr (by assumption) <;> rfl))

theorem sound_endReply {s : State} (hs : Sound q s) :
    Sound q (endReply s) := by
  unfold endReply
  with_reducible repeat' (first
    | assumption | intro _ | (apply sound_congr hs <;> rfl) | apply sound_mapHostif | apply sound_replied
    | dsimp only | split | (apply sound_congr (by assumption) <;> rfl))

theorem sound_rxFlush {s : State} (hs : Sound q s) :
    Sound q (rxFlush s) := by
  unfold rxFlush
  with_reducible repeat' (first
    | assumption | intro _ | (apply sound_congr hs <;> rfl) | apply sound_mapHostif | apply sound_placeStaged
    | apply sound_endReply | apply sound_ite | dsimp only | split | (apply sound_congr (by assumption) <;> rfl))

theorem sound_ringHost (v : Word) {s : State} (hs : Sound q s) :
    Sound q (ringHost v s) := by
  unfold ringHost
  with_reducible repeat' (first
    | assumption | apply sound_wb | apply sound_wf)

theorem sound_doorbellWrite (v : Word) {s : State} (hs : Sound q s) :
    Sound q (doorbellWrite v s) := by
  unfold doorbellWrite
  with_reducible repeat' (first
    | assumption | apply sound_txFlush | apply sound_rxFlush | apply sound_ringHost | apply sound_ite | dsimp only
    | split)

theorem sound_windowWrite (a : Nat) (v : Word) {s : State} (hs : Sound q s) :
    Sound q (windowWrite a v s) := by
  unfold windowWrite
  with_reducible repeat' (first
    | assumption | apply sound_txPush | apply sound_doorbellWrite | apply sound_setLock | apply sound_plainWrite
    | apply sound_ite | split)

theorem sound_windowRead (a : Nat) {s : State} (hs : Sound q s) :
    Sound q (windowRead a s).2 := by
  unfold windowRead
  with_reducible repeat' (first
    | assumption | (apply sound_congr hs <;> rfl) | apply sound_rxPop | apply sound_mtHold | apply sound_fifoPop
    | apply sound_ite | dsimp only | split)

theorem sound_takeWord (w : Word) {s : State} (hs : Sound q s) :
    Sound q (takeWord w s) := by
  unfold takeWord
  with_reducible repeat' (first
    | assumption | intro _ | (apply sound_congr hs <;> rfl) | apply sound_mapHostif | apply sound_wb
    | apply sound_ite | dsimp only | split | (apply sound_congr (by assumption) <;> rfl))

theorem sound_serviceRead {s : State} (hs : Sound q s) :
    Sound q (serviceRead s) := by
  unfold serviceRead
  with_reducible repeat' (first
    | assumption | (apply sound_congr hs <;> rfl) | apply sound_txPop | apply sound_takeWord | dsimp only | split)

theorem sound_serviceWrite {s : State} (hs : Sound q s) :
    Sound q (serviceWrite s) := by
  unfold serviceWrite
  with_reducible repeat' (first
    | assumption | intro _ | (apply sound_congr hs <;> rfl) | apply sound_placeStaged | apply sound_endReply
    | apply sound_rxPush | apply sound_mapHostif | dsimp only | split | (apply sound_congr (by assumption) <;> rfl))

theorem sound_dmaEnd {s : State} (hs : Sound q s) :
    Sound q (dmaEnd s) := by
  unfold dmaEnd
  with_reducible repeat' (first
    | assumption | apply sound_wb)

theorem sound_dmaCtrlWrite (v : Word) {s : State} (hs : Sound q s) :
    Sound q (dmaCtrlWrite v s) := by
  unfold dmaCtrlWrite
  with_reducible repeat' (first
    | assumption | apply sound_plainWrite | apply sound_dmaEnd | apply sound_wb | apply sound_ite | dsimp only
    | split)

theorem sound_hostCtrlWrite (v : Word) {s : State} (hs : Sound q s) :
    Sound q (hostCtrlWrite v s) := by
  unfold hostCtrlWrite
  with_reducible repeat' (first
    | assumption | apply sound_plainWrite | apply sound_hwIrq | apply sound_ite | dsimp only | split)

theorem sound_hostifWrite (q0 : Nat) (a : Nat) (v : Word) {s : State} (hs : Sound q s) :
    Sound q (hostifWrite q0 a v s) := by
  unfold hostifWrite
  with_reducible repeat' (first
    | assumption | apply sound_hostifCfgErr | apply sound_rxPush | apply sound_hostCtrlWrite | apply sound_hwIrq
    | apply sound_plainWrite | apply sound_dmaCtrlWrite | apply sound_ite | split)

theorem sound_hostWrite (c : BitVec 8) (v : BitVec 24) {s : State} (hs : Sound q s) :
    Sound q (hostWrite c v s) := by
  unfold hostWrite
  with_reducible repeat' (first
    | assumption | apply sound_windowWrite | apply sound_endFrame)

theorem sound_capture (a : Nat) {s : State} (hs : Sound q s) :
    Sound q (capture a s).2 := by
  unfold capture
  with_reducible repeat' (first
    | assumption | apply sound_fifoPop | apply sound_windowRead | apply sound_ite | dsimp only | split)

theorem sound_removeWord (a : Nat) (had : Bool) {s : State} (hs : Sound q s) :
    Sound q (removeWord a had s) := by
  unfold removeWord
  with_reducible repeat' (first
    | assumption | apply sound_rxPop | apply sound_hostError | apply sound_fifoPop | apply sound_ite | split)

theorem sound_hostRead (g : HostGroup) {s : State} (hs : Sound q s) :
    Sound q (hostRead g s) := by
  unfold hostRead
  with_reducible repeat' (first
    | assumption | intro _ | (apply sound_congr hs <;> rfl) | apply sound_capture | apply sound_hostShown
    | apply sound_removeWord | apply sound_mapHostif | apply sound_ite | dsimp only | split
    | (apply sound_congr (by assumption) <;> rfl))

theorem sound_execHostWrite (c : BitVec 8) (v : BitVec 24) {s : State} (hs : Sound q s) :
    SoundR q (execHostWrite c v s) := by
  unfold execHostWrite
  with_reducible repeat' (first
    | assumption | intro _ | apply sound_happens | apply sound_hostWrite)

theorem sound_execHostRead (g : HostGroup) {s : State} (hs : Sound q s) :
    SoundR q (execHostRead g s) := by
  unfold execHostRead
  with_reducible repeat' (first
    | assumption | intro _ | apply sound_happens | apply sound_hostRead)

theorem sound_execFrameAbort {s : State} (hs : Sound q s) :
    SoundR q (execFrameAbort s) := by
  unfold execFrameAbort
  with_reducible repeat' (first
    | assumption | intro _ | apply sound_happens | apply sound_hostError | apply sound_endFrame | dsimp only)

theorem sound_execTxDataWrite (v : Word) {s : State} (hs : Sound q s) :
    SoundR q (execTxDataWrite v s) := by
  unfold execTxDataWrite
  with_reducible repeat' (first
    | assumption | intro _ | apply sound_happens | apply sound_txPush | apply sound_endFrame | dsimp only)

theorem sound_execRxDataRead {s : State} (hs : Sound q s) :
    SoundR q (execRxDataRead s) := by
  unfold execRxDataRead
  with_reducible repeat' (first
    | assumption | intro _ | apply sound_happens | apply sound_hostRead | dsimp only)

theorem sound_execTxFlush {s : State} (hs : Sound q s) :
    SoundR q (execTxFlush s) := by
  unfold execTxFlush
  with_reducible repeat' (first
    | assumption | intro _ | apply sound_happens | apply sound_txFlush | apply sound_endFrame | dsimp only)

theorem sound_execRxFlush {s : State} (hs : Sound q s) :
    SoundR q (execRxFlush s) := by
  unfold execRxFlush
  with_reducible repeat' (first
    | assumption | intro _ | apply sound_happens | apply sound_rxFlush | apply sound_endFrame | dsimp only)

theorem sound_execRing (v : Word) {s : State} (hs : Sound q s) :
    SoundR q (execRing v s) := by
  unfold execRing
  with_reducible repeat' (first
    | assumption | intro _ | apply sound_happens | apply sound_ringHost | apply sound_endFrame | dsimp only)

theorem sound_execHostifTxRead (q0 : Req) {s : State} (hs : Sound q s) :
    SoundR q (execHostifTxRead q0 s) := by
  unfold execHostifTxRead
  with_reducible repeat' (first
    | assumption | intro _ | apply sound_happens | apply sound_serviceRead | apply sound_withAccess
    | apply sound_txPop | apply soundR_ite | apply sound_ite | apply soundR_next | dsimp only | split)

theorem sound_execHostifRxWrite (q0 : Req) {s : State} (hs : Sound q s) :
    SoundR q (execHostifRxWrite q0 s) := by
  unfold execHostifRxWrite
  with_reducible repeat' (first
    | assumption | intro _ | apply sound_happens | apply sound_serviceWrite | apply sound_withAccess
    | apply sound_hostifCfgErr | apply soundR_ite | apply sound_ite | apply soundR_next | split)

theorem sound_execDmsgWrite (q0 : Req) (v : Word) {s : State} (hs : Sound q s) :
    SoundR q (execDmsgWrite q0 v s) := by
  unfold execDmsgWrite
  with_reducible repeat' (first
    | assumption | intro _ | apply sound_withAccess | apply sound_hostifWrite | apply soundR_next)

theorem sound_execDmaStart (q0 : Req) (v : Word) {s : State} (hs : Sound q s) :
    SoundR q (execDmaStart q0 v s) := by
  unfold execDmaStart
  with_reducible repeat' (first
    | assumption | intro _ | apply sound_withAccess | apply sound_hostifWrite | apply soundR_next)

theorem sound_floorWrite (q0 : Nat) (v : Word) {s : State} (hs : Sound q s) :
    Sound q (floorWrite q0 v s) := by
  unfold floorWrite
  with_reducible repeat' (first
    | assumption | intro _ | (apply sound_congr hs <;> rfl) | apply sound_wr | apply sound_mapBoot | apply sound_ite
    | dsimp only | split | (apply sound_congr (by assumption) <;> rfl) | rfl)

theorem sound_coreWrite (q0 : Nat) (a : Nat) (v : Word) {s : State} (hs : Sound q s) :
    Sound q (coreWrite q0 a v s) := by
  unfold coreWrite
  with_reducible repeat' (first
    | assumption | apply sound_sysResetWrite | apply sound_plainWrite | apply sound_clkSwitchWrite
    | apply sound_entryWrite | apply sound_plWrite | apply sound_voteWrite | apply sound_padHoldWrite
    | apply sound_pwrWrite | apply sound_claimWrite | apply sound_padWrite | apply sound_ite | split)

theorem sound_fixWrite (q0 : Nat) (a : Nat) (v : Word) {s : State} (hs : Sound q s) :
    Sound q (fixWrite q0 a v s) := by
  unfold fixWrite
  with_reducible repeat' (first
    | assumption | apply sound_fixCtrlWrite | apply sound_fixUnpin | apply sound_fixIntWrite
    | apply sound_plainWrite | apply sound_keepBefore | apply sound_ite | split)

theorem sound_logWrite (a : Nat) (v : Word) {s : State} (hs : Sound q s) :
    Sound q (logWrite a v s) := by
  unfold logWrite
  with_reducible repeat' (first
    | assumption | apply sound_logCtrlWrite | apply sound_logSwrec | apply sound_traceCtrlWrite
    | apply sound_plainWrite | apply sound_wb | apply sound_ite | split)

theorem sound_regWrite (q0 : Nat) (a : Nat) (v : Word) {s : State} (hs : Sound q s) :
    Sound q (regWrite q0 a v s) := by
  unfold regWrite
  with_reducible repeat' (first
    | assumption | apply sound_coreWrite | apply sound_hostifWrite | apply sound_tlWrite | apply sound_keyWrite
    | apply sound_cupWrite | apply sound_sxtWrite | apply sound_protWrite | apply sound_chanWrite
    | apply sound_floorWrite | apply sound_fixWrite | apply sound_adcWrite | apply sound_posWrite
    | apply sound_cellRegWrite | apply sound_logWrite | apply sound_ite | split)

theorem sound_keepBin (a : Nat) {s : State} (hs : Sound q s) :
    Sound q (keepBin a s) := by
  unfold keepBin
  with_reducible repeat' (first
    | assumption | intro _ | (apply sound_congr hs <;> rfl) | apply sound_mapCyc | apply sound_ite | dsimp only
    | split | (apply sound_congr (by assumption) <;> rfl))

theorem sound_memPut (a : Nat) (v : Word) {s : State} (hs : Sound q s) :
    Sound q (memPut a v s) := by
  unfold memPut
  with_reducible repeat' (first
    | assumption | (apply sound_congr hs <;> rfl) | apply sound_at_ | apply sound_keepBin | apply sound_wrMem
    | apply sound_ite | split)

theorem sound_busPut (q0 : Nat) (a : Nat) (v : Word) {s : State} (hs : Sound q s) :
    Sound q (busPut q0 a v s) := by
  unfold busPut
  with_reducible repeat' (first
    | assumption | apply sound_memPut | apply sound_regWrite | apply sound_ite | split)

theorem sound_busWrite (q0 : Nat) (a : Nat) (v : Word) {s : State} (hs : Sound q s) :
    Sound q (busWrite q0 a v s) := by
  unfold busWrite
  with_reducible repeat' (first
    | assumption | intro _ | apply sound_submitAccess | apply sound_regWrite | apply sound_withAccess
    | apply sound_busPut | apply sound_ite | split)

theorem sound_parityChecked (key : Nat) (q0 : Nat) (a : Nat) {s : State} (hs : Sound q s) :
    Sound q (parityChecked key q0 a s) := by
  unfold parityChecked
  with_reducible repeat' (first
    | assumption | apply sound_recordParity | apply sound_ite | split)

theorem sound_parityReads (q0 : Nat) (a : Nat) (n : Nat) {s : State} (hs : Sound q s) :
    Sound q (parityReads q0 a n s) := by
  unfold parityReads
  with_reducible repeat' (first
    | assumption | intro _ | apply sound_recordParity | apply sound_foldl | dsimp only)

theorem sound_memGet (q0 : Nat) (a : Nat) {s : State} (hs : Sound q s) :
    Sound q (memGet q0 a s).2 := by
  unfold memGet
  with_reducible repeat' (first
    | assumption | apply sound_parityChecked | dsimp only)

theorem sound_mtGet (key : Nat) (k : Nat) {s : State} (hs : Sound q s) :
    Sound q (mtGet key k s).2 := by
  unfold mtGet
  with_reducible repeat' (first
    | assumption | apply sound_mtHold | apply sound_ite | dsimp only | split)

theorem sound_padGet (p : Nat) {s : State} (hs : Sound q s) :
    Sound q (padGet p s).2 := by
  unfold padGet
  with_reducible repeat' (first
    | assumption | apply sound_advance | dsimp only)

theorem sound_coreGet (r a : Nat) {s : State} (hs : Sound q s) : Sound q (coreGet r a s).2 := by
  unfold coreGet
  with_reducible repeat' (first
    | assumption | apply sound_advance | apply sound_padGet | apply sound_mtGet | apply sound_ite_snd)

theorem sound_ifaceGet (a : Nat) {s : State} (hs : Sound q s) : Sound q (ifaceGet a s).2 := by
  have := sound_txPop hs
  have := sound_fifoPop false hs
  have := sound_sxtDone false hs
  have := sound_sxtDone true hs
  unfold ifaceGet
  with_reducible repeat' (first | assumption | apply sound_ite_snd)

theorem sound_cellGet (q0 : Nat) (c : Nat) (o : Nat) {s : State} (hs : Sound q s) :
    Sound q (cellGet q0 c o s).2 := by
  unfold cellGet
  with_reducible repeat' (first
    | assumption | apply sound_mtGet | apply sound_bankCopy | apply sound_parityChecked | apply sound_ite
    | dsimp only | split)

theorem sound_regGet (r a : Nat) {s : State} (hs : Sound q s) : Sound q (regGet r a s).2 := by
  have := sound_coreGet r a hs
  have := sound_ifaceGet a hs
  have := sound_fixOpen r hs
  have := sound_fixWindowRead r a hs
  have := sound_cellGet r ((a - 0x78000) / 0x200) ((a - 0x78000) % 0x200) hs
  unfold regGet
  with_reducible repeat' (first | assumption | apply sound_ite_snd)

theorem sound_busGet (q0 : Nat) (a : Nat) {s : State} (hs : Sound q s) :
    Sound q (busGet q0 a s).2 := by
  unfold busGet
  with_reducible repeat' (first
    | assumption | apply sound_memGet | apply sound_regGet | apply sound_ite | dsimp only | split)

theorem sound_busRead (q0 : Nat) (a : Nat) {s : State} (hs : Sound q s) :
    Sound q (busRead q0 a s).2 := by
  unfold busRead
  with_reducible repeat' (first
    | assumption | (apply sound_congr hs <;> rfl) | apply sound_recordFault | apply sound_busGet | apply sound_ite
    | dsimp only | split)

theorem sound_busReadN (r a n : Nat) {s : State} (hs : Sound q s) : Sound q (busReadN r a n s).2 := by
  induction n generalizing a s with
  | zero => exact hs
  | succ n ih => exact ih _ (sound_busRead _ _ hs)

theorem sound_busWriteN (q0 : Nat) (a : Nat) (ws : List Word) {s : State} (hs : Sound q s) :
    Sound q (busWriteN q0 a ws s) := by
  unfold busWriteN
  with_reducible repeat' (first
    | assumption | intro _ | apply sound_busWrite | apply sound_foldl | dsimp only)

theorem sound_dmaAdvance (w : Word) {s : State} (hs : Sound q s) :
    Sound q (dmaAdvance w s) := by
  unfold dmaAdvance
  with_reducible repeat' (first
    | assumption | apply sound_hwf | apply sound_hw | apply sound_dmaEnd | apply sound_ite | dsimp only | split)

theorem sound_dmaMove {s : State} (hs : Sound q s) :
    Sound q (dmaMove s) := by
  unfold dmaMove
  with_reducible repeat' (first
    | assumption | (apply sound_congr hs <;> rfl) | apply sound_txPop | apply sound_dmaAdvance
    | apply sound_sxtSubmit | apply sound_dmaEnd | apply sound_recordFault | apply sound_busPut | apply sound_busGet
    | apply sound_rxPush | apply sound_ite | dsimp only | split)

theorem sound_grantStore (p : Nat) {s : State} (hs : Sound q s) :
    Sound q (grantStore p s) := by
  unfold grantStore
  with_reducible repeat' (first
    | assumption | intro _ | (apply sound_congr hs <;> rfl) | apply sound_modProc | apply sound_busWrite
    | apply sound_ite | dsimp only | split | (apply sound_congr (by assumption) <;> rfl))

theorem sound_turretServe (c : Nat) {s : State} (hs : Sound q s) :
    Sound q (turretServe c s) := by
  unfold turretServe
  with_reducible repeat' (first
    | assumption | intro _ | (apply sound_congr hs <;> rfl) | apply sound_mapBus | dsimp only
    | (apply sound_congr (by assumption) <;> rfl))

theorem sound_grantTo (x : Nat) (r : Nat) {s : State} (hs : Sound q s) :
    Sound q (grantTo x r s).2 := by
  unfold grantTo
  with_reducible repeat' (first
    | assumption | apply sound_grantStore | apply sound_ite | dsimp only | split)

theorem sound_grantAt (x : Nat) (k : Nat) {s : State} (hs : Sound q s) :
    Sound q (grantAt x k s).2 := by
  unfold grantAt
  with_reducible repeat' (first
    | assumption | (apply sound_congr hs <;> rfl) | apply sound_grantTo | apply sound_turretServe
    | apply sound_dmaMove | apply sound_ite | dsimp only | split)

theorem sound_rotate (x : Nat) {s : State} (hs : Sound q s) :
    Sound q (rotate x s).2 := by
  unfold rotate
  with_reducible repeat' (first
    | assumption | intro _ | (apply sound_congr hs <;> rfl) | apply sound_grantAt | apply sound_mapBus
    | apply sound_ite | dsimp only | split | (apply sound_congr (by assumption) <;> rfl))

theorem sound_arbiterGrant (x : Nat) {s : State} (hs : Sound q s) :
    Sound q (arbiterGrant x s).2 := by
  unfold arbiterGrant
  with_reducible repeat' (first
    | assumption | intro _ | (apply sound_congr hs <;> rfl) | apply sound_grantAt | apply sound_mapBus
    | apply sound_rotate | apply sound_ite | dsimp only | split | (apply sound_congr (by assumption) <;> rfl))

theorem sound_grantsUntil (x n : Nat) {s : State} (hs : Sound q s) : Sound q (grantsUntil x n s) := by
  induction n generalizing s with
  | zero => exact hs
  | succ n ih =>
    unfold grantsUntil
    dsimp only
    split
    · exact sound_arbiterGrant x hs
    · exact ih (sound_arbiterGrant x hs)

theorem sound_busTurn (x : Nat) {s : State} (hs : Sound q s) :
    Sound q (busTurn x s) := by
  unfold busTurn
  with_reducible repeat' (first
    | assumption | apply sound_grantsUntil)

theorem sound_fwRead (q0 : Nat) (a : Nat) {s : State} (hs : Sound q s) :
    Sound q (fwRead q0 a s).2 := by
  unfold fwRead
  with_reducible repeat' (first
    | assumption | apply sound_busRead | apply sound_busTurn | apply sound_ite | dsimp only | split)

theorem sound_fwWrite (q0 : Nat) (a : Nat) (v : Word) {s : State} (hs : Sound q s) :
    Sound q (fwWrite q0 a v s) := by
  unfold fwWrite
  with_reducible repeat' (first
    | assumption | apply sound_busWrite | apply sound_busTurn | apply sound_ite | split)

theorem sound_fwReadN (q0 a n : Nat) {s : State} (hs : Sound q s) : Sound q (fwReadN q0 a n s).2 := by
  induction n generalizing a s with
  | zero => exact hs
  | succ n ih => exact ih _ (sound_fwRead _ _ hs)

theorem sound_fwWriteN (q0 : Nat) (a : Nat) (ws : List Word) {s : State} (hs : Sound q s) :
    Sound q (fwWriteN q0 a ws s) := by
  unfold fwWriteN
  with_reducible repeat' (first
    | assumption | intro _ | apply sound_fwWrite | apply sound_foldl | dsimp only)

theorem sound_execBusGrant {s : State} (hs : Sound q s) :
    SoundR q (execBusGrant s) := by
  unfold execBusGrant
  with_reducible repeat' (first
    | assumption | intro _ | apply sound_happens | apply sound_arbiterGrant | dsimp only)

theorem sound_execRegisterWrite (q0 : Req) (a : Word) (v : Word) {s : State} (hs : Sound q s) :
    SoundR q (execRegisterWrite q0 a v s) := by
  unfold execRegisterWrite
  with_reducible repeat' (first
    | assumption | apply sound_busWrite | apply soundR_next)

theorem sound_tlRequest (cmd : Nat) (addr : Nat) (ws : List Word) {s : State} (hs : Sound q s) :
    Sound q (tlRequest cmd addr ws s) := by
  unfold tlRequest
  with_reducible repeat' (first
    | assumption | apply sound_busTurn | apply sound_tlCfgErr | apply sound_tlSend | apply sound_ite | dsimp only
    | split)

theorem sound_discFail {s : State} (hs : Sound q s) :
    Sound q (discFail s) := by
  unfold discFail
  with_reducible repeat' (first
    | assumption | intro _ | (apply sound_congr hs <;> rfl) | apply sound_fwWrite | apply sound_mapTl | dsimp only
    | split | (apply sound_congr (by assumption) <;> rfl))

theorem sound_claimAll (l made : List Word) {s : State} (hs : Sound q s) : Sound q (claimAll l made s).2.2 := by
  induction l generalizing made s with
  | nil => exact hs
  | cons v vs ih =>
    have h := sound_claimDo 1 (putFld v 18 2 1) (sound_busTurn 1 hs)
    by_cases hr : (claimDo 1 (putFld v 18 2 1) (busTurn 1 s)).1 = 0
    · have e : claimAll (v :: vs) made s = claimAll vs _ (claimDo 1 (putFld v 18 2 1) (busTurn 1 s)).2 := if_pos hr
      rw [e]
      exact ih _ h
    · have e : claimAll (v :: vs) made s = (false, made, (claimDo 1 (putFld v 18 2 1) (busTurn 1 s)).2) := if_neg hr
      rw [e]
      exact h

theorem sound_releaseAll (vs : List Word) {s : State} (hs : Sound q s) :
    Sound q (releaseAll vs s) := by
  unfold releaseAll
  with_reducible repeat' (first
    | assumption | intro _ | apply sound_claimDo | apply sound_busTurn | apply sound_foldl | dsimp only)

theorem sound_moduleRecord (kind : Nat) (n : Nat) (data : List Word) {s : State} (hs : Sound q s) :
    Sound q (moduleRecord kind n data s) := by
  unfold moduleRecord
  with_reducible repeat' (first
    | assumption | apply sound_logEvent)

theorem sound_nodiode (b : Bool) {s : State} (hs : Sound q s) :
    Sound q (nodiode b s) := by
  unfold nodiode
  with_reducible repeat' (first
    | assumption | apply sound_fwWrite)

theorem sound_bind (d : Disc) {s : State} (hs : Sound q s) :
    Sound q (bind d s) := by
  unfold bind
  with_reducible repeat' (first
    | assumption | intro _ | (apply sound_congr hs <;> rfl) | apply sound_claimAll | apply sound_fwWrite
    | apply sound_nodiode | apply sound_mapTl | apply sound_postHost | apply sound_moduleRecord
    | apply sound_discFail | apply sound_releaseAll | apply sound_ite | dsimp only | split
    | (apply sound_congr (by assumption) <;> rfl))

theorem sound_discSend (cmd : Nat) (ws : List Word) {s : State} (hs : Sound q s) :
    Sound q (discSend cmd ws s) := by
  unfold discSend
  with_reducible repeat' (first
    | assumption | apply sound_tlSend | apply sound_busTurn)

theorem sound_discRest (d : Disc) {s : State} (hs : Sound q s) :
    Sound q (discRest d s) := by
  unfold discRest
  with_reducible repeat' (first
    | assumption | intro _ | (apply sound_congr hs <;> rfl) | apply sound_discSend | apply sound_mapTl | dsimp only
    | (apply sound_congr (by assumption) <;> rfl))

theorem sound_discCheck (d : Disc) {s : State} (hs : Sound q s) :
    Sound q (discCheck d s) := by
  unfold discCheck
  with_reducible repeat' (first
    | assumption | intro _ | (apply sound_congr hs <;> rfl) | apply sound_discSend | apply sound_mapTl
    | apply sound_discFail | apply sound_ite | dsimp only | split | (apply sound_congr (by assumption) <;> rfl))

theorem sound_discWords (d : Disc) (want : Nat) (ws : List Word) {s : State} (hs : Sound q s) :
    Sound q (discWords d want ws s) := by
  unfold discWords
  with_reducible repeat' (first
    | assumption | intro _ | (apply sound_congr hs <;> rfl) | apply sound_mapTl | apply sound_discFail
    | apply sound_discRest | apply sound_discCheck | apply sound_ite | dsimp only | split
    | (apply sound_congr (by assumption) <;> rfl))

theorem sound_discAnswer (x : Xfer) (ws : List Word) {s : State} (hs : Sound q s) :
    Sound q (discAnswer x ws s) := by
  unfold discAnswer
  with_reducible repeat' (first
    | assumption | intro _ | (apply sound_congr hs <;> rfl) | apply sound_discWords | apply sound_discSend
    | apply sound_mapTl | apply sound_discFail | apply sound_bind | apply sound_ite | dsimp only | split
    | (apply sound_congr (by assumption) <;> rfl))

theorem sound_discLost {s : State} (hs : Sound q s) :
    Sound q (discLost s) := by
  unfold discLost
  with_reducible repeat' (first
    | assumption | (apply sound_congr hs <;> rfl) | apply sound_discFail | apply sound_ite | split)

theorem sound_tlEnd (result : Nat) (ws : List Word) {s : State} (hs : Sound q s) :
    Sound q (tlEnd result ws s) := by
  unfold tlEnd
  with_reducible repeat' (first
    | assumption | intro _ | (apply sound_congr hs <;> rfl) | apply sound_hw | apply sound_wb | apply sound_hwf
    | apply sound_wf | apply sound_mapTl | apply sound_foldl | dsimp only
    | (apply sound_congr (by assumption) <;> rfl))

theorem sound_tlFail (result : Nat) (x : Xfer) {s : State} (hs : Sound q s) :
    Sound q (tlFail result x s) := by
  unfold tlFail
  with_reducible repeat' (first
    | assumption | intro _ | (apply sound_congr hs <;> rfl) | apply sound_bump | apply sound_mapTl
    | apply sound_tlEnd | apply sound_discLost | apply sound_ite | dsimp only | split
    | (apply sound_congr (by assumption) <;> rfl))

theorem sound_tlAnswer (hdr : Word) (ws : List Word) (good : Bool) {s : State} (hs : Sound q s) :
    Sound q (tlAnswer hdr ws good s) := by
  unfold tlAnswer
  with_reducible repeat' (first
    | assumption | (apply sound_congr hs <;> rfl) | apply sound_tlFail | apply sound_tlEnd | apply sound_discAnswer
    | apply sound_ite | dsimp only | split)

theorem sound_discover (n : Nat) {s : State} (hs : Sound q s) :
    Sound q (discover n s) := by
  unfold discover
  with_reducible repeat' (first
    | assumption | intro _ | (apply sound_congr hs <;> rfl) | apply sound_fwWrite | apply sound_mapTl | dsimp only
    | (apply sound_congr (by assumption) <;> rfl))

theorem sound_descPoll {s : State} (hs : Sound q s) :
    Sound q (descPoll s) := by
  unfold descPoll
  with_reducible repeat' (first
    | assumption | intro _ | (apply sound_congr hs <;> rfl) | apply sound_discSend | apply sound_mapTl
    | apply sound_ite | dsimp only | split | (apply sound_congr (by assumption) <;> rfl))

theorem sound_slotRelease (n : Nat) {s : State} (hs : Sound q s) :
    Sound q (slotRelease n s) := by
  unfold slotRelease
  with_reducible repeat' (first
    | assumption | intro _ | (apply sound_congr hs <;> rfl) | apply sound_releaseAll | apply sound_fwWrite
    | apply sound_nodiode | apply sound_mapTl | apply sound_postHost | apply sound_moduleRecord | apply sound_ite
    | dsimp only | split | (apply sound_congr (by assumption) <;> rfl))

theorem sound_execReadDesc (addr : BitVec 6) (off : Word) (cnt : Word) {s : State} (hs : Sound q s) :
    SoundR q (execReadDesc addr off cnt s) := by
  unfold execReadDesc
  with_reducible repeat' (first
    | assumption | intro _ | apply sound_happens | apply sound_tlRequest | dsimp only)

theorem sound_execSetVersion (addr : BitVec 6) (v : Word) {s : State} (hs : Sound q s) :
    SoundR q (execSetVersion addr v s) := by
  unfold execSetVersion
  with_reducible repeat' (first
    | assumption | intro _ | apply sound_happens | apply sound_tlRequest)

theorem sound_execSetAddress (addr : BitVec 6) (n : Word) {s : State} (hs : Sound q s) :
    SoundR q (execSetAddress addr n s) := by
  unfold execSetAddress
  with_reducible repeat' (first
    | assumption | intro _ | apply sound_happens | apply sound_tlRequest)

theorem sound_execTlRead (addr : BitVec 6) (off : Word) (cnt : Word) {s : State} (hs : Sound q s) :
    SoundR q (execTlRead addr off cnt s) := by
  unfold execTlRead
  with_reducible repeat' (first
    | assumption | intro _ | apply sound_happens | apply sound_tlRequest | dsimp only)

theorem sound_execTlWrite (addr : BitVec 6) (off : Word) (ws : List Word) {s : State} (hs : Sound q s) :
    SoundR q (execTlWrite addr off ws s) := by
  unfold execTlWrite
  with_reducible repeat' (first
    | assumption | intro _ | apply sound_happens | apply sound_tlRequest)

theorem sound_execModuleStatus (addr : BitVec 6) {s : State} (hs : Sound q s) :
    SoundR q (execModuleStatus addr s) := by
  unfold execModuleStatus
  with_reducible repeat' (first
    | assumption | intro _ | apply sound_happens | apply sound_tlRequest)

theorem sound_execTlAnswer (hdr : Word) (ws : List Word) (good : Bool) {s : State} (hs : Sound q s) :
    SoundR q (execTlAnswer hdr ws good s) := by
  unfold execTlAnswer
  with_reducible repeat' (first
    | assumption | intro _ | apply sound_happens | apply sound_tlAnswer)

theorem sound_execTlTimeout {s : State} (hs : Sound q s) :
    SoundR q (execTlTimeout s) := by
  unfold execTlTimeout
  with_reducible repeat' (first
    | assumption | intro _ | (apply sound_congr hs <;> rfl) | apply sound_happens | apply sound_tlFail | dsimp only
    | split | (apply sound_congr (by assumption) <;> rfl))

theorem sound_execTlRetry {s : State} (hs : Sound q s) :
    SoundR q (execTlRetry s) := by
  unfold execTlRetry
  with_reducible repeat' (first
    | assumption | intro _ | (apply sound_congr hs <;> rfl) | apply sound_happens | apply sound_mapTl | dsimp only
    | (apply sound_congr (by assumption) <;> rfl))

theorem sound_execSlotDiscovery (n : Slot) {s : State} (hs : Sound q s) :
    SoundR q (execSlotDiscovery n s) := by
  unfold execSlotDiscovery
  with_reducible repeat' (first
    | assumption | intro _ | apply sound_happens | apply sound_discover)

theorem sound_execDescriptorPoll {s : State} (hs : Sound q s) :
    SoundR q (execDescriptorPoll s) := by
  unfold execDescriptorPoll
  with_reducible repeat' (first
    | assumption | intro _ | apply sound_happens | apply sound_descPoll)

theorem sound_execSlotRelease (n : Slot) {s : State} (hs : Sound q s) :
    SoundR q (execSlotRelease n s) := by
  unfold execSlotRelease
  with_reducible repeat' (first
    | assumption | intro _ | apply sound_happens | apply sound_slotRelease)

theorem sound_sxtRead (a n : Nat) {s : State} (hs : Sound q s) : Sound q (sxtRead a n s).2 := by
  induction n generalizing a s with
  | zero => exact hs
  | succ n ih =>
    unfold sxtRead
    dsimp only
    split
    · exact sound_recordFault _ _ _ hs
    · exact ih _ (sound_busGet _ _ (sound_busTurn _ hs))

theorem sound_sxtWords (a : Nat) (l : List Word) {s : State} (hs : Sound q s) : Sound q (sxtWords a l s).2 := by
  induction l generalizing a s with
  | nil => exact hs
  | cons w l ih =>
    unfold sxtWords
    dsimp only
    split
    · exact sound_recordFault _ _ _ hs
    · exact ih _ (sound_busPut _ _ _ (sound_busTurn _ hs))

theorem sound_sxtPut (l : List SxtOut) {s : State} (hs : Sound q s) : Sound q (sxtPut l s).2 := by
  induction l generalizing s with
  | nil => exact hs
  | cons x l ih =>
    unfold sxtPut
    dsimp only
    split
    · exact ih (sound_sxtWords _ _ hs)
    · exact sound_sxtWords _ _ hs

theorem sound_sxtComplete (o : SxtOp) (status : Nat) (flags : Nat) {s : State} (hs : Sound q s) :
    Sound q (sxtComplete o status flags s) := by
  unfold sxtComplete
  with_reducible repeat' (first
    | assumption | intro _ | (apply sound_congr hs <;> rfl) | apply sound_mapSxt | apply sound_ite | dsimp only
    | split | (apply sound_congr (by assumption) <;> rfl))

theorem sound_readOperands (d : Word) (a : Word) (b : Word) {s : State} (hs : Sound q s) :
    Sound q (readOperands d a b s).2 := by
  unfold readOperands
  with_reducible repeat' (first
    | assumption | intro _ | (apply sound_congr hs <;> rfl) | apply sound_sxtRead | apply sound_wb | apply sound_ite
    | dsimp only | split | (apply sound_congr (by assumption) <;> rfl))

theorem sound_saveRegs (r : Nat) {s : State} (hs : Sound q s) :
    Sound q (saveRegs r s) := by
  unfold saveRegs
  with_reducible repeat' (first
    | assumption | intro _ | apply sound_wrMemN | dsimp only)

theorem sound_saveContext (o : SxtOp) {s : State} (hs : Sound q s) :
    Sound q (saveContext o s) := by
  unfold saveContext
  with_reducible repeat' (first
    | assumption | apply sound_saveRegs | apply sound_wrMemN)

theorem sound_putToken (r : Nat) (n : Nat) (p : Nat) {s : State} (hs : Sound q s) :
    Sound q (putToken r n p s) := by
  unfold putToken
  with_reducible repeat' (first
    | assumption | apply sound_wrMem)

theorem sound_sxtBegin (k : Nat) (a : Word) {s : State} (hs : Sound q s) :
    Sound q (sxtBegin k a s) := by
  unfold sxtBegin
  with_reducible repeat' (first
    | assumption | intro _ | (apply sound_congr hs <;> rfl) | apply sound_sxtRead | apply sound_sxtComplete
    | apply sound_sxtCfgErr | apply sound_readOperands | apply sound_sxtPut | apply sound_putToken
    | apply sound_saveContext | apply sound_advance | apply sound_mapSxt | apply sound_ite | dsimp only | split
    | (apply sound_congr (by assumption) <;> rfl))

theorem sound_sxtPhases (o : SxtOp) (p : Nat) (l : List (List SxtOut)) {s : State} (hs : Sound q s) :
    Sound q (sxtPhases o p l s).2 := by
  induction l generalizing p s with
  | nil => exact hs
  | cons x xs ih =>
    cases xs with
    | nil => exact sound_sxtPut x hs
    | cons y ys =>
      unfold sxtPhases
      dsimp only
      split
      · exact ih _ (sound_putToken _ _ _ (sound_sxtPut x hs))
      · exact sound_sxtPut x hs

theorem sound_sxtFinish {s : State} (hs : Sound q s) :
    Sound q (sxtFinish s) := by
  unfold sxtFinish
  with_reducible repeat' (first
    | assumption | (apply sound_congr hs <;> rfl) | apply sound_sxtPhases | apply sound_sxtComplete
    | apply sound_ite | dsimp only | split)

theorem sound_sxtRow (op : Nat) {s : State} (hs : Sound q s) :
    SoundR q (sxtRow op s) := by
  unfold sxtRow
  with_reducible repeat' (first
    | assumption | intro _ | (apply sound_congr hs <;> rfl) | apply sound_happens | apply sound_sxtFinish
    | apply sound_sxtBegin | apply soundR_next | dsimp only | split | (apply sound_congr (by assumption) <;> rfl))

theorem sound_execSxtAdd {s : State} (hs : Sound q s) :
    SoundR q (execSxtAdd s) := by
  unfold execSxtAdd
  with_reducible repeat' (first
    | assumption | apply sound_sxtRow)

theorem sound_execSxtSub {s : State} (hs : Sound q s) :
    SoundR q (execSxtSub s) := by
  unfold execSxtSub
  with_reducible repeat' (first
    | assumption | apply sound_sxtRow)

theorem sound_execSxtMul {s : State} (hs : Sound q s) :
    SoundR q (execSxtMul s) := by
  unfold execSxtMul
  with_reducible repeat' (first
    | assumption | apply sound_sxtRow)

theorem sound_execSxtDiv {s : State} (hs : Sound q s) :
    SoundR q (execSxtDiv s) := by
  unfold execSxtDiv
  with_reducible repeat' (first
    | assumption | apply sound_sxtRow)

theorem sound_execSxtRem {s : State} (hs : Sound q s) :
    SoundR q (execSxtRem s) := by
  unfold execSxtRem
  with_reducible repeat' (first
    | assumption | apply sound_sxtRow)

theorem sound_execSxtSqrt {s : State} (hs : Sound q s) :
    SoundR q (execSxtSqrt s) := by
  unfold execSxtSqrt
  with_reducible repeat' (first
    | assumption | apply sound_sxtRow)

theorem sound_execSxtSqr {s : State} (hs : Sound q s) :
    SoundR q (execSxtSqr s) := by
  unfold execSxtSqr
  with_reducible repeat' (first
    | assumption | apply sound_sxtRow)

theorem sound_execSxtPow {s : State} (hs : Sound q s) :
    SoundR q (execSxtPow s) := by
  unfold execSxtPow
  with_reducible repeat' (first
    | assumption | apply sound_sxtRow)

theorem sound_execSxtExp {s : State} (hs : Sound q s) :
    SoundR q (execSxtExp s) := by
  unfold execSxtExp
  with_reducible repeat' (first
    | assumption | apply sound_sxtRow)

theorem sound_execSxtLn {s : State} (hs : Sound q s) :
    SoundR q (execSxtLn s) := by
  unfold execSxtLn
  with_reducible repeat' (first
    | assumption | apply sound_sxtRow)

theorem sound_execSxtExp10 {s : State} (hs : Sound q s) :
    SoundR q (execSxtExp10 s) := by
  unfold execSxtExp10
  with_reducible repeat' (first
    | assumption | apply sound_sxtRow)

theorem sound_execSxtLog10 {s : State} (hs : Sound q s) :
    SoundR q (execSxtLog10 s) := by
  unfold execSxtLog10
  with_reducible repeat' (first
    | assumption | apply sound_sxtRow)

theorem sound_execSxtSin {s : State} (hs : Sound q s) :
    SoundR q (execSxtSin s) := by
  unfold execSxtSin
  with_reducible repeat' (first
    | assumption | apply sound_sxtRow)

theorem sound_execSxtCos {s : State} (hs : Sound q s) :
    SoundR q (execSxtCos s) := by
  unfold execSxtCos
  with_reducible repeat' (first
    | assumption | apply sound_sxtRow)

theorem sound_execSxtTan {s : State} (hs : Sound q s) :
    SoundR q (execSxtTan s) := by
  unfold execSxtTan
  with_reducible repeat' (first
    | assumption | apply sound_sxtRow)

theorem sound_execSxtAsin {s : State} (hs : Sound q s) :
    SoundR q (execSxtAsin s) := by
  unfold execSxtAsin
  with_reducible repeat' (first
    | assumption | apply sound_sxtRow)

theorem sound_execSxtAcos {s : State} (hs : Sound q s) :
    SoundR q (execSxtAcos s) := by
  unfold execSxtAcos
  with_reducible repeat' (first
    | assumption | apply sound_sxtRow)

theorem sound_execSxtAtan {s : State} (hs : Sound q s) :
    SoundR q (execSxtAtan s) := by
  unfold execSxtAtan
  with_reducible repeat' (first
    | assumption | apply sound_sxtRow)

theorem sound_execSxtAtan2 {s : State} (hs : Sound q s) :
    SoundR q (execSxtAtan2 s) := by
  unfold execSxtAtan2
  with_reducible repeat' (first
    | assumption | apply sound_sxtRow)

theorem sound_execSxtSinh {s : State} (hs : Sound q s) :
    SoundR q (execSxtSinh s) := by
  unfold execSxtSinh
  with_reducible repeat' (first
    | assumption | apply sound_sxtRow)

theorem sound_execSxtCosh {s : State} (hs : Sound q s) :
    SoundR q (execSxtCosh s) := by
  unfold execSxtCosh
  with_reducible repeat' (first
    | assumption | apply sound_sxtRow)

theorem sound_execSxtTanh {s : State} (hs : Sound q s) :
    SoundR q (execSxtTanh s) := by
  unfold execSxtTanh
  with_reducible repeat' (first
    | assumption | apply sound_sxtRow)

theorem sound_execSxtAsinh {s : State} (hs : Sound q s) :
    SoundR q (execSxtAsinh s) := by
  unfold execSxtAsinh
  with_reducible repeat' (first
    | assumption | apply sound_sxtRow)

theorem sound_execSxtAcosh {s : State} (hs : Sound q s) :
    SoundR q (execSxtAcosh s) := by
  unfold execSxtAcosh
  with_reducible repeat' (first
    | assumption | apply sound_sxtRow)

theorem sound_execSxtAtanh {s : State} (hs : Sound q s) :
    SoundR q (execSxtAtanh s) := by
  unfold execSxtAtanh
  with_reducible repeat' (first
    | assumption | apply sound_sxtRow)

theorem sound_execSxtFact {s : State} (hs : Sound q s) :
    SoundR q (execSxtFact s) := by
  unfold execSxtFact
  with_reducible repeat' (first
    | assumption | apply sound_sxtRow)

theorem sound_execSxtNcr {s : State} (hs : Sound q s) :
    SoundR q (execSxtNcr s) := by
  unfold execSxtNcr
  with_reducible repeat' (first
    | assumption | apply sound_sxtRow)

theorem sound_execSxtNpr {s : State} (hs : Sound q s) :
    SoundR q (execSxtNpr s) := by
  unfold execSxtNpr
  with_reducible repeat' (first
    | assumption | apply sound_sxtRow)

theorem sound_execFromInt40 {s : State} (hs : Sound q s) :
    SoundR q (execFromInt40 s) := by
  unfold execFromInt40
  with_reducible repeat' (first
    | assumption | apply sound_sxtRow)

theorem sound_execToInt40 {s : State} (hs : Sound q s) :
    SoundR q (execToInt40 s) := by
  unfold execToInt40
  with_reducible repeat' (first
    | assumption | apply sound_sxtRow)

theorem sound_execIntegral {s : State} (hs : Sound q s) :
    SoundR q (execIntegral s) := by
  unfold execIntegral
  with_reducible repeat' (first
    | assumption | apply sound_sxtRow)

theorem sound_execToRad {s : State} (hs : Sound q s) :
    SoundR q (execToRad s) := by
  unfold execToRad
  with_reducible repeat' (first
    | assumption | apply sound_sxtRow)

theorem sound_execFromRad {s : State} (hs : Sound q s) :
    SoundR q (execFromRad s) := by
  unfold execFromRad
  with_reducible repeat' (first
    | assumption | apply sound_sxtRow)

theorem sound_execStatClr {s : State} (hs : Sound q s) :
    SoundR q (execStatClr s) := by
  unfold execStatClr
  with_reducible repeat' (first
    | assumption | apply sound_sxtRow)

theorem sound_execStatAdd {s : State} (hs : Sound q s) :
    SoundR q (execStatAdd s) := by
  unfold execStatAdd
  with_reducible repeat' (first
    | assumption | apply sound_sxtRow)

theorem sound_execStatDel {s : State} (hs : Sound q s) :
    SoundR q (execStatDel s) := by
  unfold execStatDel
  with_reducible repeat' (first
    | assumption | apply sound_sxtRow)

theorem sound_execStatMean {s : State} (hs : Sound q s) :
    SoundR q (execStatMean s) := by
  unfold execStatMean
  with_reducible repeat' (first
    | assumption | apply sound_sxtRow)

theorem sound_execStatSdev {s : State} (hs : Sound q s) :
    SoundR q (execStatSdev s) := by
  unfold execStatSdev
  with_reducible repeat' (first
    | assumption | apply sound_sxtRow)

theorem sound_execStatPsdev {s : State} (hs : Sound q s) :
    SoundR q (execStatPsdev s) := by
  unfold execStatPsdev
  with_reducible repeat' (first
    | assumption | apply sound_sxtRow)

theorem sound_execStatLinreg {s : State} (hs : Sound q s) :
    SoundR q (execStatLinreg s) := by
  unfold execStatLinreg
  with_reducible repeat' (first
    | assumption | apply sound_sxtRow)

theorem sound_execStatEstY {s : State} (hs : Sound q s) :
    SoundR q (execStatEstY s) := by
  unfold execStatEstY
  with_reducible repeat' (first
    | assumption | apply sound_sxtRow)

theorem sound_execStatEstX {s : State} (hs : Sound q s) :
    SoundR q (execStatEstX s) := by
  unfold execStatEstX
  with_reducible repeat' (first
    | assumption | apply sound_sxtRow)

theorem sound_execBadop {s : State} (hs : Sound q s) :
    SoundR q (execBadop s) := by
  unfold execBadop
  with_reducible repeat' (first
    | assumption | apply sound_sxtRow)

theorem sound_drawChars (t : List Nat) {s : State} (hs : Sound q s) :
    Sound q (drawChars t s) := by
  unfold drawChars
  with_reducible repeat' (first
    | assumption | intro _ | apply sound_forAll | apply sound_wr | apply sound_ite | dsimp only | split)

theorem sound_calcShow {s : State} (hs : Sound q s) :
    Sound q (calcShow s) := by
  unfold calcShow
  with_reducible repeat' (first
    | assumption | intro _ | (apply sound_congr hs <;> rfl) | apply sound_parityReads | apply sound_mapCup
    | apply sound_drawChars | apply sound_ite | dsimp only | split | (apply sound_congr (by assumption) <;> rfl))

theorem sound_calcDraw {s : State} (hs : Sound q s) :
    Sound q (calcDraw s) := by
  unfold calcDraw
  with_reducible repeat' (first
    | assumption | intro _ | (apply sound_congr hs <;> rfl) | apply sound_mapCalc | apply sound_calcShow
    | apply sound_ite | dsimp only | split | (apply sound_congr (by assumption) <;> rfl))

theorem sound_calcFault {s : State} (hs : Sound q s) :
    Sound q (calcFault s) := by
  unfold calcFault
  with_reducible repeat' (first
    | assumption | intro _ | (apply sound_congr hs <;> rfl) | apply sound_calcShow | apply sound_mapCalc
    | apply sound_ite | dsimp only | split | (apply sound_congr (by assumption) <;> rfl))

theorem sound_mchkBegin (store : Nat) (addr : Nat) {s : State} (hs : Sound q s) :
    Sound q (mchkBegin store addr s) := by
  unfold mchkBegin
  with_reducible repeat' (first
    | assumption | intro _ | (apply sound_congr hs <;> rfl) | apply sound_wr | apply sound_bump | apply sound_mapSxt
    | dsimp only | (apply sound_congr (by assumption) <;> rfl))

theorem sound_mchkPersist {s : State} (hs : Sound q s) :
    Sound q (mchkPersist s) := by
  unfold mchkPersist
  with_reducible repeat' (first
    | assumption | intro _ | (apply sound_congr hs <;> rfl) | apply sound_wb | apply sound_mapSxt
    | apply sound_sxtComplete | apply sound_raiseNmiAll | apply sound_calcFault | dsimp only | split
    | (apply sound_congr (by assumption) <;> rfl))

theorem sound_mchkReserved (addr : Nat) {s : State} (hs : Sound q s) :
    Sound q (mchkReserved addr s) := by
  unfold mchkReserved
  with_reducible repeat' (first
    | assumption | apply sound_mchkPersist | apply sound_mchkBegin)

theorem sound_microGo (u : Nat) {s : State} (hs : Sound q s) :
    Sound q (microGo u s) := by
  unfold microGo
  with_reducible repeat' (first
    | assumption | intro _ | (apply sound_congr hs <;> rfl) | apply sound_mapSxt | dsimp only
    | (apply sound_congr (by assumption) <;> rfl))

theorem sound_microNext {s : State} (hs : Sound q s) :
    Sound q (microNext s) := by
  unfold microNext
  with_reducible repeat' (first
    | assumption | apply sound_microGo)

theorem sound_microSit {s : State} (hs : Sound q s) :
    Sound q (microSit s) := by
  unfold microSit
  with_reducible repeat' (first
    | assumption | intro _ | (apply sound_congr hs <;> rfl) | apply sound_mapSxt | dsimp only
    | (apply sound_congr (by assumption) <;> rfl))

theorem sound_microRow (k : MicroKind) (x : MicroFetch) (eff : Word → State → State) {s : State} (hf1 : ∀ x0 x1, Sound q x1 → Sound q (eff x0 x1)) (hs : Sound q s) :
    SoundR q (microRow k x eff s) := by
  unfold microRow
  with_reducible repeat' (first
    | assumption | intro _ | (apply sound_congr hs <;> rfl) | apply hf1 | apply sound_happens | apply sound_microSit
    | apply sound_mchkReserved | apply sound_mchkBegin | apply soundR_ite | apply sound_ite | dsimp only | split
    | (apply sound_congr (by assumption) <;> rfl))

theorem sound_datapath (r : Nat) (w : BitVec 128) (x : Nat) (y : Nat) {s : State} (hs : Sound q s) :
    Sound q (datapath r w x y s) := by
  unfold datapath
  with_reducible repeat' (first
    | assumption | intro _ | (apply sound_congr hs <;> rfl) | apply sound_mchkBegin | apply sound_wrMem
    | apply sound_mapSxt | apply sound_ite | dsimp only | split | (apply sound_congr (by assumption) <;> rfl))

theorem sound_nanoRun (w : Word) (nano : BitVec 128) {s : State} (hs : Sound q s) :
    Sound q (nanoRun w nano s) := by
  unfold nanoRun
  with_reducible repeat' (first
    | assumption | intro _ | (apply sound_congr hs <;> rfl) | apply sound_mapSxt | apply sound_datapath
    | apply sound_microNext | apply sound_ite | dsimp only | split | (apply sound_congr (by assumption) <;> rfl))

theorem sound_microNano (nano : BitVec 128) (nanoOk : Bool) (w : Word) {s : State} (hs : Sound q s) :
    Sound q (microNano nano nanoOk w s) := by
  unfold microNano
  with_reducible repeat' (first
    | assumption | apply sound_mchkBegin | apply sound_nanoRun | apply sound_mchkReserved | apply sound_ite
    | dsimp only | split)

theorem sound_microCall (w : Word) {s : State} (hs : Sound q s) :
    Sound q (microCall w s) := by
  unfold microCall
  with_reducible repeat' (first
    | assumption | intro _ | (apply sound_congr hs <;> rfl) | apply sound_microGo | apply sound_mapSxt | dsimp only
    | (apply sound_congr (by assumption) <;> rfl))

theorem sound_microReturn {s : State} (hs : Sound q s) :
    Sound q (microReturn s) := by
  unfold microReturn
  with_reducible repeat' (first
    | assumption | intro _ | (apply sound_congr hs <;> rfl) | apply sound_microGo | apply sound_mapSxt
    | apply sound_advance | dsimp only | split | (apply sound_congr (by assumption) <;> rfl))

theorem sound_loopDown (code : Nat) {s : State} (hs : Sound q s) :
    Sound q (loopDown code s) := by
  unfold loopDown
  with_reducible repeat' (first
    | assumption | intro _ | (apply sound_congr hs <;> rfl) | apply sound_mapSxt | apply sound_ite | dsimp only
    | split | (apply sound_congr (by assumption) <;> rfl))

theorem sound_microBranch (w : Word) {s : State} (hs : Sound q s) :
    Sound q (microBranch w s) := by
  unfold microBranch
  with_reducible repeat' (first
    | assumption | apply sound_loopDown | apply sound_microGo | apply sound_microNext | apply sound_ite | dsimp only
    | split)

theorem sound_microLit (w : Word) {s : State} (hs : Sound q s) :
    Sound q (microLit w s) := by
  unfold microLit
  with_reducible repeat' (first
    | assumption | intro _ | (apply sound_congr hs <;> rfl) | apply sound_microNext | apply sound_mapSxt
    | dsimp only | (apply sound_congr (by assumption) <;> rfl))

theorem sound_commitPhase (phase : Nat) (o : SxtOp) {s : State} (hs : Sound q s) :
    Sound q (commitPhase phase o s).2.2 := by
  unfold commitPhase
  with_reducible repeat' (first
    | assumption | (apply sound_congr hs <;> rfl) | apply sound_sxtPut | dsimp only)

theorem sound_microSafe (w : Word) {s : State} (hs : Sound q s) :
    Sound q (microSafe w s) := by
  unfold microSafe
  with_reducible repeat' (first
    | assumption | intro _ | (apply sound_congr hs <;> rfl) | apply sound_commitPhase | apply sound_saveContext
    | apply sound_saveRegs | apply sound_sxtComplete | apply sound_wrMem | apply sound_microGo | apply sound_mapSxt
    | apply sound_bump | apply sound_ite | dsimp only | split | (apply sound_congr (by assumption) <;> rfl))

theorem sound_microEnd (w : Word) {s : State} (hs : Sound q s) :
    Sound q (microEnd w s) := by
  unfold microEnd
  with_reducible repeat' (first
    | assumption | (apply sound_congr hs <;> rfl) | apply sound_sxtPut | apply sound_sxtComplete | apply sound_ite
    | dsimp only | split)

theorem sound_dispatchTo (entry : BitVec 13) (ok : Bool) {s : State} (hs : Sound q s) :
    Sound q (dispatchTo entry ok s) := by
  unfold dispatchTo
  with_reducible repeat' (first
    | assumption | intro _ | (apply sound_congr hs <;> rfl) | apply sound_microGo | apply sound_mapSxt
    | apply sound_mchkBegin | apply sound_ite | dsimp only | split | (apply sound_congr (by assumption) <;> rfl))

theorem sound_execMicroNano (x : MicroFetch) (nano : BitVec 128) (nanoOk : Bool) {s : State} (hs : Sound q s) :
    SoundR q (execMicroNano x nano nanoOk s) := by
  unfold execMicroNano
  with_reducible repeat' (first
    | assumption | intro _ | apply sound_microRow | apply sound_microNano)

theorem sound_execMicroJump (x : MicroFetch) {s : State} (hs : Sound q s) :
    SoundR q (execMicroJump x s) := by
  unfold execMicroJump
  with_reducible repeat' (first
    | assumption | intro _ | apply sound_microRow | apply sound_microGo | dsimp only)

theorem sound_execMicroCall (x : MicroFetch) {s : State} (hs : Sound q s) :
    SoundR q (execMicroCall x s) := by
  unfold execMicroCall
  with_reducible repeat' (first
    | assumption | intro _ | apply sound_microRow | apply sound_microCall)

theorem sound_execMicroReturn (x : MicroFetch) {s : State} (hs : Sound q s) :
    SoundR q (execMicroReturn x s) := by
  unfold execMicroReturn
  with_reducible repeat' (first
    | assumption | intro _ | apply sound_microRow | apply sound_microReturn | dsimp only)

theorem sound_execMicroDispatch (x : MicroFetch) (entry : BitVec 13) (entryOk : Bool) {s : State} (hs : Sound q s) :
    SoundR q (execMicroDispatch x entry entryOk s) := by
  unfold execMicroDispatch
  with_reducible repeat' (first
    | assumption | intro _ | (apply sound_congr hs <;> rfl) | apply sound_dispatchTo | apply sound_sxtBegin
    | apply sound_microRow | apply soundR_ite | apply sound_ite | apply soundR_next | dsimp only | split
    | (apply sound_congr (by assumption) <;> rfl))

theorem sound_execMicroBranch (x : MicroFetch) {s : State} (hs : Sound q s) :
    SoundR q (execMicroBranch x s) := by
  unfold execMicroBranch
  with_reducible repeat' (first
    | assumption | intro _ | apply sound_microRow | apply sound_microBranch)

theorem sound_execMicroLit (x : MicroFetch) {s : State} (hs : Sound q s) :
    SoundR q (execMicroLit x s) := by
  unfold execMicroLit
  with_reducible repeat' (first
    | assumption | intro _ | apply sound_microRow | apply sound_microLit)

theorem sound_execMicroSafe (x : MicroFetch) {s : State} (hs : Sound q s) :
    SoundR q (execMicroSafe x s) := by
  unfold execMicroSafe
  with_reducible repeat' (first
    | assumption | intro _ | apply sound_microRow | apply sound_microSafe)

theorem sound_execMicroEnd (x : MicroFetch) {s : State} (hs : Sound q s) :
    SoundR q (execMicroEnd x s) := by
  unfold execMicroEnd
  with_reducible repeat' (first
    | assumption | intro _ | apply sound_microRow | apply sound_microEnd)

theorem sound_horizontalNext (a : Nat) (w : Nat) {s : State} (hs : Sound q s) :
    Sound q (horizontalNext a w s) := by
  unfold horizontalNext
  with_reducible repeat' (first
    | assumption | intro _ | (apply sound_congr hs <;> rfl) | apply sound_mapSxt | apply sound_advance
    | apply sound_ite | dsimp only | split | (apply sound_congr (by assumption) <;> rfl))

theorem sound_storeRead (w : BitVec 128) {s : State} (hs : Sound q s) :
    Sound q (storeRead w s) := by
  unfold storeRead
  with_reducible repeat' (first
    | assumption | intro _ | (apply sound_congr hs <;> rfl) | apply sound_mchkBegin | apply sound_mapSxt
    | dsimp only | split | (apply sound_congr (by assumption) <;> rfl))

theorem sound_horizontalRun (a : Nat) (w : BitVec 128) (ok : Bool) {s : State} (hs : Sound q s) :
    Sound q (horizontalRun a w ok s) := by
  unfold horizontalRun
  with_reducible repeat' (first
    | assumption | intro _ | apply sound_mchkBegin | apply sound_storeRead | apply sound_datapath
    | apply sound_horizontalNext | apply sound_loopDown | apply sound_ite | dsimp only | split)

theorem sound_execHorizontalWord (a : BitVec 8) (w : BitVec 128) (ok : Bool) {s : State} (hs : Sound q s) :
    SoundR q (execHorizontalWord a w ok s) := by
  unfold execHorizontalWord
  with_reducible repeat' (first
    | assumption | intro _ | (apply sound_congr hs <;> rfl) | apply sound_happens | apply sound_horizontalRun
    | dsimp only | split | (apply sound_congr (by assumption) <;> rfl))

theorem sound_contextLoad (o : SxtOp) (u : Nat) {s : State} (hs : Sound q s) :
    Sound q (contextLoad o u s) := by
  unfold contextLoad
  with_reducible repeat' (first
    | assumption | intro _ | (apply sound_congr hs <;> rfl) | apply sound_mchkBegin | apply sound_microGo
    | apply sound_mapSxt | apply sound_foldl | dsimp only | split | (apply sound_congr (by assumption) <;> rfl))

theorem sound_bulkResume (o : SxtOp) (bad : Option (BitVec 8)) {s : State} (hs : Sound q s) :
    Sound q (bulkResume o bad s) := by
  unfold bulkResume
  with_reducible repeat' (first
    | assumption | intro _ | (apply sound_congr hs <;> rfl) | apply sound_mapSxt | apply sound_sxtComplete
    | apply sound_mchkBegin | apply sound_contextLoad | apply sound_ite | dsimp only | split
    | (apply sound_congr (by assumption) <;> rfl))

theorem sound_execBulkResume (bad : Option (BitVec 8)) {s : State} (hs : Sound q s) :
    SoundR q (execBulkResume bad s) := by
  unfold execBulkResume
  with_reducible repeat' (first
    | assumption | intro _ | (apply sound_congr hs <;> rfl) | apply sound_happens | apply sound_bulkResume
    | apply soundR_next | split | (apply sound_congr (by assumption) <;> rfl))

theorem sound_mchkRecover {s : State} (hs : Sound q s) :
    Sound q (mchkRecover s) := by
  unfold mchkRecover
  with_reducible repeat' (first
    | assumption | intro _ | (apply sound_congr hs <;> rfl) | apply sound_bump | apply sound_mapSxt
    | apply sound_contextLoad | apply sound_ite | dsimp only | split | (apply sound_congr (by assumption) <;> rfl))

theorem sound_execMchkReread (ok : Bool) {s : State} (hs : Sound q s) :
    SoundR q (execMchkReread ok s) := by
  unfold execMchkReread
  with_reducible repeat' (first
    | assumption | intro _ | (apply sound_congr hs <;> rfl) | apply sound_happens | apply sound_mchkRecover
    | apply sound_mchkPersist | apply soundR_ite | apply sound_ite | apply soundR_next | dsimp only | split
    | (apply sound_congr (by assumption) <;> rfl))

theorem sound_execSxtSelftest (pass : Bool) (stage : BitVec 2) {s : State} (hs : Sound q s) :
    SoundR q (execSxtSelftest pass stage s) := by
  unfold execSxtSelftest
  with_reducible repeat' (first
    | assumption | intro _ | (apply sound_congr hs <;> rfl) | apply sound_happens | apply sound_wr | apply sound_wb
    | apply sound_mapSxt | apply soundR_ite | apply sound_ite | dsimp only | split
    | (apply sound_congr (by assumption) <;> rfl))

theorem sound_withNum (a : Nat) (f : Dec → State → State) {s : State} (hf1 : ∀ x0 x1, Sound q x1 → Sound q (f x0 x1)) (hs : Sound q s) :
    Sound q (withNum a f s) := by
  unfold withNum
  with_reducible repeat' (first
    | assumption | intro _ | apply hf1 | apply sound_parityReads)

theorem sound_putNum (a : Nat) (d : Dec) {s : State} (hs : Sound q s) :
    Sound q (putNum a d s) := by
  unfold putNum
  with_reducible repeat' (first
    | assumption | apply sound_wrMemN)

theorem sound_pushHistory (d : Dec) {s : State} (hs : Sound q s) :
    Sound q (pushHistory d s) := by
  unfold pushHistory
  with_reducible repeat' (first
    | assumption | apply sound_parityReads | apply sound_wrMemN | dsimp only)

theorem sound_onCalc (f : Calc → Calc) {s : State} (hs : Sound q s) :
    Sound q (onCalc f s) := by
  unfold onCalc
  with_reducible repeat' (first
    | assumption | intro _ | apply sound_mapCalc)

theorem sound_finishEval (items : List CalcItem) (x : Dec) (did : Bool) {s : State} (hs : Sound q s) :
    Sound q (finishEval items x did s) := by
  unfold finishEval
  with_reducible repeat' (first
    | assumption | intro _ | (apply sound_congr hs <;> rfl) | apply sound_onCalc | apply sound_pushHistory
    | apply sound_ite | dsimp only | split | (apply sound_congr (by assumption) <;> rfl))

theorem sound_closeKey (pick : Bool) {s : State} (hs : Sound q s) :
    Sound q (closeKey pick s) := by
  unfold closeKey
  with_reducible repeat' (first
    | assumption | apply sound_finishEval | apply sound_ite | dsimp only | split)

theorem sound_equalsKey (pick : Bool) {s : State} (hs : Sound q s) :
    Sound q (equalsKey pick s) := by
  unfold equalsKey
  with_reducible repeat' (first
    | assumption | apply sound_finishEval | dsimp only)

theorem sound_memoryKey (fn : Nat) (n : Nat) {s : State} (hs : Sound q s) :
    Sound q (memoryKey fn n s) := by
  unfold memoryKey
  with_reducible repeat' (first
    | assumption | intro _ | apply sound_onCalc | apply sound_putNum | apply sound_withNum | apply sound_ite
    | dsimp only | split)

theorem sound_digitKey (n : Nat) {s : State} (hs : Sound q s) :
    Sound q (digitKey n s) := by
  unfold digitKey
  with_reducible repeat' (first
    | assumption | intro _ | (apply sound_congr hs <;> rfl) | apply sound_memoryKey | apply sound_onCalc
    | apply sound_ite | dsimp only | split | (apply sound_congr (by assumption) <;> rfl))

theorem sound_sigmaKey (del : Bool) {s : State} (hs : Sound q s) :
    Sound q (sigmaKey del s) := by
  unfold sigmaKey
  with_reducible repeat' (first
    | assumption | intro _ | (apply sound_congr hs <;> rfl) | apply sound_putNum | apply sound_parityReads
    | apply sound_onCalc | apply sound_foldl | dsimp only | split | (apply sound_congr (by assumption) <;> rfl))

theorem sound_statKey (code : Nat) (pick : Bool) {s : State} (hs : Sound q s) :
    Sound q (statKey code pick s) := by
  unfold statKey
  with_reducible repeat' (first
    | assumption | intro _ | (apply sound_congr hs <;> rfl) | apply sound_onCalc | apply sound_parityReads
    | apply sound_ite | dsimp only | split | (apply sound_congr (by assumption) <;> rfl))

theorem sound_historyKey (back : Bool) {s : State} (hs : Sound q s) :
    Sound q (historyKey back s) := by
  unfold historyKey
  with_reducible repeat' (first
    | assumption | intro _ | (apply sound_congr hs <;> rfl) | apply sound_withNum | apply sound_onCalc | dsimp only
    | split | (apply sound_congr (by assumption) <;> rfl))

theorem sound_calcKey (code : Nat) (rest : List Nat) (eff : Bool → State → State) {s : State} (hf1 : ∀ x0 x1, Sound q x1 → Sound q (eff x0 x1)) (hs : Sound q s) :
    Sound q (calcKey code rest eff s) := by
  unfold calcKey
  with_reducible repeat' (first
    | assumption | intro _ | (apply sound_congr hs <;> rfl) | apply hf1 | apply sound_parityReads
    | apply sound_advance | apply sound_mapKey | apply sound_onCalc | apply sound_calcTrim | apply sound_calcShow
    | apply sound_ite | apply sound_foldl | dsimp only | split | (apply sound_congr (by assumption) <;> rfl))

theorem sound_calcDispatch (code : Nat) {s : State} (hs : Sound q s) :
    Sound q (calcDispatch code s) := by
  unfold calcDispatch
  with_reducible repeat' (first
    | assumption | intro _ | (apply sound_congr hs <;> rfl) | apply sound_mapSxt | apply sound_putToken
    | apply sound_saveRegs | apply sound_wrMemN | dsimp only | (apply sound_congr (by assumption) <;> rfl))

theorem sound_calcRow (code : Nat) (eff : Bool → State → State) {s : State} (hf1 : ∀ x0 x1, Sound q x1 → Sound q (eff x0 x1)) (hs : Sound q s) :
    SoundR q (calcRow code eff s) := by
  unfold calcRow
  with_reducible repeat' (first
    | assumption | intro _ | (apply sound_congr hs <;> rfl) | apply hf1 | apply sound_happens | apply sound_calcKey
    | apply sound_calcDispatch | apply soundR_next | dsimp only | split
    | (apply sound_congr (by assumption) <;> rfl))

theorem sound_execCalcDigit (n : Fin 10) {s : State} (hs : Sound q s) :
    SoundR q (execCalcDigit n s) := by
  unfold execCalcDigit
  with_reducible repeat' (first
    | assumption | intro _ | apply sound_calcRow | apply sound_digitKey | dsimp only)

theorem sound_execCalcDecimalPoint {s : State} (hs : Sound q s) :
    SoundR q (execCalcDecimalPoint s) := by
  unfold execCalcDecimalPoint
  with_reducible repeat' (first
    | assumption | intro _ | (apply sound_congr hs <;> rfl) | apply sound_calcRow | apply sound_onCalc
    | apply soundR_ite | apply sound_ite | dsimp only | split | (apply sound_congr (by assumption) <;> rfl))

theorem sound_execCalcExp {s : State} (hs : Sound q s) :
    SoundR q (execCalcExp s) := by
  unfold execCalcExp
  with_reducible repeat' (first
    | assumption | intro _ | (apply sound_congr hs <;> rfl) | apply sound_calcRow | apply sound_onCalc | dsimp only
    | (apply sound_congr (by assumption) <;> rfl))

theorem sound_execCalcSign {s : State} (hs : Sound q s) :
    SoundR q (execCalcSign s) := by
  unfold execCalcSign
  with_reducible repeat' (first
    | assumption | intro _ | apply sound_calcRow | apply sound_onCalc | dsimp only)

theorem sound_execCalcDel {s : State} (hs : Sound q s) :
    SoundR q (execCalcDel s) := by
  unfold execCalcDel
  with_reducible repeat' (first
    | assumption | intro _ | (apply sound_congr hs <;> rfl) | apply sound_calcRow | apply sound_onCalc | dsimp only
    | (apply sound_congr (by assumption) <;> rfl))

theorem sound_execCalcC {s : State} (hs : Sound q s) :
    SoundR q (execCalcC s) := by
  unfold execCalcC
  with_reducible repeat' (first
    | assumption | intro _ | apply sound_calcRow | apply sound_onCalc | dsimp only)

theorem sound_execCalcAc {s : State} (hs : Sound q s) :
    SoundR q (execCalcAc s) := by
  unfold execCalcAc
  with_reducible repeat' (first
    | assumption | intro _ | apply sound_calcRow | apply sound_onCalc | dsimp only)

theorem sound_execCalcPlus {s : State} (hs : Sound q s) :
    SoundR q (execCalcPlus s) := by
  unfold execCalcPlus
  with_reducible repeat' (first
    | assumption | intro _ | apply sound_calcRow | apply sound_onCalc | dsimp only)

theorem sound_execCalcMinus {s : State} (hs : Sound q s) :
    SoundR q (execCalcMinus s) := by
  unfold execCalcMinus
  with_reducible repeat' (first
    | assumption | intro _ | apply sound_calcRow | apply sound_onCalc | dsimp only)

theorem sound_execCalcTimes {s : State} (hs : Sound q s) :
    SoundR q (execCalcTimes s) := by
  unfold execCalcTimes
  with_reducible repeat' (first
    | assumption | intro _ | apply sound_calcRow | apply sound_onCalc | dsimp only)

theorem sound_execCalcDivide {s : State} (hs : Sound q s) :
    SoundR q (execCalcDivide s) := by
  unfold execCalcDivide
  with_reducible repeat' (first
    | assumption | intro _ | apply sound_calcRow | apply sound_onCalc | dsimp only)

theorem sound_execCalcYPowX {s : State} (hs : Sound q s) :
    SoundR q (execCalcYPowX s) := by
  unfold execCalcYPowX
  with_reducible repeat' (first
    | assumption | intro _ | apply sound_calcRow | apply sound_onCalc | dsimp only)

theorem sound_execCalcNcr {s : State} (hs : Sound q s) :
    SoundR q (execCalcNcr s) := by
  unfold execCalcNcr
  with_reducible repeat' (first
    | assumption | intro _ | apply sound_calcRow | apply sound_onCalc | dsimp only)

theorem sound_execCalcNpr {s : State} (hs : Sound q s) :
    SoundR q (execCalcNpr s) := by
  unfold execCalcNpr
  with_reducible repeat' (first
    | assumption | intro _ | apply sound_calcRow | apply sound_onCalc | dsimp only)

theorem sound_execCalcOpenParen {s : State} (hs : Sound q s) :
    SoundR q (execCalcOpenParen s) := by
  unfold execCalcOpenParen
  with_reducible repeat' (first
    | assumption | intro _ | apply sound_calcRow | apply sound_onCalc | dsimp only)

theorem sound_execCalcCloseParen {s : State} (hs : Sound q s) :
    SoundR q (execCalcCloseParen s) := by
  unfold execCalcCloseParen
  with_reducible repeat' (first
    | assumption | intro _ | apply sound_calcRow | apply sound_closeKey)

theorem sound_execCalcEquals {s : State} (hs : Sound q s) :
    SoundR q (execCalcEquals s) := by
  unfold execCalcEquals
  with_reducible repeat' (first
    | assumption | intro _ | apply sound_calcRow | apply sound_equalsKey)

theorem sound_execCalcAns {s : State} (hs : Sound q s) :
    SoundR q (execCalcAns s) := by
  unfold execCalcAns
  with_reducible repeat' (first
    | assumption | intro _ | apply sound_calcRow | apply sound_withNum | apply sound_onCalc | dsimp only)

theorem sound_execCalcSto {s : State} (hs : Sound q s) :
    SoundR q (execCalcSto s) := by
  unfold execCalcSto
  with_reducible repeat' (first
    | assumption | intro _ | (apply sound_congr hs <;> rfl) | apply sound_calcRow | apply sound_onCalc | dsimp only
    | (apply sound_congr (by assumption) <;> rfl))

theorem sound_execCalcRcl {s : State} (hs : Sound q s) :
    SoundR q (execCalcRcl s) := by
  unfold execCalcRcl
  with_reducible repeat' (first
    | assumption | intro _ | (apply sound_congr hs <;> rfl) | apply sound_calcRow | apply sound_onCalc | dsimp only
    | (apply sound_congr (by assumption) <;> rfl))

theorem sound_execCalcMPlus {s : State} (hs : Sound q s) :
    SoundR q (execCalcMPlus s) := by
  unfold execCalcMPlus
  with_reducible repeat' (first
    | assumption | intro _ | (apply sound_congr hs <;> rfl) | apply sound_calcRow | apply sound_onCalc | dsimp only
    | (apply sound_congr (by assumption) <;> rfl))

theorem sound_execCalc2nd {s : State} (hs : Sound q s) :
    SoundR q (execCalc2nd s) := by
  unfold execCalc2nd
  with_reducible repeat' (first
    | assumption | intro _ | (apply sound_congr hs <;> rfl) | apply sound_calcRow | apply sound_onCalc | dsimp only
    | (apply sound_congr (by assumption) <;> rfl))

theorem sound_execCalcUnary (op : BitVec 8) {s : State} (hs : Sound q s) :
    SoundR q (execCalcUnary op s) := by
  unfold execCalcUnary
  with_reducible repeat' (first
    | assumption | intro _ | apply sound_calcRow | apply sound_onCalc | apply soundR_ite | apply sound_ite
    | apply soundR_next | dsimp only | split)

theorem sound_execCalcSigmaPlus {s : State} (hs : Sound q s) :
    SoundR q (execCalcSigmaPlus s) := by
  unfold execCalcSigmaPlus
  with_reducible repeat' (first
    | assumption | intro _ | apply sound_calcRow | apply sound_sigmaKey | dsimp only)

theorem sound_execCalcSigmaMinus {s : State} (hs : Sound q s) :
    SoundR q (execCalcSigmaMinus s) := by
  unfold execCalcSigmaMinus
  with_reducible repeat' (first
    | assumption | intro _ | apply sound_calcRow | apply sound_sigmaKey | dsimp only)

theorem sound_execCalcXySeparator {s : State} (hs : Sound q s) :
    SoundR q (execCalcXySeparator s) := by
  unfold execCalcXySeparator
  with_reducible repeat' (first
    | assumption | intro _ | (apply sound_congr hs <;> rfl) | apply sound_calcRow | apply sound_onCalc | dsimp only
    | (apply sound_congr (by assumption) <;> rfl))

theorem sound_execCalcMean {s : State} (hs : Sound q s) :
    SoundR q (execCalcMean s) := by
  unfold execCalcMean
  with_reducible repeat' (first
    | assumption | intro _ | apply sound_calcRow | apply sound_statKey)

theorem sound_execCalcSdev {s : State} (hs : Sound q s) :
    SoundR q (execCalcSdev s) := by
  unfold execCalcSdev
  with_reducible repeat' (first
    | assumption | intro _ | apply sound_calcRow | apply sound_statKey)

theorem sound_execCalcPsdev {s : State} (hs : Sound q s) :
    SoundR q (execCalcPsdev s) := by
  unfold execCalcPsdev
  with_reducible repeat' (first
    | assumption | intro _ | apply sound_calcRow | apply sound_statKey)

theorem sound_execCalcRegression {s : State} (hs : Sound q s) :
    SoundR q (execCalcRegression s) := by
  unfold execCalcRegression
  with_reducible repeat' (first
    | assumption | intro _ | apply sound_calcRow | apply sound_statKey)

theorem sound_execCalcYHat {s : State} (hs : Sound q s) :
    SoundR q (execCalcYHat s) := by
  unfold execCalcYHat
  with_reducible repeat' (first
    | assumption | intro _ | apply sound_calcRow | apply sound_statKey)

theorem sound_execCalcXHat {s : State} (hs : Sound q s) :
    SoundR q (execCalcXHat s) := by
  unfold execCalcXHat
  with_reducible repeat' (first
    | assumption | intro _ | apply sound_calcRow | apply sound_statKey)

theorem sound_execCalcClearStats {s : State} (hs : Sound q s) :
    SoundR q (execCalcClearStats s) := by
  unfold execCalcClearStats
  with_reducible repeat' (first
    | assumption | intro _ | apply sound_calcRow | apply sound_zeroNumbers | dsimp only)

theorem sound_execCalcAngleUnit {s : State} (hs : Sound q s) :
    SoundR q (execCalcAngleUnit s) := by
  unfold execCalcAngleUnit
  with_reducible repeat' (first
    | assumption | intro _ | (apply sound_congr hs <;> rfl) | apply sound_calcRow | apply sound_onCalc | dsimp only
    | split | (apply sound_congr (by assumption) <;> rfl))

theorem sound_execCalcHistoryBack {s : State} (hs : Sound q s) :
    SoundR q (execCalcHistoryBack s) := by
  unfold execCalcHistoryBack
  with_reducible repeat' (first
    | assumption | intro _ | apply sound_calcRow | apply sound_historyKey | dsimp only)

theorem sound_execCalcHistoryForward {s : State} (hs : Sound q s) :
    SoundR q (execCalcHistoryForward s) := by
  unfold execCalcHistoryForward
  with_reducible repeat' (first
    | assumption | intro _ | apply sound_calcRow | apply sound_historyKey | dsimp only)

theorem sound_execCalcScroll {s : State} (hs : Sound q s) :
    SoundR q (execCalcScroll s) := by
  unfold execCalcScroll
  with_reducible repeat' (first
    | assumption | intro _ | (apply sound_congr hs <;> rfl) | apply sound_calcRow | apply sound_onCalc | dsimp only
    | (apply sound_congr (by assumption) <;> rfl))

theorem sound_execCalcBase {s : State} (hs : Sound q s) :
    SoundR q (execCalcBase s) := by
  unfold execCalcBase
  with_reducible repeat' (first
    | assumption | intro _ | (apply sound_congr hs <;> rfl) | apply sound_calcRow | apply sound_onCalc | dsimp only
    | (apply sound_congr (by assumption) <;> rfl))

theorem sound_execCalcReciprocal {s : State} (hs : Sound q s) :
    SoundR q (execCalcReciprocal s) := by
  unfold execCalcReciprocal
  with_reducible repeat' (first
    | assumption | intro _ | apply sound_calcRow | apply sound_onCalc | dsimp only)

end Sys2Proof.Machine
end

