-- ==== Sys2Proof/Laws/SoundHost.lean ====
section
/-! SUPPORT. Every operation keeps Sound: USB PD, the policies, boot and Nguir. -/
namespace Sys2Proof.Machine

set_option linter.unusedTactic false
set_option linter.unreachableTactic false

variable {q : Kept}

theorem sound_sinkRequest (p : Nat) {s : State} (hs : Sound q s) :
    Sound q (sinkRequest p s) := by
  unfold sinkRequest
  with_reducible repeat' (first
    | assumption | intro _ | (apply sound_congr hs <;> rfl) | apply sound_modPdPort | dsimp only | split
    | (apply sound_congr (by assumption) <;> rfl))

theorem sound_dropContract (p : Nat) {s : State} (hs : Sound q s) :
    Sound q (dropContract p s) := by
  unfold dropContract
  with_reducible repeat' (first
    | assumption | intro _ | apply sound_modPdPort | dsimp only)

theorem sound_attach (p : Nat) (x : Attach) {s : State} (hs : Sound q s) :
    Sound q (attach p x s) := by
  unfold attach
  with_reducible repeat' (first
    | assumption | intro _ | (apply sound_congr hs <;> rfl) | apply sound_modPdPort | apply sound_ite | dsimp only
    | split | (apply sound_congr (by assumption) <;> rfl))

theorem sound_answerWith (p : Nat) (k : Nat) {s : State} (hs : Sound q s) :
    Sound q (answerWith p k s) := by
  unfold answerWith
  with_reducible repeat' (first
    | assumption | intro _ | (apply sound_congr hs <;> rfl) | apply sound_modPdPort | dsimp only
    | (apply sound_congr (by assumption) <;> rfl))

theorem sound_prSwap (p : Nat) {s : State} (hs : Sound q s) :
    Sound q (prSwap p s) := by
  unfold prSwap
  with_reducible repeat' (first
    | assumption | intro _ | (apply sound_congr hs <;> rfl) | apply sound_answerWith | apply sound_modPdPort
    | apply sound_dropContract | apply sound_ite | dsimp only | split | (apply sound_congr (by assumption) <;> rfl))

theorem sound_drSwap (p : Nat) {s : State} (hs : Sound q s) :
    Sound q (drSwap p s) := by
  unfold drSwap
  with_reducible repeat' (first
    | assumption | intro _ | (apply sound_congr hs <;> rfl) | apply sound_modPdPort | dsimp only
    | (apply sound_congr (by assumption) <;> rfl))

theorem sound_vconnSwap (p : Nat) {s : State} (hs : Sound q s) :
    Sound q (vconnSwap p s) := by
  unfold vconnSwap
  with_reducible repeat' (first
    | assumption | intro _ | (apply sound_congr hs <;> rfl) | apply sound_modPdPort | dsimp only
    | (apply sound_congr (by assumption) <;> rfl))

theorem sound_hardReset (p : Nat) {s : State} (hs : Sound q s) :
    Sound q (hardReset p s) := by
  unfold hardReset
  with_reducible repeat' (first
    | assumption | intro _ | (apply sound_congr hs <;> rfl) | apply sound_dropContract | apply sound_modPdPort
    | dsimp only | (apply sound_congr (by assumption) <;> rfl))

theorem sound_partnerRequest (p : Nat) (i : Nat) (ma : Nat) (mv : Nat) {s : State} (hs : Sound q s) :
    Sound q (partnerRequest p i ma mv s) := by
  unfold partnerRequest
  with_reducible repeat' (first
    | assumption | intro _ | (apply sound_congr hs <;> rfl) | apply sound_modPdPort | apply sound_answerWith
    | apply sound_ite | dsimp only | split | (apply sound_congr (by assumption) <;> rfl))

theorem sound_sourceCaps (p : Nat) (limited : Bool) {s : State} (hs : Sound q s) :
    Sound q (sourceCaps p limited s) := by
  unfold sourceCaps
  with_reducible repeat' (first
    | assumption | intro _ | (apply sound_congr hs <;> rfl) | apply sound_modPdPort | apply sound_ite | dsimp only
    | split | (apply sound_congr (by assumption) <;> rfl))

theorem sound_portFollows {before : State} (p : Nat) {s : State} (hbefore : Sound q before) (hs : Sound q s) :
    Sound q (portFollows before p s) := by
  unfold portFollows
  with_reducible repeat' (first
    | assumption | intro _ | (apply sound_congr hbefore <;> rfl) | (apply sound_congr hs <;> rfl)
    | apply sound_answerWith | apply sound_dropContract | apply sound_sinkRequest | apply sound_modPdPort
    | apply sound_ite | dsimp only | split | (apply sound_congr (by assumption) <;> rfl))

theorem sound_execPdAttach (port : Fin 3) (x : Attach) {s : State} (hs : Sound q s) :
    SoundR q (execPdAttach port x s) := by
  unfold execPdAttach
  with_reducible repeat' (first
    | assumption | intro _ | apply sound_happens | apply sound_attach)

theorem sound_execPdDetach (port : Fin 3) {s : State} (hs : Sound q s) :
    SoundR q (execPdDetach port s) := by
  unfold execPdDetach
  with_reducible repeat' (first
    | assumption | intro _ | (apply sound_congr hs <;> rfl) | apply sound_happens | apply sound_modPdPort
    | dsimp only | (apply sound_congr (by assumption) <;> rfl))

theorem sound_execSourceCapabilities (port : Fin 3) (offers : List Pdo) {s : State} (hs : Sound q s) :
    SoundR q (execSourceCapabilities port offers s) := by
  unfold execSourceCapabilities
  with_reducible repeat' (first
    | assumption | intro _ | (apply sound_congr hs <;> rfl) | apply sound_happens | apply sound_sinkRequest
    | apply sound_modPdPort | dsimp only | (apply sound_congr (by assumption) <;> rfl))

theorem sound_execDiscoverSvids (port : Fin 3) {s : State} (hs : Sound q s) :
    SoundR q (execDiscoverSvids port s) := by
  unfold execDiscoverSvids
  with_reducible repeat' (first
    | assumption | intro _ | apply sound_happens | apply sound_answerWith)

theorem sound_execDiscoverModes (port : Fin 3) {s : State} (hs : Sound q s) :
    SoundR q (execDiscoverModes port s) := by
  unfold execDiscoverModes
  with_reducible repeat' (first
    | assumption | intro _ | apply sound_happens | apply sound_answerWith)

theorem sound_execUnsupportedPdMessage (port : Fin 3) {s : State} (hs : Sound q s) :
    SoundR q (execUnsupportedPdMessage port s) := by
  unfold execUnsupportedPdMessage
  with_reducible repeat' (first
    | assumption | intro _ | apply sound_happens | apply sound_answerWith)

theorem sound_execPrSwap (port : Fin 3) {s : State} (hs : Sound q s) :
    SoundR q (execPrSwap port s) := by
  unfold execPrSwap
  with_reducible repeat' (first
    | assumption | intro _ | apply sound_happens | apply sound_prSwap)

theorem sound_execDrSwap (port : Fin 3) {s : State} (hs : Sound q s) :
    SoundR q (execDrSwap port s) := by
  unfold execDrSwap
  with_reducible repeat' (first
    | assumption | intro _ | apply sound_happens | apply sound_drSwap)

theorem sound_execVconnSwap (port : Fin 3) {s : State} (hs : Sound q s) :
    SoundR q (execVconnSwap port s) := by
  unfold execVconnSwap
  with_reducible repeat' (first
    | assumption | intro _ | apply sound_happens | apply sound_vconnSwap)

theorem sound_execHardReset (port : Fin 3) {s : State} (hs : Sound q s) :
    SoundR q (execHardReset port s) := by
  unfold execHardReset
  with_reducible repeat' (first
    | assumption | intro _ | apply sound_happens | apply sound_hardReset)

theorem sound_execDiscoverIdentity (port : Fin 3) (sopPrime : Bool) (epr : Bool) {s : State} (hs : Sound q s) :
    SoundR q (execDiscoverIdentity port sopPrime epr s) := by
  unfold execDiscoverIdentity
  with_reducible repeat' (first
    | assumption | intro _ | (apply sound_congr hs <;> rfl) | apply sound_happens | apply sound_modPdPort
    | apply soundR_ite | apply sound_ite | dsimp only | split | (apply sound_congr (by assumption) <;> rfl))

theorem sound_execPartnerRequest (port : Fin 3) (i : Nat) (ma : Nat) (mv : Nat) {s : State} (hs : Sound q s) :
    SoundR q (execPartnerRequest port i ma mv s) := by
  unfold execPartnerRequest
  with_reducible repeat' (first
    | assumption | intro _ | apply sound_happens | apply sound_partnerRequest)

theorem sound_applyBounds {s : State} (hs : Sound q s) :
    Sound q (applyBounds s) := by
  unfold applyBounds
  with_reducible repeat' (first
    | assumption | intro _ | (apply sound_congr hs <;> rfl) | apply sound_mapPolicy | apply sound_forAll
    | apply sound_portFollows | apply sound_ite | apply sound_foldl | dsimp only | split
    | (apply sound_congr (by assumption) <;> rfl))

theorem sound_measureEff {s : State} (hs : Sound q s) :
    Sound q (measureEff s) := by
  unfold measureEff
  with_reducible repeat' (first
    | assumption | intro _ | (apply sound_congr hs <;> rfl) | apply sound_forAll | apply sound_mapPolicy
    | apply sound_ite | dsimp only | split | (apply sound_congr (by assumption) <;> rfl))

theorem sound_standCells (cs : List Nat) (down : Bool) {s : State} (hs : Sound q s) :
    Sound q (standCells cs down s) := by
  unfold standCells
  with_reducible repeat' (first
    | assumption | intro _ | apply sound_fwWrite | apply sound_ite | apply sound_foldl | dsimp only | split)

theorem sound_standDown (k : Nat) (down : Bool) {s : State} (hs : Sound q s) :
    Sound q (standDown k down s) := by
  unfold standDown
  with_reducible repeat' (first
    | assumption | intro _ | (apply sound_congr hs <;> rfl) | apply sound_standCells | apply sound_mapPolicy
    | apply sound_ite | dsimp only | split | (apply sound_congr (by assumption) <;> rfl))

theorem sound_commitWords (c : Nat) (ws : List (Nat × Word)) {s : State} (hs : Sound q s) : Sound q (commitWords c ws s) := by
  have h (l : List (Nat × Word)) (y : List (Nat × Word) × State) (hy : Sound q y.2) :
      Sound q (l.foldl (fun y x =>
        let z := fwRead 0x20 (cellBase c + 0x180 + x.1) y.2
        (if z.1 = x.2 then y.1 else y.1 ++ [x], z.2)) y).2 := by
    induction l generalizing y with
    | nil => exact hy
    | cons x l ih => exact ih _ (sound_fwRead _ _ hy)
  unfold commitWords
  dsimp only
  exact sound_ite (h ws ([], s) hs) (sound_fwWrite _ _ _ (sound_foldl _ (fun _ _ ht => sound_fwWrite _ _ _ ht) _ (h ws ([], s) hs)))

theorem sound_rd0 (on : Bool) {s : State} (hs : Sound q s) :
    Sound q (rd0 on s) := by
  unfold rd0
  with_reducible repeat' (first
    | assumption | apply sound_fwWrite | apply sound_ite | dsimp only | split)

theorem sound_dcRise (x : PolicyReadings) {s : State} (hs : Sound q s) :
    Sound q (dcRise x s) := by
  unfold dcRise
  with_reducible repeat' (first
    | assumption | intro _ | (apply sound_congr hs <;> rfl) | apply sound_rd0 | apply sound_mapPolicy
    | apply sound_standDown | apply sound_commitWords | apply sound_ite | apply sound_foldl | dsimp only | split
    | (apply sound_congr (by assumption) <;> rfl))

theorem sound_dcRemove {s : State} (hs : Sound q s) :
    Sound q (dcRemove s) := by
  unfold dcRemove
  with_reducible repeat' (first
    | assumption | intro _ | (apply sound_congr hs <;> rfl) | apply sound_standDown | apply sound_rd0
    | apply sound_mapPolicy | apply sound_ite | dsimp only | split | (apply sound_congr (by assumption) <;> rfl))

theorem sound_dcWatch (x : PolicyReadings) {s : State} (hs : Sound q s) :
    Sound q (dcWatch x s) := by
  unfold dcWatch
  with_reducible repeat' (first
    | assumption | intro _ | (apply sound_congr hs <;> rfl) | apply sound_dcRemove | apply sound_mapPolicy
    | apply sound_dcRise | apply sound_ite | dsimp only | split | (apply sound_congr (by assumption) <;> rfl))

theorem sound_tripResets {s : State} (hs : Sound q s) :
    Sound q (tripResets s) := by
  unfold tripResets
  with_reducible repeat' (first
    | assumption | intro _ | (apply sound_congr hs <;> rfl) | apply sound_forAll | apply sound_hardReset
    | apply sound_ite | dsimp only | split | (apply sound_congr (by assumption) <;> rfl))

theorem sound_sourceEvent (was : Nat) (now : Nat) (k : Nat) {s : State} (hs : Sound q s) :
    Sound q (sourceEvent was now k s) := by
  unfold sourceEvent
  with_reducible repeat' (first
    | assumption | apply sound_standDown | apply sound_ite | dsimp only | split)

theorem sound_sourceEvents (x : PolicyReadings) {s : State} (hs : Sound q s) :
    Sound q (sourceEvents x s) := by
  unfold sourceEvents
  with_reducible repeat' (first
    | assumption | intro _ | (apply sound_congr hs <;> rfl) | apply sound_dcWatch | apply sound_tripResets
    | apply sound_forAll | apply sound_sourceEvent | apply sound_mapPolicy | dsimp only
    | (apply sound_congr (by assumption) <;> rfl))

theorem sound_learnCapacity (ph : Nat) {s : State} (hs : Sound q s) :
    Sound q (learnCapacity ph s) := by
  unfold learnCapacity
  with_reducible repeat' (first
    | assumption | intro _ | (apply sound_congr hs <;> rfl) | apply sound_mapPolicy | apply sound_ite | dsimp only
    | split | (apply sound_congr (by assumption) <;> rfl))

theorem sound_backOff {s : State} (hs : Sound q s) :
    Sound q (backOff s) := by
  unfold backOff
  with_reducible repeat' (first
    | assumption | intro _ | (apply sound_congr hs <;> rfl) | apply sound_mapPolicy | apply sound_ite | dsimp only
    | split | (apply sound_congr (by assumption) <;> rfl))

theorem sound_recompute (x : PolicyReadings) {s : State} (hs : Sound q s) :
    Sound q (recompute x s) := by
  unfold recompute
  with_reducible repeat' (first
    | assumption | intro _ | (apply sound_congr hs <;> rfl) | apply sound_learnCapacity | apply sound_mapPolicy
    | apply sound_backOff | apply sound_ite | dsimp only | split | (apply sound_congr (by assumption) <;> rfl))

theorem sound_writePack {s : State} (hs : Sound q s) :
    Sound q (writePack s) := by
  unfold writePack
  with_reducible repeat' (first
    | assumption | (apply sound_congr hs <;> rfl) | apply sound_commitWords | apply sound_ite | dsimp only | split)

theorem sound_writeResults (x : PolicyReadings) {s : State} (hs : Sound q s) :
    Sound q (writeResults x s) := by
  unfold writeResults
  with_reducible repeat' (first
    | assumption | intro _ | (apply sound_congr hs <;> rfl) | apply sound_fwRead | apply sound_commitWords
    | apply sound_mapPolicy | apply sound_forAll | apply sound_writePack | apply sound_ite | apply sound_foldl
    | dsimp only | split | (apply sound_congr (by assumption) <;> rfl))

theorem sound_lostSeen {s : State} (hs : Sound q s) :
    Sound q (lostSeen s) := by
  unfold lostSeen
  with_reducible repeat' (first
    | assumption | intro _ | (apply sound_congr hs <;> rfl) | apply sound_forAll | apply sound_modPdPort
    | dsimp only | (apply sound_congr (by assumption) <;> rfl))

theorem sound_policyCond (x : PolicyReadings) {s : State} (hs : Sound q s) :
    Sound q (policyCond x s) := by
  unfold policyCond
  with_reducible repeat' (first
    | assumption | intro _ | (apply sound_congr hs <;> rfl) | apply sound_mapPolicy | apply sound_wb | dsimp only
    | (apply sound_congr (by assumption) <;> rfl))

theorem sound_limitPorts {s : State} (hs : Sound q s) :
    Sound q (limitPorts s) := by
  unfold limitPorts
  with_reducible repeat' (first
    | assumption | intro _ | apply sound_forAll | apply sound_sourceCaps | apply sound_ite | dsimp only | split)

theorem sound_relock {s : State} (hs : Sound q s) :
    Sound q (relock s) := by
  unfold relock
  with_reducible repeat' (first
    | assumption | intro _ | (apply sound_congr hs <;> rfl) | apply sound_fwWrite | apply sound_mapClk
    | apply sound_ite | dsimp only | split | (apply sound_congr (by assumption) <;> rfl))

theorem sound_policyTick (x : PolicyReadings) {s : State} (hs : Sound q s) :
    Sound q (policyTick x s) := by
  unfold policyTick
  with_reducible repeat' (first
    | assumption | apply sound_relock | apply sound_limitPorts | apply sound_policyCond | apply sound_lostSeen
    | apply sound_writeResults | apply sound_recompute | apply sound_sourceEvents | apply sound_measureEff
    | apply sound_applyBounds)

theorem sound_mpptMove (power : Int) (mv : Nat) {s : State} (hs : Sound q s) :
    Sound q (mpptMove power mv s) := by
  unfold mpptMove
  with_reducible repeat' (first
    | assumption | intro _ | (apply sound_congr hs <;> rfl) | apply sound_mapPolicy | apply sound_ite | dsimp only
    | split | (apply sound_congr (by assumption) <;> rfl))

theorem sound_mpptStep (mv : Nat) {s : State} (hs : Sound q s) :
    Sound q (mpptStep mv s) := by
  unfold mpptStep
  with_reducible repeat' (first
    | assumption | intro _ | (apply sound_congr hs <;> rfl) | apply sound_fixAwait | apply sound_mapPolicy
    | apply sound_fwWrite | dsimp only | (apply sound_congr (by assumption) <;> rfl))

theorem sound_mpptRead {s : State} (hs : Sound q s) :
    Sound q (mpptRead s) := by
  unfold mpptRead
  with_reducible repeat' (first
    | assumption | intro _ | (apply sound_congr hs <;> rfl) | apply sound_fixTaken | apply sound_mapPolicy
    | apply sound_mpptMove | apply sound_commitWords | apply sound_ite | apply sound_foldl | dsimp only | split
    | (apply sound_congr (by assumption) <;> rfl))

theorem sound_openCircuit (mv : Option Nat) {s : State} (hs : Sound q s) :
    Sound q (openCircuit mv s) := by
  unfold openCircuit
  with_reducible repeat' (first
    | assumption | intro _ | (apply sound_congr hs <;> rfl) | apply sound_standDown | apply sound_mapPolicy
    | apply sound_ite | dsimp only | split | (apply sound_congr (by assumption) <;> rfl))

theorem sound_climb (power : Nat) {s : State} (hs : Sound q s) :
    Sound q (climb power s) := by
  unfold climb
  with_reducible repeat' (first
    | assumption | intro _ | (apply sound_congr hs <;> rfl) | apply sound_mapPolicy | apply sound_ite | dsimp only
    | split | (apply sound_congr (by assumption) <;> rfl))

theorem sound_commitGen {s : State} (hs : Sound q s) :
    Sound q (commitGen s) := by
  unfold commitGen
  with_reducible repeat' (first
    | assumption | apply sound_commitWords | dsimp only)

theorem sound_batteryPoll (r : Option PackReading) {s : State} (hs : Sound q s) :
    Sound q (batteryPoll r s) := by
  unfold batteryPoll
  with_reducible repeat' (first
    | assumption | intro _ | (apply sound_congr hs <;> rfl) | apply sound_mapPolicy | apply sound_ite | dsimp only
    | split | (apply sound_congr (by assumption) <;> rfl))

theorem sound_execPolicyTick (x : PolicyReadings) {s : State} (hs : Sound q s) :
    SoundR q (execPolicyTick x s) := by
  unfold execPolicyTick
  with_reducible repeat' (first
    | assumption | intro _ | apply sound_happens | apply sound_policyTick)

theorem sound_classify (k : Nat) {s : State} (hs : Sound q s) :
    Sound q (classify k s) := by
  unfold classify
  with_reducible repeat' (first
    | assumption | intro _ | (apply sound_congr hs <;> rfl) | apply sound_rd0 | apply sound_mapPolicy
    | apply sound_ite | dsimp only | split | (apply sound_congr (by assumption) <;> rfl))

theorem sound_execDcClassify (mean : Nat) (sag1 : Nat) (sag2 : Nat) {s : State} (hs : Sound q s) :
    SoundR q (execDcClassify mean sag1 sag2 s) := by
  unfold execDcClassify
  with_reducible repeat' (first
    | assumption | intro _ | apply sound_happens | apply sound_classify | dsimp only)

theorem sound_execDcInputRemoved {s : State} (hs : Sound q s) :
    SoundR q (execDcInputRemoved s) := by
  unfold execDcInputRemoved
  with_reducible repeat' (first
    | assumption | intro _ | (apply sound_congr hs <;> rfl) | apply sound_happens | apply sound_standDown
    | apply sound_dcRemove | apply sound_mapPolicy | dsimp only | (apply sound_congr (by assumption) <;> rfl))

theorem sound_execMpptStep (mv : Nat) {s : State} (hs : Sound q s) :
    SoundR q (execMpptStep mv s) := by
  unfold execMpptStep
  with_reducible repeat' (first
    | assumption | intro _ | apply sound_happens | apply sound_mpptStep)

theorem sound_execOpenCircuitMeasure (mv : Option Nat) {s : State} (hs : Sound q s) :
    SoundR q (execOpenCircuitMeasure mv s) := by
  unfold execOpenCircuitMeasure
  with_reducible repeat' (first
    | assumption | intro _ | apply sound_happens | apply sound_openCircuit)

theorem sound_execGeneratorClimb (power : Nat) {s : State} (hs : Sound q s) :
    SoundR q (execGeneratorClimb power s) := by
  unfold execGeneratorClimb
  with_reducible repeat' (first
    | assumption | intro _ | apply sound_happens | apply sound_commitGen | apply sound_climb | dsimp only)

theorem sound_execGeneratorSpeedLost {s : State} (hs : Sound q s) :
    SoundR q (execGeneratorSpeedLost s) := by
  unfold execGeneratorSpeedLost
  with_reducible repeat' (first
    | assumption | intro _ | (apply sound_congr hs <;> rfl) | apply sound_happens | apply sound_commitGen
    | apply sound_mapPolicy | dsimp only | (apply sound_congr (by assumption) <;> rfl))

theorem sound_execBatteryPoll (r : Option PackReading) {s : State} (hs : Sound q s) :
    SoundR q (execBatteryPoll r s) := by
  unfold execBatteryPoll
  with_reducible repeat' (first
    | assumption | intro _ | apply sound_happens | apply sound_batteryPoll)

theorem sound_execChargeDoneTimeout {s : State} (hs : Sound q s) :
    SoundR q (execChargeDoneTimeout s) := by
  unfold execChargeDoneTimeout
  with_reducible repeat' (first
    | assumption | intro _ | (apply sound_congr hs <;> rfl) | apply sound_happens | apply sound_mapPolicy
    | apply sound_wb | dsimp only | split | (apply sound_congr (by assumption) <;> rfl))

theorem sound_execPreChargeTimeout {s : State} (hs : Sound q s) :
    SoundR q (execPreChargeTimeout s) := by
  unfold execPreChargeTimeout
  with_reducible repeat' (first
    | assumption | intro _ | (apply sound_congr hs <;> rfl) | apply sound_happens | apply sound_mapPolicy
    | dsimp only | (apply sound_congr (by assumption) <;> rfl))

theorem sound_execSocReset (soc : Nat) {s : State} (hs : Sound q s) :
    SoundR q (execSocReset soc s) := by
  unfold execSocReset
  with_reducible repeat' (first
    | assumption | intro _ | (apply sound_congr hs <;> rfl) | apply sound_happens | apply sound_mapPolicy
    | dsimp only | (apply sound_congr (by assumption) <;> rfl))

theorem sound_setStage (n : Nat) {s : State} (hs : Sound q s) :
    Sound q (setStage n s) := by
  unfold setStage
  with_reducible repeat' (first
    | assumption | apply sound_wf)

theorem sound_romWrite (a : Nat) (v : Word) {s : State} (hs : Sound q s) :
    Sound q (romWrite a v s) := by
  unfold romWrite
  with_reducible repeat' (first
    | assumption | apply sound_fwWrite)

theorem sound_romClaims {s : State} (hs : Sound q s) :
    Sound q (romClaims s) := by
  unfold romClaims
  with_reducible repeat' (first
    | assumption | intro _ | apply sound_claimBy | apply sound_foldl | dsimp only)

theorem sound_saveCounters (h0 : Nat) {s : State} (hs : Sound q s) :
    Sound q (saveCounters h0 s) := by
  unfold saveCounters
  with_reducible repeat' (first
    | assumption | intro _ | (apply sound_congr hs <;> rfl) | apply sound_modProc | dsimp only
    | (apply sound_congr (by assumption) <;> rfl))

theorem sound_romWrites (a : Nat) (ws : List Word) {s : State} (hs : Sound q s) :
    Sound q (romWrites a ws s) := by
  unfold romWrites
  with_reducible repeat' (first
    | assumption | intro _ | apply sound_romWrite | apply sound_foldl | dsimp only)

theorem sound_bootRom {s : State} (hs : Sound q s) :
    Sound q (bootRom s) := by
  unfold bootRom
  with_reducible repeat' (first
    | assumption | intro _ | (apply sound_congr hs <;> rfl) | apply sound_romClaims | apply sound_saveCounters
    | apply sound_setStage | apply sound_parityReads | apply sound_romWrites | apply sound_wb | apply sound_modProc
    | apply sound_ite | dsimp only | split | (apply sound_congr (by assumption) <;> rfl))

theorem sound_applyProt (e : List Word) {s : State} (hs : Sound q s) :
    Sound q (applyProt e s) := by
  unfold applyProt
  with_reducible repeat' (first
    | assumption | apply sound_claimBy | apply sound_wb | apply sound_romWrites | apply sound_romWrite
    | apply sound_ite | dsimp only | split)

theorem sound_bootProtect (es : List (Nat × List Word)) {s : State} (hs : Sound q s) :
    Sound q (bootProtect es s) := by
  unfold bootProtect
  with_reducible repeat' (first
    | assumption | intro _ | apply sound_romWrite | apply sound_setStage | apply sound_applyProt | apply sound_ite
    | apply sound_foldl | dsimp only | split)

theorem sound_runScript (l : List Word) {s : State} (hs : Sound q s) : Sound q (runScript l s) := by
  induction l, s using runScript.induct with
  | case1 a v r s ih => exact ih (sound_romWrite _ _ hs)
  | case2 l s h => unfold runScript; split <;> first | exact hs | exact (h _ _ _ rfl).elim

theorem sound_applyBoard (e : Nat × List Word) {s : State} (hs : Sound q s) :
    Sound q (applyBoard e s) := by
  unfold applyBoard
  with_reducible repeat' (first
    | assumption | intro _ | (apply sound_congr hs <;> rfl) | apply sound_romWrite | apply sound_runScript
    | apply sound_mapBoot | apply sound_foldl | dsimp only | split | (apply sound_congr (by assumption) <;> rfl)
    | rfl)

theorem sound_bootBoard (es : List (Nat × List Word)) {s : State} (hs : Sound q s) :
    Sound q (bootBoard es s) := by
  unfold bootBoard
  with_reducible repeat' (first
    | assumption | intro _ | apply sound_applyBoard | apply sound_setStage | apply sound_foldl | dsimp only)

theorem sound_bootHelm1 {s : State} (hs : Sound q s) :
    Sound q (bootHelm1 s) := by
  unfold bootHelm1
  with_reducible repeat' (first
    | assumption | intro _ | (apply sound_congr hs <;> rfl) | apply sound_setStage | apply sound_fwWrite
    | apply sound_mapHostif | apply sound_eventArrives | apply sound_ite | dsimp only | split
    | (apply sound_congr (by assumption) <;> rfl))

theorem sound_bootBlock (ws : List Word) {s : State} (hs : Sound q s) :
    Sound q (bootBlock ws s) := by
  unfold bootBlock
  with_reducible repeat' (first
    | assumption | apply sound_wb | apply sound_bootProtect | apply sound_bootBoard | apply sound_setStage
    | apply sound_bootHelm1 | apply sound_ite | dsimp only | split)

theorem sound_imageState (n : Nat) {s : State} (hs : Sound q s) :
    Sound q (imageState n s) := by
  unfold imageState
  with_reducible repeat' (first
    | assumption | apply sound_wf)

theorem sound_loadPatch (r : List Word) {s : State} (hs : Sound q s) :
    Sound q (loadPatch r s) := by
  unfold loadPatch
  with_reducible repeat' (first
    | assumption | intro _ | apply sound_romWrite | apply sound_foldl | dsimp only)

theorem sound_bootImage (ws : List Word) {s : State} (hs : Sound q s) :
    Sound q (bootImage ws s) := by
  unfold bootImage
  with_reducible repeat' (first
    | assumption | intro _ | (apply sound_congr hs <;> rfl) | apply sound_romWrite | apply sound_romWrites
    | apply sound_loadPatch | apply sound_wr | apply sound_mapBoot | apply sound_ite | apply sound_foldl
    | dsimp only | split | (apply sound_congr (by assumption) <;> rfl) | rfl)

theorem sound_bootFlash (ws : List Word) {s : State} (hs : Sound q s) :
    Sound q (bootFlash ws s) := by
  unfold bootFlash
  with_reducible repeat' (first
    | assumption | intro _ | (apply sound_congr hs <;> rfl) | apply sound_bootImage | apply sound_imageState
    | apply sound_setStage | apply sound_mapBoot | apply sound_ite | dsimp only | split
    | (apply sound_congr (by assumption) <;> rfl) | rfl)

theorem sound_copySelftest {s : State} (hs : Sound q s) :
    Sound q (copySelftest s) := by
  unfold copySelftest
  with_reducible repeat' (first
    | assumption | apply sound_wb | apply sound_ite | split)

theorem sound_bootOn {s : State} (hs : Sound q s) :
    Sound q (bootOn s) := by
  unfold bootOn
  with_reducible repeat' (first
    | assumption | (apply sound_congr hs <;> rfl) | apply sound_copySelftest | apply sound_bootRom
    | apply sound_bootBlock | apply sound_bootFlash | apply sound_ite | dsimp only | split)

theorem sound_flashRead (image : Bool) (ws : List Word) {s : State} (hs : Sound q s) :
    Sound q (flashRead image ws s) := by
  unfold flashRead
  with_reducible repeat' (first
    | assumption | intro _ | (apply sound_congr hs <;> rfl) | apply sound_bootOn | apply sound_mapBoot
    | apply sound_ite | dsimp only | split | (apply sound_congr (by assumption) <;> rfl) | rfl)

theorem sound_imageHandover (e : Word × Word) {s : State} (hs : Sound q s) :
    Sound q (imageHandover e s) := by
  unfold imageHandover
  with_reducible repeat' (first
    | assumption | intro _ | (apply sound_congr hs <;> rfl) | apply sound_imageState | apply sound_modProc
    | apply sound_eventArrives | apply sound_mapBoot | apply sound_ite | dsimp only | split
    | (apply sound_congr (by assumption) <;> rfl) | rfl)

theorem sound_execBootSequence {s : State} (hs : Sound q s) :
    SoundR q (execBootSequence s) := by
  unfold execBootSequence
  with_reducible repeat' (first
    | assumption | intro _ | apply sound_happens | apply sound_bootOn)

theorem sound_execFlashContainerRead (kind : Bool) (ws : List Word) {s : State} (hs : Sound q s) :
    SoundR q (execFlashContainerRead kind ws s) := by
  unfold execFlashContainerRead
  with_reducible repeat' (first
    | assumption | intro _ | apply sound_happens | apply sound_flashRead | apply soundR_ite | apply sound_ite
    | split)

theorem sound_execImageHandover {s : State} (hs : Sound q s) :
    SoundR q (execImageHandover s) := by
  unfold execImageHandover
  with_reducible repeat' (first
    | assumption | intro _ | (apply sound_congr hs <;> rfl) | apply sound_happens | apply sound_imageHandover
    | apply soundR_next | split | (apply sound_congr (by assumption) <;> rfl))

theorem sound_setExpect (st : Nat) (n : Nat) {s : State} (hs : Sound q s) :
    Sound q (setExpect st n s) := by
  unfold setExpect
  with_reducible repeat' (first
    | assumption | intro _ | (apply sound_congr hs <;> rfl) | apply sound_mapHostif | dsimp only
    | (apply sound_congr (by assumption) <;> rfl))

theorem sound_advanceExpect (p : Packet) {s : State} (hs : Sound q s) :
    Sound q (advanceExpect p s) := by
  unfold advanceExpect
  with_reducible repeat' (first
    | assumption | apply sound_setExpect | apply sound_ite | split)

theorem sound_disarm (p : Packet) {s : State} (hs : Sound q s) :
    Sound q (disarm p s) := by
  unfold disarm
  with_reducible repeat' (first
    | assumption | apply sound_wb | apply sound_ite | split)

theorem sound_waitFor (p : Packet) (w : WaitFor) {s : State} (hs : Sound q s) :
    Sound q (waitFor p w s) := by
  unfold waitFor
  with_reducible repeat' (first
    | assumption | intro _ | (apply sound_congr hs <;> rfl) | apply sound_mapHostif | dsimp only
    | (apply sound_congr (by assumption) <;> rfl))

theorem sound_endWait (st : Nat) {s : State} (hs : Sound q s) :
    Sound q (endWait st s) := by
  unfold endWait
  with_reducible repeat' (first
    | assumption | intro _ | (apply sound_congr hs <;> rfl) | apply sound_mapHostif | dsimp only
    | (apply sound_congr (by assumption) <;> rfl))

theorem sound_servePacket (act : Packet → State → State) (p : Packet) {s : State} (hf1 : ∀ x0 x1, Sound q x1 → Sound q (act x0 x1)) (hs : Sound q s) :
    Sound q (servePacket act p s) := by
  unfold servePacket
  with_reducible repeat' (first
    | assumption | intro _ | (apply sound_congr hs <;> rfl) | apply hf1 | apply sound_advanceExpect
    | apply sound_mapHostif | apply sound_respond | apply sound_disarm | dsimp only | split
    | (apply sound_congr (by assumption) <;> rfl))

theorem sound_reach (p : Packet) (a : Nat) (write : Bool) (eff : State → State) {s : State} (hf1 : ∀ x0, Sound q x0 → Sound q (eff x0)) (hs : Sound q s) :
    Sound q (reach p a write eff s) := by
  unfold reach
  with_reducible repeat' (first
    | assumption | intro _ | (apply sound_congr hs <;> rfl) | apply hf1 | apply sound_respond
    | apply sound_recordFault | split | (apply sound_congr (by assumption) <;> rfl))

theorem sound_readEach (l : List Nat) {s : State} (hs : Sound q s) : Sound q (readEach l s).2 := by
  induction l generalizing s with
  | nil => exact hs
  | cons a l ih => exact ih (sound_fwRead _ _ hs)

theorem sound_replyReads (as : List Nat) (p : Packet) {s : State} (hs : Sound q s) :
    Sound q (replyReads as p s) := by
  unfold replyReads
  with_reducible repeat' (first
    | assumption | intro _ | apply sound_reach | apply sound_readEach | apply sound_respond | dsimp only)

theorem sound_asHost (b : Bool) {s : State} (hs : Sound q s) :
    Sound q (asHost b s) := by
  unfold asHost
  with_reducible repeat' (first
    | assumption | apply sound_wb)

theorem sound_readUntil (host : Bool) (n a : Nat) {s : State} (hs : Sound q s) :
    Sound q (readUntil host n a s).2 := by
  induction n generalizing a s with
  | zero => exact hs
  | succ n ih =>
    have h (k : Nat) : Sound q (asHost false (busGet k a (asHost host (busTurn 1 s))).2) :=
      sound_asHost _ (sound_busGet _ _ (sound_asHost _ (sound_busTurn _ hs)))
    unfold readUntil
    dsimp only
    generalize (if host = true then proxyReq a else 0x21) = k
    split
    · exact sound_recordFault _ _ _ hs
    · split
      · exact h _
      · exact ih _ (h _)

theorem sound_writeUntil (l : List Word) (a n : Nat) {s : State} (hs : Sound q s) :
    Sound q (writeUntil l a n s).2 := by
  induction l generalizing a n s with
  | nil => exact hs
  | cons w l ih =>
    unfold writeUntil
    split
    · exact sound_recordFault _ _ _ hs
    · exact ih _ _ (sound_asHost _ (sound_busWrite _ _ _ (sound_asHost _ (sound_busTurn _ hs))))

theorem sound_actHello (p : Packet) {s : State} (hs : Sound q s) :
    Sound q (actHello p s) := by
  unfold actHello
  with_reducible repeat' (first
    | assumption | intro _ | (apply sound_congr hs <;> rfl) | apply sound_wf | apply sound_mapHostif
    | apply sound_respond | dsimp only | (apply sound_congr (by assumption) <;> rfl))

theorem sound_actRead (p : Packet) {s : State} (hs : Sound q s) :
    Sound q (actRead p s) := by
  unfold actRead
  with_reducible repeat' (first
    | assumption | apply sound_respond | apply sound_readUntil | apply sound_ite | dsimp only | split)

theorem sound_actWrite (p : Packet) {s : State} (hs : Sound q s) :
    Sound q (actWrite p s) := by
  unfold actWrite
  with_reducible repeat' (first
    | assumption | apply sound_writeUntil | apply sound_respond | dsimp only)

theorem sound_claimUntil (op : Nat) (l : List Word) (n : Nat) {s : State} (hs : Sound q s) :
    Sound q (claimUntil op l n s).2 := by
  induction l generalizing n s with
  | nil => exact hs
  | cons v l ih =>
    unfold claimUntil
    dsimp only
    split
    · exact hs
    · split
      · exact ih _ (sound_fwWrite _ _ _ hs)
      · exact sound_fwWrite 0x21 0x70C00 _ hs

theorem sound_actClaims (op : Nat) (p : Packet) {s : State} (hs : Sound q s) :
    Sound q (actClaims op p s) := by
  unfold actClaims
  with_reducible repeat' (first
    | assumption | apply sound_claimUntil | apply sound_respond | dsimp only)

theorem sound_actState (p : Packet) {s : State} (hs : Sound q s) :
    Sound q (actState p s) := by
  unfold actState
  with_reducible repeat' (first
    | assumption | intro _ | (apply sound_congr hs <;> rfl) | apply sound_mapHostif | apply sound_fwWrite
    | apply sound_waitFor | apply sound_ite | dsimp only | split | (apply sound_congr (by assumption) <;> rfl))

theorem sound_actProtQuery (p : Packet) {s : State} (hs : Sound q s) : Sound q (actProtQuery p s) :=
  sound_replyReads _ p hs

theorem sound_actBatteryQuery (p : Packet) {s : State} (hs : Sound q s) :
    Sound q (actBatteryQuery p s) := by
  unfold actBatteryQuery
  with_reducible repeat' (first
    | assumption | (apply sound_congr hs <;> rfl) | apply sound_respond | apply sound_ite | dsimp only | split)

theorem sound_actImageInfo (p : Packet) {s : State} (hs : Sound q s) :
    Sound q (actImageInfo p s) := by
  unfold actImageInfo
  with_reducible repeat' (first
    | assumption | intro _ | apply sound_reach | apply sound_readEach | apply sound_respond | apply sound_windowRead
    | dsimp only)

theorem sound_actResume (p : Packet) {s : State} (hs : Sound q s) :
    Sound q (actResume p s) := by
  unfold actResume
  with_reducible repeat' (first
    | assumption | apply sound_respond | apply sound_setExpect | apply sound_wb | apply sound_ite | dsimp only
    | split)

theorem sound_writeEach (ws : List (Nat × Word)) {s : State} (hs : Sound q s) :
    Sound q (writeEach ws s) := by
  unfold writeEach
  with_reducible repeat' (first
    | assumption | intro _ | apply sound_fwWrite | apply sound_foldl | dsimp only)

theorem sound_setsFlag (a : Nat) (i : Nat) (eff : State → State) {s : State} (hf1 : ∀ x0, Sound q x0 → Sound q (eff x0)) (hs : Sound q s) :
    Sound q (setsFlag a i eff s).2 := by
  unfold setsFlag
  with_reducible repeat' (first
    | assumption | intro _ | apply hf1 | apply sound_wf | apply sound_ite | dsimp only | split)

theorem sound_actKeyConfig (p : Packet) {s : State} (hs : Sound q s) :
    Sound q (actKeyConfig p s) := by
  unfold actKeyConfig
  with_reducible repeat' (first
    | assumption | intro _ | apply sound_setsFlag | apply sound_writeEach | apply sound_respond | apply sound_ite
    | dsimp only | split)

theorem sound_actCellLoad (p : Packet) {s : State} (hs : Sound q s) :
    Sound q (actCellLoad p s) := by
  unfold actCellLoad
  with_reducible repeat' (first
    | assumption | intro _ | apply sound_respond | apply sound_reach | apply sound_fwWriteN | apply sound_ite
    | dsimp only | split)

theorem sound_cellReply (p : Packet) (c : Nat) (st : Nat) (det : Nat) {s : State} (hs : Sound q s) :
    Sound q (cellReply p c st det s) := by
  unfold cellReply
  with_reducible repeat' (first
    | assumption | apply sound_respond)

theorem sound_actCellCommit (p : Packet) {s : State} (hs : Sound q s) :
    Sound q (actCellCommit p s) := by
  unfold actCellCommit
  with_reducible repeat' (first
    | assumption | intro _ | apply sound_reach | apply sound_fwWrite | apply sound_cellReply | apply sound_waitFor
    | apply sound_ite | dsimp only | split)

theorem sound_actFix (p : Packet) {s : State} (hs : Sound q s) :
    Sound q (actFix p s) := by
  unfold actFix
  with_reducible repeat' (first
    | assumption | intro _ | apply sound_reach | apply sound_waitFor | apply sound_fwWrite | apply sound_fixAwait
    | dsimp only)

theorem sound_actFixRead (p : Packet) {s : State} (hs : Sound q s) :
    Sound q (actFixRead p s) := by
  unfold actFixRead
  with_reducible repeat' (first
    | assumption | intro _ | apply sound_respond | apply sound_reach | apply sound_fwRead | apply sound_fwWrite
    | apply sound_ite | dsimp only | split)

theorem sound_actLogArm (p : Packet) {s : State} (hs : Sound q s) :
    Sound q (actLogArm p s) := by
  unfold actLogArm
  with_reducible repeat' (first
    | assumption | intro _ | apply sound_reach | apply sound_setsFlag | apply sound_fwWrite | apply sound_writeEach
    | apply sound_respond | apply sound_ite | dsimp only | split)

theorem sound_actLogRead (p : Packet) {s : State} (hs : Sound q s) :
    Sound q (actLogRead p s) := by
  unfold actLogRead
  with_reducible repeat' (first
    | assumption | intro _ | apply sound_respond | apply sound_reach | apply sound_readUntil | apply sound_ite
    | dsimp only | split)

theorem sound_orderWrite (r : Nat) (cond : Word) (act : Word) {s : State} (hs : Sound q s) :
    Sound q (orderWrite r cond act s) := by
  unfold orderWrite
  with_reducible repeat' (first
    | assumption | apply sound_fwWrite)

theorem sound_actStandingOrder (p : Packet) {s : State} (hs : Sound q s) :
    Sound q (actStandingOrder p s) := by
  unfold actStandingOrder
  with_reducible repeat' (first
    | assumption | intro _ | apply sound_forAll | apply sound_orderWrite | apply sound_fwWrite | apply sound_wb
    | apply sound_respond | apply sound_ite | dsimp only | split)

theorem sound_actVoteQuery (p : Packet) {s : State} (hs : Sound q s) : Sound q (actVoteQuery p s) :=
  sound_replyReads _ p hs

theorem sound_actPolicySet (p : Packet) {s : State} (hs : Sound q s) :
    Sound q (actPolicySet p s) := by
  unfold actPolicySet
  with_reducible repeat' (first
    | assumption | intro _ | (apply sound_congr hs <;> rfl) | apply sound_respond | apply sound_mapPolicy
    | dsimp only | (apply sound_congr (by assumption) <;> rfl))

theorem sound_actPolicyQuery (p : Packet) {s : State} (hs : Sound q s) :
    Sound q (actPolicyQuery p s) := by
  unfold actPolicyQuery
  with_reducible repeat' (first
    | assumption | apply sound_respond | dsimp only)

theorem sound_drainTicket (t : Nat) {s : State} (hs : Sound q s) :
    Sound q (drainTicket t s) := by
  unfold drainTicket
  with_reducible repeat' (first
    | assumption | intro _ | (apply sound_congr hs <;> rfl) | apply sound_mapSxt | apply sound_mapHostif
    | apply sound_ite | dsimp only | split | (apply sound_congr (by assumption) <;> rfl))

theorem sound_drainAll {s : State} (hs : Sound q s) :
    Sound q (drainAll s) := by
  unfold drainAll
  with_reducible repeat' (first
    | assumption | intro _ | apply sound_forAll | apply sound_drainTicket)

theorem sound_actSxtEval (p : Packet) {s : State} (hs : Sound q s) :
    Sound q (actSxtEval p s) := by
  unfold actSxtEval
  with_reducible repeat' (first
    | assumption | intro _ | (apply sound_congr hs <;> rfl) | apply sound_drainAll | apply sound_respond
    | apply sound_reach | apply sound_fwWriteN | apply sound_fwWrite | apply sound_mapHostif | apply sound_waitFor
    | apply sound_ite | dsimp only | split | (apply sound_congr (by assumption) <;> rfl))

theorem sound_ticketReply (p : Packet) (t : Nat) {s : State} (hs : Sound q s) :
    Sound q (ticketReply p t s) := by
  unfold ticketReply
  with_reducible repeat' (first
    | assumption | intro _ | (apply sound_congr hs <;> rfl) | apply sound_respond | apply sound_readUntil
    | apply sound_mapHostif | apply sound_ite | dsimp only | split | (apply sound_congr (by assumption) <;> rfl))

theorem sound_actSxtResult (p : Packet) {s : State} (hs : Sound q s) :
    Sound q (actSxtResult p s) := by
  unfold actSxtResult
  with_reducible repeat' (first
    | assumption | apply sound_drainAll | apply sound_waitFor | apply sound_ticketReply | apply sound_ite
    | dsimp only | split)

theorem sound_actLock (p : Packet) {s : State} (hs : Sound q s) :
    Sound q (actLock p s) := by
  unfold actLock
  with_reducible repeat' (first
    | assumption | apply sound_fwWrite | apply sound_respond | apply sound_windowRead | apply sound_ite | dsimp only
    | split)

theorem sound_actModuleList (p : Packet) {s : State} (hs : Sound q s) :
    Sound q (actModuleList p s) := by
  unfold actModuleList
  with_reducible repeat' (first
    | assumption | intro _ | apply sound_respond | dsimp only)

theorem sound_actModuleQuery (p : Packet) {s : State} (hs : Sound q s) :
    Sound q (actModuleQuery p s) := by
  unfold actModuleQuery
  with_reducible repeat' (first
    | assumption | apply sound_respond | apply sound_ite | dsimp only | split)

theorem sound_commitLearn (c : Nat) (learn : Bool) {s : State} (hs : Sound q s) :
    Sound q (commitLearn c learn s) := by
  unfold commitLearn
  with_reducible repeat' (first
    | assumption | apply sound_fwRead | apply sound_fwWrite | dsimp only)

theorem sound_almWords (c : Nat) {s : State} (hs : Sound q s) :
    Sound q (almWords c s).2 := by
  unfold almWords
  with_reducible repeat' (first
    | assumption | apply sound_readEach | dsimp only)

theorem sound_imageReply (p : Packet) (ws : List Word) {s : State} (hs : Sound q s) :
    Sound q (imageReply p ws s) := by
  unfold imageReply
  with_reducible repeat' (first
    | assumption | apply sound_respond)

theorem sound_almBegin (p : Packet) (c : Nat) (w : Bool → WaitFor) {s : State} (hs : Sound q s) :
    Sound q (almBegin p c w s) := by
  unfold almBegin
  with_reducible repeat' (first
    | assumption | intro _ | apply sound_reach | apply sound_respond | apply sound_fwRead | apply sound_commitLearn
    | apply sound_waitFor | apply sound_ite | dsimp only | split)

theorem sound_actAlmanacSave (p : Packet) {s : State} (hs : Sound q s) :
    Sound q (actAlmanacSave p s) := by
  unfold actAlmanacSave
  with_reducible repeat' (first
    | assumption | intro _ | (apply sound_congr hs <;> rfl) | apply sound_respond | apply sound_imageReply
    | apply sound_almBegin | apply sound_ite | dsimp only | split | (apply sound_congr (by assumption) <;> rfl))

theorem sound_actAlmanacLoad (p : Packet) {s : State} (hs : Sound q s) :
    Sound q (actAlmanacLoad p s) := by
  unfold actAlmanacLoad
  with_reducible repeat' (first
    | assumption | intro _ | (apply sound_congr hs <;> rfl) | apply sound_respond | apply sound_mapHostif
    | apply sound_almWords | apply sound_almBegin | apply sound_ite | dsimp only | split
    | (apply sound_congr (by assumption) <;> rfl))

theorem sound_actPdStatus (p : Packet) {s : State} (hs : Sound q s) :
    Sound q (actPdStatus p s) := by
  unfold actPdStatus
  with_reducible repeat' (first
    | assumption | apply sound_respond | apply sound_ite | dsimp only | split)

theorem sound_pdAction (k : Nat) (act : Nat) {s : State} (hs : Sound q s) :
    Sound q (pdAction k act s) := by
  unfold pdAction
  with_reducible repeat' (first
    | assumption | (apply sound_congr hs <;> rfl) | apply sound_sourceCaps | apply sound_sinkRequest
    | apply sound_prSwap | apply sound_drSwap | apply sound_vconnSwap | apply sound_hardReset | apply sound_ite
    | split)

theorem sound_actPdRequest (accepted : Bool) (p : Packet) {s : State} (hs : Sound q s) :
    Sound q (actPdRequest accepted p s) := by
  unfold actPdRequest
  with_reducible repeat' (first
    | assumption | apply sound_respond | apply sound_pdAction | apply sound_ite | dsimp only | split)

theorem sound_saveTable (p : Packet) (c : Nat) (learn : Bool) {s : State} (hs : Sound q s) :
    Sound q (saveTable p c learn s) := by
  unfold saveTable
  with_reducible repeat' (first
    | assumption | intro _ | (apply sound_congr hs <;> rfl) | apply sound_almWords | apply sound_fwReadN
    | apply sound_imageReply | apply sound_commitLearn | apply sound_mapHostif | dsimp only
    | (apply sound_congr (by assumption) <;> rfl))

theorem sound_loadTable (p : Packet) (c : Nat) (learn : Bool) {s : State} (hs : Sound q s) :
    Sound q (loadTable p c learn s) := by
  unfold loadTable
  with_reducible repeat' (first
    | assumption | intro _ | (apply sound_congr hs <;> rfl) | apply sound_fwWriteN | apply sound_respond
    | apply sound_commitLearn | apply sound_mapHostif | dsimp only | split
    | (apply sound_congr (by assumption) <;> rfl))

theorem sound_commitDone (p : Packet) (c : Nat) (out : Option Nat) (eff : State → State) {s : State} (hf1 : ∀ x0, Sound q x0 → Sound q (eff x0)) (hs : Sound q s) :
    Sound q (commitDone p c out eff s) := by
  unfold commitDone
  with_reducible repeat' (first
    | assumption | intro _ | (apply sound_congr hs <;> rfl) | apply hf1 | apply sound_endWait
    | apply sound_cellReply | apply sound_respond | apply sound_ite | split
    | (apply sound_congr (by assumption) <;> rfl))

theorem sound_finishWait (p : Packet) (w : WaitFor) {s : State} (hs : Sound q s) :
    Sound q (finishWait p w s) := by
  unfold finishWait
  with_reducible repeat' (first
    | assumption | intro _ | (apply sound_congr hs <;> rfl) | apply sound_respond | apply sound_endWait
    | apply sound_fixTaken | apply sound_commitDone | apply sound_cellReply | apply sound_drainAll
    | apply sound_ticketReply | apply sound_saveTable | apply sound_loadTable | apply sound_mapHostif
    | apply sound_ite | dsimp only | split | (apply sound_congr (by assumption) <;> rfl))

theorem sound_packetEffect (mine : Packet → Bool) (act : Packet → State → State) (st : Nat) {s : State} (hf1 : ∀ x0 x1, Sound q x1 → Sound q (act x0 x1)) (hs : Sound q s) :
    Sound q (packetEffect mine act st s) := by
  unfold packetEffect
  with_reducible repeat' (first
    | assumption | intro _ | (apply sound_congr hs <;> rfl) | apply hf1 | apply sound_finishWait
    | apply sound_servePacket | apply sound_ite | dsimp only | split | (apply sound_congr (by assumption) <;> rfl))

theorem sound_packetRow (op : Nat) (act : Packet → State → State) (st : Stream) {s : State} (hf1 : ∀ x0 x1, Sound q x1 → Sound q (act x0 x1)) (hs : Sound q s) :
    SoundR q (packetRow op act st s) := by
  unfold packetRow
  with_reducible repeat' (first
    | assumption | intro _ | apply hf1 | apply sound_happens | apply sound_packetEffect | dsimp only)

theorem sound_execHello (st : Stream) {s : State} (hs : Sound q s) :
    SoundR q (execHello st s) := by
  unfold execHello
  with_reducible repeat' (first
    | assumption | intro _ | apply sound_packetRow | apply sound_actHello)

theorem sound_execRead (st : Stream) {s : State} (hs : Sound q s) :
    SoundR q (execRead st s) := by
  unfold execRead
  with_reducible repeat' (first
    | assumption | intro _ | apply sound_packetRow | apply sound_actRead)

theorem sound_execWrite (st : Stream) {s : State} (hs : Sound q s) :
    SoundR q (execWrite st s) := by
  unfold execWrite
  with_reducible repeat' (first
    | assumption | intro _ | apply sound_packetRow | apply sound_actWrite)

theorem sound_execClaim (st : Stream) {s : State} (hs : Sound q s) :
    SoundR q (execClaim st s) := by
  unfold execClaim
  with_reducible repeat' (first
    | assumption | intro _ | apply sound_packetRow | apply sound_actClaims)

theorem sound_execRelease (st : Stream) {s : State} (hs : Sound q s) :
    SoundR q (execRelease st s) := by
  unfold execRelease
  with_reducible repeat' (first
    | assumption | intro _ | apply sound_packetRow | apply sound_actClaims)

theorem sound_execState (st : Stream) {s : State} (hs : Sound q s) :
    SoundR q (execState st s) := by
  unfold execState
  with_reducible repeat' (first
    | assumption | intro _ | apply sound_packetRow | apply sound_actState)

theorem sound_execProtQuery (st : Stream) {s : State} (hs : Sound q s) :
    SoundR q (execProtQuery st s) := by
  unfold execProtQuery
  with_reducible repeat' (first
    | assumption | intro _ | apply sound_packetRow | apply sound_actProtQuery)

theorem sound_execBatteryQuery (st : Stream) {s : State} (hs : Sound q s) :
    SoundR q (execBatteryQuery st s) := by
  unfold execBatteryQuery
  with_reducible repeat' (first
    | assumption | intro _ | apply sound_packetRow | apply sound_actBatteryQuery)

theorem sound_execImageInfo (st : Stream) {s : State} (hs : Sound q s) :
    SoundR q (execImageInfo st s) := by
  unfold execImageInfo
  with_reducible repeat' (first
    | assumption | intro _ | apply sound_packetRow | apply sound_actImageInfo)

theorem sound_execResume (st : Stream) {s : State} (hs : Sound q s) :
    SoundR q (execResume st s) := by
  unfold execResume
  with_reducible repeat' (first
    | assumption | intro _ | apply sound_packetRow | apply sound_actResume)

theorem sound_execKeyConfig (st : Stream) {s : State} (hs : Sound q s) :
    SoundR q (execKeyConfig st s) := by
  unfold execKeyConfig
  with_reducible repeat' (first
    | assumption | intro _ | apply sound_packetRow | apply sound_actKeyConfig)

theorem sound_execCellLoad (st : Stream) {s : State} (hs : Sound q s) :
    SoundR q (execCellLoad st s) := by
  unfold execCellLoad
  with_reducible repeat' (first
    | assumption | intro _ | apply sound_packetRow | apply sound_actCellLoad)

theorem sound_execCellCommit (st : Stream) {s : State} (hs : Sound q s) :
    SoundR q (execCellCommit st s) := by
  unfold execCellCommit
  with_reducible repeat' (first
    | assumption | intro _ | apply sound_packetRow | apply sound_actCellCommit)

theorem sound_execFix (st : Stream) {s : State} (hs : Sound q s) :
    SoundR q (execFix st s) := by
  unfold execFix
  with_reducible repeat' (first
    | assumption | intro _ | apply sound_packetRow | apply sound_actFix)

theorem sound_execFixRead (st : Stream) {s : State} (hs : Sound q s) :
    SoundR q (execFixRead st s) := by
  unfold execFixRead
  with_reducible repeat' (first
    | assumption | intro _ | apply sound_packetRow | apply sound_actFixRead)

theorem sound_execLogArm (st : Stream) {s : State} (hs : Sound q s) :
    SoundR q (execLogArm st s) := by
  unfold execLogArm
  with_reducible repeat' (first
    | assumption | intro _ | apply sound_packetRow | apply sound_actLogArm)

theorem sound_execLogRead (st : Stream) {s : State} (hs : Sound q s) :
    SoundR q (execLogRead st s) := by
  unfold execLogRead
  with_reducible repeat' (first
    | assumption | intro _ | apply sound_packetRow | apply sound_actLogRead)

theorem sound_execStandingOrder (st : Stream) {s : State} (hs : Sound q s) :
    SoundR q (execStandingOrder st s) := by
  unfold execStandingOrder
  with_reducible repeat' (first
    | assumption | intro _ | apply sound_packetRow | apply sound_actStandingOrder)

theorem sound_execVoteQuery (st : Stream) {s : State} (hs : Sound q s) :
    SoundR q (execVoteQuery st s) := by
  unfold execVoteQuery
  with_reducible repeat' (first
    | assumption | intro _ | apply sound_packetRow | apply sound_actVoteQuery)

theorem sound_execPolicySet (st : Stream) {s : State} (hs : Sound q s) :
    SoundR q (execPolicySet st s) := by
  unfold execPolicySet
  with_reducible repeat' (first
    | assumption | intro _ | apply sound_packetRow | apply sound_actPolicySet)

theorem sound_execPolicyQuery (st : Stream) {s : State} (hs : Sound q s) :
    SoundR q (execPolicyQuery st s) := by
  unfold execPolicyQuery
  with_reducible repeat' (first
    | assumption | intro _ | apply sound_packetRow | apply sound_actPolicyQuery)

theorem sound_execSxtEval (st : Stream) {s : State} (hs : Sound q s) :
    SoundR q (execSxtEval st s) := by
  unfold execSxtEval
  with_reducible repeat' (first
    | assumption | intro _ | apply sound_packetRow | apply sound_actSxtEval)

theorem sound_execSxtResult (st : Stream) {s : State} (hs : Sound q s) :
    SoundR q (execSxtResult st s) := by
  unfold execSxtResult
  with_reducible repeat' (first
    | assumption | intro _ | apply sound_packetRow | apply sound_actSxtResult)

theorem sound_execLockPacket (st : Stream) {s : State} (hs : Sound q s) :
    SoundR q (execLockPacket st s) := by
  unfold execLockPacket
  with_reducible repeat' (first
    | assumption | intro _ | apply sound_packetRow | apply sound_actLock)

theorem sound_execModuleList (st : Stream) {s : State} (hs : Sound q s) :
    SoundR q (execModuleList st s) := by
  unfold execModuleList
  with_reducible repeat' (first
    | assumption | intro _ | apply sound_packetRow | apply sound_actModuleList)

theorem sound_execModuleQuery (st : Stream) {s : State} (hs : Sound q s) :
    SoundR q (execModuleQuery st s) := by
  unfold execModuleQuery
  with_reducible repeat' (first
    | assumption | intro _ | apply sound_packetRow | apply sound_actModuleQuery)

theorem sound_execAlmanacSave (st : Stream) {s : State} (hs : Sound q s) :
    SoundR q (execAlmanacSave st s) := by
  unfold execAlmanacSave
  with_reducible repeat' (first
    | assumption | intro _ | apply sound_packetRow | apply sound_actAlmanacSave)

theorem sound_execAlmanacLoad (st : Stream) {s : State} (hs : Sound q s) :
    SoundR q (execAlmanacLoad st s) := by
  unfold execAlmanacLoad
  with_reducible repeat' (first
    | assumption | intro _ | apply sound_packetRow | apply sound_actAlmanacLoad)

theorem sound_execPdStatus (st : Stream) {s : State} (hs : Sound q s) :
    SoundR q (execPdStatus st s) := by
  unfold execPdStatus
  with_reducible repeat' (first
    | assumption | intro _ | apply sound_packetRow | apply sound_actPdStatus)

theorem sound_execPdRequest (st : Stream) (accepted : Bool) {s : State} (hs : Sound q s) :
    SoundR q (execPdRequest st accepted s) := by
  unfold execPdRequest
  with_reducible repeat' (first
    | assumption | intro _ | apply sound_packetRow | apply sound_actPdRequest)

theorem sound_execUnsupportedPacket (st : Stream) {s : State} (hs : Sound q s) :
    SoundR q (execUnsupportedPacket st s) := by
  unfold execUnsupportedPacket
  with_reducible repeat' (first
    | assumption | intro _ | apply sound_happens | apply sound_packetEffect | dsimp only)

end Sys2Proof.Machine
end

