-- ==== Sys2Proof/Laws/SoundBear.lean ====
section
/-! SUPPORT. Every operation keeps Sound: Bearing and the idle tick. -/
namespace Sys2Proof.Machine

set_option linter.unusedTactic false
set_option linter.unreachableTactic false

variable {q : Kept}

theorem sound_setPc {s : State} (p : Nat) (pc : Word) (hs : Sound q s) :
    Sound q (State.setPc s p pc) := by
  unfold State.setPc
  with_reducible repeat' (first
    | assumption | intro _ | (apply sound_congr hs <;> rfl) | apply sound_modProc | dsimp only
    | (apply sound_congr (by assumption) <;> rfl))

theorem sound_setG {s : State} (p : Nat) (i : BitVec 4) (v : Word) (hs : Sound q s) :
    Sound q (State.setG s p i v) := by
  unfold State.setG
  with_reducible repeat' (first
    | assumption | intro _ | (apply sound_congr hs <;> rfl) | apply sound_modProc | dsimp only
    | (apply sound_congr (by assumption) <;> rfl))

theorem sound_putG (p : Nat) (i : BitVec 4) (v : Word) (k : State → Issue) {s : State} (hf1 : ∀ x0, Sound q x0 → SoundI q (k x0)) (hs : Sound q s) :
    SoundI q (putG p i v k s) := by
  unfold putG
  with_reducible repeat' (first
    | assumption | intro _ | apply hf1 | apply sound_setG | apply soundI_ite | apply sound_ite | apply soundI_next
    | apply soundI_goto | apply soundI_hold | apply soundI_trap | apply soundI_stack | apply soundI_access | split)

theorem sound_putPair (p : Nat) (i : BitVec 4) (lo : Word) (hi : Word) (k : State → Issue) {s : State} (hf1 : ∀ x0, Sound q x0 → SoundI q (k x0)) (hs : Sound q s) :
    SoundI q (putPair p i lo hi k s) := by
  unfold putPair
  with_reducible repeat' (first
    | assumption | intro _ | apply hf1 | apply sound_putG | apply soundI_next | apply soundI_goto
    | apply soundI_hold | apply soundI_trap | apply soundI_stack | apply soundI_access)

theorem sound_setFlags (p : Nat) (f : Word → Word) {s : State} (hs : Sound q s) :
    Sound q (setFlags p f s) := by
  unfold setFlags
  with_reducible repeat' (first
    | assumption | intro _ | (apply sound_congr hs <;> rfl) | apply sound_modProc | apply sound_ite | dsimp only
    | split | (apply sound_congr (by assumption) <;> rfl))

theorem sound_accPut (p : Nat) (ord : Nat) (hi : Option Word) (lo : Option Word) {s : State} (hs : Sound q s) :
    Sound q (accPut p ord hi lo s) := by
  unfold accPut
  with_reducible repeat' (first
    | assumption | intro _ | (apply sound_congr hs <;> rfl) | apply sound_modProc | apply sound_mapCyc
    | apply sound_ite | dsimp only | split | (apply sound_congr (by assumption) <;> rfl))

theorem sound_nextOrd (p : Nat) {s : State} (hs : Sound q s) :
    Sound q (nextOrd p s) := by
  unfold nextOrd
  with_reducible repeat' (first
    | assumption | intro _ | (apply sound_congr hs <;> rfl) | apply sound_modProc | dsimp only
    | (apply sound_congr (by assumption) <;> rfl))

theorem sound_srWrite (p : Nat) (n : Nat) (v : Word) {s : State} (hs : Sound q s) :
    Sound q (srWrite p n v s) := by
  unfold srWrite
  with_reducible repeat' (first
    | assumption | intro _ | (apply sound_congr hs <;> rfl) | apply sound_nextOrd | apply sound_accPut
    | apply sound_modProc | dsimp only | split | (apply sound_congr (by assumption) <;> rfl))

theorem sound_accessTurn (p : Nat) (a : Nat) {s : State} (hs : Sound q s) :
    Sound q (accessTurn p a s) := by
  unfold accessTurn
  with_reducible repeat' (first
    | assumption | apply sound_turretServe | apply sound_busTurn | apply sound_ite | split)

theorem sound_readWord (p : Nat) (a : Word) {s : State} (hs : Sound q s) :
    Sound q (readWord p a s).2 := by
  unfold readWord
  with_reducible repeat' (first
    | assumption | apply sound_accessTurn | apply sound_busRead | dsimp only)

theorem sound_load (p : Nat) (a : Word) (k : Word → State → Issue) {s : State} (hf1 : ∀ x0 x1, Sound q x1 → SoundI q (k x0 x1)) (hs : Sound q s) :
    SoundI q (load p a k s) := by
  unfold load
  with_reducible repeat' (first
    | assumption | intro _ | (apply sound_congr hs <;> rfl) | apply hf1 | apply sound_readWord | apply soundI_next
    | apply soundI_goto | apply soundI_hold | apply soundI_trap | apply soundI_stack | apply soundI_access
    | dsimp only | split | (apply sound_congr (by assumption) <;> rfl))

theorem sound_loadPair (p : Nat) (a : Word) (k : Word → Word → State → Issue) {s : State} (hf1 : ∀ x0 x1 x2, Sound q x2 → SoundI q (k x0 x1 x2)) (hs : Sound q s) :
    SoundI q (loadPair p a k s) := by
  unfold loadPair
  with_reducible repeat' (first
    | assumption | intro _ | (apply sound_congr hs <;> rfl) | apply hf1 | apply sound_readWord | apply soundI_next
    | apply soundI_goto | apply soundI_hold | apply soundI_trap | apply soundI_stack | apply soundI_access
    | dsimp only | split | (apply sound_congr (by assumption) <;> rfl))

theorem sound_post (p : Nat) (a : Word) (v : Word) {s : State} (hs : Sound q s) :
    Sound q (post p a v s) := by
  unfold post
  with_reducible repeat' (first
    | assumption | intro _ | (apply sound_congr hs <;> rfl) | apply sound_recordFault | apply sound_busPut
    | apply sound_turretServe | apply sound_modProc | apply sound_ite | dsimp only | split
    | (apply sound_congr (by assumption) <;> rfl))

theorem sound_store (p : Nat) (a : Word) (v : Word) (k : State → Issue) {s : State} (hf1 : ∀ x0, Sound q x0 → SoundI q (k x0)) (hs : Sound q s) :
    SoundI q (store p a v k s) := by
  unfold store
  with_reducible repeat' (first
    | assumption | intro _ | (apply sound_congr hs <;> rfl) | apply hf1 | apply sound_post | apply soundI_next
    | apply soundI_goto | apply soundI_hold | apply soundI_trap | apply soundI_stack | apply soundI_access | split
    | (apply sound_congr (by assumption) <;> rfl))

theorem sound_storePair (p : Nat) (a : Word) (lo : Word) (hi : Word) (k : State → Issue) {s : State} (hf1 : ∀ x0, Sound q x0 → SoundI q (k x0)) (hs : Sound q s) :
    SoundI q (storePair p a lo hi k s) := by
  unfold storePair
  with_reducible repeat' (first
    | assumption | intro _ | (apply sound_congr hs <;> rfl) | apply hf1 | apply sound_post | apply soundI_next
    | apply soundI_goto | apply soundI_hold | apply soundI_trap | apply soundI_stack | apply soundI_access | split
    | (apply sound_congr (by assumption) <;> rfl))

theorem sound_push (p : Nat) (v : Word) (k : State → Issue) {s : State} (hf1 : ∀ x0, Sound q x0 → SoundI q (k x0)) (hs : Sound q s) :
    SoundI q (push p v k s) := by
  unfold push
  with_reducible repeat' (first
    | assumption | intro _ | apply hf1 | apply sound_store | apply sound_setG | apply soundI_ite | apply sound_ite
    | apply soundI_next | apply soundI_goto | apply soundI_hold | apply soundI_trap | apply soundI_stack
    | apply soundI_access | dsimp only | split)

theorem sound_pop (p : Nat) (k : Word → State → Issue) {s : State} (hf1 : ∀ x0 x1, Sound q x1 → SoundI q (k x0 x1)) (hs : Sound q s) :
    SoundI q (pop p k s) := by
  unfold pop
  with_reducible repeat' (first
    | assumption | intro _ | apply hf1 | apply sound_load | apply sound_loadBank | apply sound_setG
    | apply soundI_ite | apply sound_ite | apply soundI_next | apply soundI_goto | apply soundI_hold
    | apply soundI_trap | apply soundI_stack | apply soundI_access | dsimp only | split)

theorem sound_lockUp (h0 : Nat) {s : State} (hs : Sound q s) :
    Sound q (lockUp h0 s) := by
  unfold lockUp
  with_reducible repeat' (first
    | assumption | intro _ | (apply sound_congr hs <;> rfl) | apply sound_raiseNmi | apply sound_modProc
    | dsimp only | (apply sound_congr (by assumption) <;> rfl))

theorem sound_entryLock (h0 : Nat) (a : Nat) (k : Bool) {s : State} (hs : Sound q s) :
    Sound q (entryLock h0 a k s) := by
  unfold entryLock
  with_reducible repeat' (first
    | assumption | apply sound_lockUp | apply sound_recordFault)

theorem sound_entryPush (h0 : Nat) (v : Word) {s : State} (hs : Sound q s) :
    Sound q (entryPush h0 v s).1 := by
  unfold entryPush
  with_reducible repeat' (first
    | assumption | (apply sound_congr hs <;> rfl) | apply sound_entryLock | apply sound_busTurn
    | apply sound_busWrite | apply sound_setG | dsimp only | split)

theorem sound_entryVector (h0 : Nat) (v : Nat) {s : State} (hs : Sound q s) :
    Sound q (entryVector h0 v s).1 := by
  unfold entryVector
  with_reducible repeat' (first
    | assumption | intro _ | (apply sound_congr hs <;> rfl) | apply sound_entryLock | apply sound_readWord
    | apply sound_modProc | apply sound_ite | dsimp only | split | (apply sound_congr (by assumption) <;> rfl))

theorem sound_enterOnce (h0 : Nat) (v : Nat) (level : Nat) (pc : Word) {s : State} (hs : Sound q s) :
    Sound q (enterOnce h0 v level pc s).1 := by
  unfold enterOnce
  with_reducible repeat' (first
    | assumption | intro _ | (apply sound_congr hs <;> rfl) | apply sound_entryPush | apply sound_modProc
    | apply sound_entryVector | apply sound_ite | dsimp only | split | (apply sound_congr (by assumption) <;> rfl))

theorem sound_raiseStack (h0 : Nat) (pc : Word) {s : State} (hs : Sound q s) :
    Sound q (raiseStack h0 pc s) := by
  unfold raiseStack
  with_reducible repeat' (first
    | assumption | apply sound_lockUp | apply sound_enterOnce | apply sound_ite | split)

theorem sound_takeException (h0 : Nat) (v : Nat) (level : Nat) (pc : Word) {s : State} (hs : Sound q s) :
    Sound q (takeException h0 v level pc s) := by
  unfold takeException
  with_reducible repeat' (first
    | assumption | apply sound_raiseStack | apply sound_enterOnce | apply sound_ite | dsimp only | split)

theorem sound_fetchGrant (h0 : Nat) (a : Word) {s : State} (hs : Sound q s) :
    Sound q (fetchGrant h0 a s) := by
  unfold fetchGrant
  with_reducible repeat' (first
    | assumption | apply sound_busTurn | apply sound_ite | split)

theorem sound_fetchTurn (h0 : Nat) {s : State} (hs : Sound q s) :
    Sound q (fetchTurn h0 s) := by
  unfold fetchTurn
  with_reducible repeat' (first
    | assumption | apply sound_fetchGrant | apply sound_ite | dsimp only | split)

theorem sound_fetchParity (p : Nat) {s : State} (hs : Sound q s) :
    Sound q (fetchParity p s) := by
  unfold fetchParity
  with_reducible repeat' (first
    | assumption | apply sound_parityChecked | apply sound_ite | dsimp only | split)

theorem sound_executed (h0 : Nat) (pc : Word) {s : State} (hs : Sound q s) :
    Sound q (executed h0 pc s) := by
  unfold executed
  with_reducible repeat' (first
    | assumption | intro _ | (apply sound_congr hs <;> rfl) | apply sound_modProc | apply sound_ite | dsimp only
    | split | (apply sound_congr (by assumption) <;> rfl))

theorem sound_helmFinish (h len : Nat) {s : State} {i : Issue} (hs : Sound q s) (hi : SoundI q i) :
    Sound q (helmFinish h len s i) := by
  unfold helmFinish
  cases i with
  | next t => exact sound_executed _ _ (sound_setPc h _ hi)
  | goto pc t => exact sound_executed _ _ (sound_setPc h _ hi)
  | hold r t => exact sound_executed _ _ (sound_modProc hi _ _)
  | stack => exact sound_takeException _ _ _ _ hs
  | access a k => exact sound_takeException _ _ _ _ (sound_recordFault _ _ _ hs)
  | trap n pc t => exact sound_takeException _ _ _ _ (sound_ite hi (sound_executed _ _ hi))

theorem sound_helmDecide (h0 : Nat) (len : Nat) (legal : Bool) (body : State → Issue) {s : State} (hf1 : ∀ x0, Sound q x0 → SoundI q (body x0)) (hs : Sound q s) :
    Sound q (helmDecide h0 len legal body s) := by
  unfold helmDecide
  with_reducible repeat' (first
    | assumption | intro _ | apply hf1 | apply sound_takeException | apply sound_helmFinish | apply sound_ite
    | dsimp only | split)

theorem sound_helmIssue (h0 : Nat) (ws : List Word) (legal : Bool) (body : State → Issue) {s : State} (hf1 : ∀ x0, Sound q x0 → SoundI q (body x0)) (hs : Sound q s) :
    Sound q (helmIssue h0 ws legal body s) := by
  unfold helmIssue
  with_reducible repeat' (first
    | assumption | intro _ | (apply sound_congr hs <;> rfl) | apply hf1 | apply sound_fetchTurn
    | apply sound_takeException | apply sound_recordFault | apply sound_fetchParity | apply sound_helmDecide
    | apply sound_ite | apply soundI_next | apply soundI_goto | apply soundI_hold | apply soundI_trap
    | apply soundI_stack | apply soundI_access | dsimp only | split | (apply sound_congr (by assumption) <;> rfl))

theorem sound_cellFinish (p len : Nat) {s : State} {i : Issue} (hs : Sound q s) (hi : SoundI q i) :
    Sound q (cellFinish p len s i) := by
  unfold cellFinish
  cases i with
  | next t => exact sound_setPc p _ hi
  | goto pc t => exact sound_setPc p _ hi
  | hold r t => exact sound_modProc hi _ _
  | stack => exact sound_seqFault _ _ hs
  | access a k => exact sound_seqFault _ _ hs
  | trap n pc t => exact sound_seqFault _ _ hs

theorem sound_cellIssue (p : Nat) (ws : List Word) (cond : BitVec 3) (legal : Bool) (body : State → Issue) {s : State} (hf1 : ∀ x0, Sound q x0 → SoundI q (body x0)) (hs : Sound q s) :
    Sound q (cellIssue p ws cond legal body s) := by
  unfold cellIssue
  with_reducible repeat' (first
    | assumption | intro _ | (apply sound_congr hs <;> rfl) | apply hf1 | apply sound_seqFault
    | apply sound_recordFault | apply sound_fetchParity | apply sound_cellFinish | apply sound_setPc
    | apply sound_ite | dsimp only | split | (apply sound_congr (by assumption) <;> rfl))

theorem sound_runInstr (p : ProcId) (ws : List Word) (cond : BitVec 3) (legal : Bool) (mem : Bool) (body : State → Issue) {s : State} (hf1 : ∀ x0, Sound q x0 → SoundI q (body x0)) (hs : Sound q s) :
    SoundR q (runInstr p ws cond legal mem body s) := by
  unfold runInstr
  with_reducible repeat' (first
    | assumption | intro _ | apply hf1 | apply sound_happens | apply sound_cellIssue | apply sound_helmIssue
    | apply soundR_ite | apply sound_ite | apply soundI_next | apply soundI_goto | apply soundI_hold
    | apply soundI_trap | apply soundI_stack | apply soundI_access | dsimp only | split)

theorem sound_runShort (op : Nat) (p : ProcId) (f : ShortF) (legal : Bool) (mem : Bool) (body : State → Issue) {s : State} (hf1 : ∀ x0, Sound q x0 → SoundI q (body x0)) (hs : Sound q s) :
    SoundR q (runShort op p f legal mem body s) := by
  unfold runShort
  with_reducible repeat' (first
    | assumption | intro _ | apply hf1 | apply sound_runInstr | apply soundI_next | apply soundI_goto
    | apply soundI_hold | apply soundI_trap | apply soundI_stack | apply soundI_access)

theorem sound_runGroup (op : Nat) (p : ProcId) (f : ShortF) (sub : Nat) (lim : Nat) (legal : Bool) (mem : Bool) (body : State → Issue) {s : State} (hf1 : ∀ x0, Sound q x0 → SoundI q (body x0)) (hs : Sound q s) :
    SoundR q (runGroup op p f sub lim legal mem body s) := by
  unfold runGroup
  with_reducible repeat' (first
    | assumption | intro _ | apply hf1 | apply sound_runInstr | apply soundR_ite | apply sound_ite
    | apply soundR_next | apply soundI_next | apply soundI_goto | apply soundI_hold | apply soundI_trap
    | apply soundI_stack | apply soundI_access | split)

theorem sound_runLong (op : Nat) (p : ProcId) (f : LongF) (legal : Bool) (mem : Bool) (body : State → Issue) {s : State} (hf1 : ∀ x0, Sound q x0 → SoundI q (body x0)) (hs : Sound q s) :
    SoundR q (runLong op p f legal mem body s) := by
  unfold runLong
  with_reducible repeat' (first
    | assumption | intro _ | apply hf1 | apply sound_runInstr | apply soundI_next | apply soundI_goto
    | apply soundI_hold | apply soundI_trap | apply soundI_stack | apply soundI_access)

theorem sound_romNmi0 (parity : Bool) (loss : Bool) {s : State} (hs : Sound q s) :
    Sound q (romNmi0 parity loss s) := by
  unfold romNmi0
  with_reducible repeat' (first
    | assumption | intro _ | (apply sound_congr hs <;> rfl) | apply sound_clearBits | apply sound_mapClk
    | apply sound_ite | dsimp only | split | (apply sound_congr (by assumption) <;> rfl))

theorem sound_romNmi1 (own : Bool) (parity : Bool) (loss : Bool) (mchk : Bool) (other : Bool) {s : State} (hs : Sound q s) :
    Sound q (romNmi1 own parity loss mchk other s) := by
  unfold romNmi1
  with_reducible repeat' (first
    | assumption | intro _ | (apply sound_congr hs <;> rfl) | apply sound_postHost | apply sound_modProc
    | apply sound_ite | dsimp only | split | (apply sound_congr (by assumption) <;> rfl))

theorem sound_romNmi (h0 : Nat) (pc : Word) {s : State} (hs : Sound q s) :
    Sound q (romNmi h0 pc s) := by
  unfold romNmi
  with_reducible repeat' (first
    | assumption | apply sound_sysResetWrite | apply sound_saveCounters | apply sound_romNmi0 | apply sound_romNmi1
    | apply sound_ite | dsimp only | split)

theorem sound_nmiEntry (h0 : Nat) {s : State} (hs : Sound q s) :
    Sound q (nmiEntry h0 s) := by
  unfold nmiEntry
  with_reducible repeat' (first
    | assumption | intro _ | (apply sound_congr hs <;> rfl) | apply sound_takeException | apply sound_modProc
    | apply sound_romNmi | apply sound_ite | dsimp only | split | (apply sound_congr (by assumption) <;> rfl))

theorem sound_irqEntry (h0 : Nat) (n : Nat) {s : State} (hs : Sound q s) :
    Sound q (irqEntry h0 n s) := by
  unfold irqEntry
  with_reducible repeat' (first
    | assumption | apply sound_takeException)

theorem sound_execIrqEntry (h0 : HelmId) {s : State} (hs : Sound q s) :
    SoundR q (execIrqEntry h0 s) := by
  unfold execIrqEntry
  with_reducible repeat' (first
    | assumption | intro _ | (apply sound_congr hs <;> rfl) | apply sound_happens | apply sound_irqEntry
    | apply soundR_next | split | (apply sound_congr (by assumption) <;> rfl))

theorem sound_execNmiEntry (h0 : HelmId) {s : State} (hs : Sound q s) :
    SoundR q (execNmiEntry h0 s) := by
  unfold execNmiEntry
  with_reducible repeat' (first
    | assumption | intro _ | apply sound_happens | apply sound_nmiEntry)

theorem sound_nextPosted (p : Nat) {s : State} (hs : Sound q s) :
    Sound q (nextPosted p s) := by
  unfold nextPosted
  with_reducible repeat' (first
    | assumption | intro _ | (apply sound_congr hs <;> rfl) | apply sound_busPut | apply sound_turretServe
    | apply sound_modProc | apply sound_ite | dsimp only | split | (apply sound_congr (by assumption) <;> rfl))

theorem sound_execPostedStoreComplete (p : ProcId) {s : State} (hs : Sound q s) :
    SoundR q (execPostedStoreComplete p s) := by
  unfold execPostedStoreComplete
  with_reducible repeat' (first
    | assumption | intro _ | (apply sound_congr hs <;> rfl) | apply sound_happens | apply sound_nextPosted
    | apply sound_modProc | apply soundR_next | dsimp only | split | (apply sound_congr (by assumption) <;> rfl))

theorem sound_aluResult (p : Nat) (rd : BitVec 4) (v : Word) (f : Word → Word) {s : State} (hs : Sound q s) :
    SoundI q (aluResult p rd v f s) := by
  unfold aluResult
  with_reducible repeat' (first
    | assumption | intro _ | apply sound_putG | apply sound_setFlags | apply soundI_next | apply soundI_goto
    | apply soundI_hold | apply soundI_trap | apply soundI_stack | apply soundI_access | dsimp only)

theorem sound_aluBody (op : AluOp) (p : Nat) (rd : BitVec 4) (a : Word) (b : Word) {s : State} (hs : Sound q s) :
    SoundI q (aluBody op p rd a b s) := by
  unfold aluBody
  with_reducible repeat' (first
    | assumption | apply sound_aluResult | apply soundI_next | apply soundI_goto | apply soundI_hold
    | apply soundI_trap | apply soundI_stack | apply soundI_access)

theorem sound_aluShort (code : Nat) (op : AluOp) (p : ProcId) (f : ShortF) {s : State} (hs : Sound q s) :
    SoundR q (aluShort code op p f s) := by
  unfold aluShort
  with_reducible repeat' (first
    | assumption | intro _ | apply sound_runShort | apply sound_aluBody | apply soundI_next | apply soundI_goto
    | apply soundI_hold | apply soundI_trap | apply soundI_stack | apply soundI_access | dsimp only)

theorem sound_aluImm3 (code : Nat) (op : AluOp) (p : ProcId) (f : ShortF) {s : State} (hs : Sound q s) :
    SoundR q (aluImm3 code op p f s) := by
  unfold aluImm3
  with_reducible repeat' (first
    | assumption | intro _ | apply sound_runShort | apply sound_aluBody | apply soundI_next | apply soundI_goto
    | apply soundI_hold | apply soundI_trap | apply soundI_stack | apply soundI_access | dsimp only)

theorem sound_aluShift (code : Nat) (op : AluOp) (sub : Nat) (p : ProcId) (f : ShortF) {s : State} (hs : Sound q s) :
    SoundR q (aluShift code op sub p f s) := by
  unfold aluShift
  with_reducible repeat' (first
    | assumption | intro _ | apply sound_runGroup | apply sound_aluBody | apply soundI_next | apply soundI_goto
    | apply soundI_hold | apply soundI_trap | apply soundI_stack | apply soundI_access | dsimp only)

theorem sound_alu3 (code : Nat) (op : AluOp) (p : ProcId) (f : LongF) {s : State} (hs : Sound q s) :
    SoundR q (alu3 code op p f s) := by
  unfold alu3
  with_reducible repeat' (first
    | assumption | intro _ | apply sound_runLong | apply sound_aluBody | apply soundI_next | apply soundI_goto
    | apply soundI_hold | apply soundI_trap | apply soundI_stack | apply soundI_access | dsimp only)

theorem sound_aluImm (code : Nat) (op : AluOp) (imm : Word → Word) (p : ProcId) (f : LongF) {s : State} (hs : Sound q s) :
    SoundR q (aluImm code op imm p f s) := by
  unfold aluImm
  with_reducible repeat' (first
    | assumption | intro _ | apply sound_runLong | apply sound_aluBody | apply soundI_next | apply soundI_goto
    | apply soundI_hold | apply soundI_trap | apply soundI_stack | apply soundI_access | dsimp only)

theorem sound_aluShiftImm (code : Nat) (op : AluOp) (p : ProcId) (f : LongF) {s : State} (hs : Sound q s) :
    SoundR q (aluShiftImm code op p f s) := by
  unfold aluShiftImm
  with_reducible repeat' (first
    | assumption | intro _ | apply sound_runLong | apply sound_aluBody | apply soundI_next | apply soundI_goto
    | apply soundI_hold | apply soundI_trap | apply soundI_stack | apply soundI_access | dsimp only)

theorem sound_issueDue (p : Nat) (d : DueResult) {s : State} (hs : Sound q s) :
    Sound q (issueDue p d s) := by
  unfold issueDue
  with_reducible repeat' (first
    | assumption | intro _ | (apply sound_congr hs <;> rfl) | apply sound_modProc | dsimp only
    | (apply sound_congr (by assumption) <;> rfl))

theorem sound_mulBody (due : Word → Word → DueResult) (p : Nat) (f : ShortF) {s : State} (hs : Sound q s) :
    SoundI q (mulBody due p f s) := by
  unfold mulBody
  with_reducible repeat' (first
    | assumption | apply sound_issueDue | apply soundI_next | apply soundI_goto | apply soundI_hold
    | apply soundI_trap | apply soundI_stack | apply soundI_access)

theorem sound_divBody (signed : Bool) (p : Nat) (f : ShortF) {s : State} (hs : Sound q s) :
    SoundI q (divBody signed p f s) := by
  unfold divBody
  with_reducible repeat' (first
    | assumption | intro _ | (apply sound_congr hs <;> rfl) | apply sound_modProc | apply sound_issueDue
    | apply soundI_ite | apply sound_ite | apply soundI_next | apply soundI_goto | apply soundI_hold
    | apply soundI_trap | apply soundI_stack | apply soundI_access | dsimp only | split
    | (apply sound_congr (by assumption) <;> rfl))

theorem sound_putProduct (p : Nat) (ord : Nat) (v : BitVec 40) {s : State} (hs : Sound q s) :
    Sound q (putProduct p ord v s) := by
  unfold putProduct
  with_reducible repeat' (first
    | assumption | apply sound_accPut)

theorem sound_writeDue (p : Nat) (ord : Nat) (d : DueResult) {s : State} (hs : Sound q s) :
    Sound q (writeDue p ord d s) := by
  unfold writeDue
  with_reducible repeat' (first
    | assumption | (apply sound_congr hs <;> rfl) | apply sound_putProduct | apply sound_statusSet
    | apply sound_accPut | split)

theorem sound_dueWrite (kind : DueResult → Bool) (p : Nat) {s : State} (hs : Sound q s) :
    Sound q (dueWrite kind p s) := by
  unfold dueWrite
  with_reducible repeat' (first
    | assumption | intro _ | (apply sound_congr hs <;> rfl) | apply sound_writeDue | apply sound_modProc
    | dsimp only | split | (apply sound_congr (by assumption) <;> rfl))

theorem sound_execMov (p : ProcId) (f : ShortF) {s : State} (hs : Sound q s) :
    SoundR q (execMov p f s) := by
  unfold execMov
  with_reducible repeat' (first
    | assumption | intro _ | apply sound_runShort | apply sound_putG | apply soundR_next | apply soundI_next
    | apply soundI_goto | apply soundI_hold | apply soundI_trap | apply soundI_stack | apply soundI_access
    | dsimp only)

theorem sound_execAdd (p : ProcId) (f : ShortF) {s : State} (hs : Sound q s) :
    SoundR q (execAdd p f s) := by
  unfold execAdd
  with_reducible repeat' (first
    | assumption | apply sound_aluShort)

theorem sound_execSub (p : ProcId) (f : ShortF) {s : State} (hs : Sound q s) :
    SoundR q (execSub p f s) := by
  unfold execSub
  with_reducible repeat' (first
    | assumption | apply sound_aluShort)

theorem sound_execAnd (p : ProcId) (f : ShortF) {s : State} (hs : Sound q s) :
    SoundR q (execAnd p f s) := by
  unfold execAnd
  with_reducible repeat' (first
    | assumption | apply sound_aluShort)

theorem sound_execOr (p : ProcId) (f : ShortF) {s : State} (hs : Sound q s) :
    SoundR q (execOr p f s) := by
  unfold execOr
  with_reducible repeat' (first
    | assumption | apply sound_aluShort)

theorem sound_execXor (p : ProcId) (f : ShortF) {s : State} (hs : Sound q s) :
    SoundR q (execXor p f s) := by
  unfold execXor
  with_reducible repeat' (first
    | assumption | apply sound_aluShort)

theorem sound_execNot (p : ProcId) (f : ShortF) {s : State} (hs : Sound q s) :
    SoundR q (execNot p f s) := by
  unfold execNot
  with_reducible repeat' (first
    | assumption | intro _ | apply sound_runShort | apply sound_aluResult | apply soundI_next | apply soundI_goto
    | apply soundI_hold | apply soundI_trap | apply soundI_stack | apply soundI_access | dsimp only)

theorem sound_execNeg (p : ProcId) (f : ShortF) {s : State} (hs : Sound q s) :
    SoundR q (execNeg p f s) := by
  unfold execNeg
  with_reducible repeat' (first
    | assumption | intro _ | apply sound_runShort | apply sound_aluResult | apply soundI_next | apply soundI_goto
    | apply soundI_hold | apply soundI_trap | apply soundI_stack | apply soundI_access | dsimp only)

theorem sound_execAddi (p : ProcId) (f : ShortF) {s : State} (hs : Sound q s) :
    SoundR q (execAddi p f s) := by
  unfold execAddi
  with_reducible repeat' (first
    | assumption | apply sound_aluImm3)

theorem sound_execSubi (p : ProcId) (f : ShortF) {s : State} (hs : Sound q s) :
    SoundR q (execSubi p f s) := by
  unfold execSubi
  with_reducible repeat' (first
    | assumption | apply sound_aluImm3)

theorem sound_execShl (p : ProcId) (f : ShortF) {s : State} (hs : Sound q s) :
    SoundR q (execShl p f s) := by
  unfold execShl
  with_reducible repeat' (first
    | assumption | apply sound_aluShift)

theorem sound_execShr (p : ProcId) (f : ShortF) {s : State} (hs : Sound q s) :
    SoundR q (execShr p f s) := by
  unfold execShr
  with_reducible repeat' (first
    | assumption | apply sound_aluShift)

theorem sound_execSar (p : ProcId) (f : ShortF) {s : State} (hs : Sound q s) :
    SoundR q (execSar p f s) := by
  unfold execSar
  with_reducible repeat' (first
    | assumption | apply sound_aluShift)

theorem sound_execCmp (p : ProcId) (f : ShortF) {s : State} (hs : Sound q s) :
    SoundR q (execCmp p f s) := by
  unfold execCmp
  with_reducible repeat' (first
    | assumption | intro _ | apply sound_runShort | apply sound_setFlags | apply soundR_next | apply soundI_next
    | apply soundI_goto | apply soundI_hold | apply soundI_trap | apply soundI_stack | apply soundI_access
    | dsimp only)

theorem sound_execTst (p : ProcId) (f : ShortF) {s : State} (hs : Sound q s) :
    SoundR q (execTst p f s) := by
  unfold execTst
  with_reducible repeat' (first
    | assumption | intro _ | apply sound_runShort | apply sound_setFlags | apply soundR_next | apply soundI_next
    | apply soundI_goto | apply soundI_hold | apply soundI_trap | apply soundI_stack | apply soundI_access
    | dsimp only)

theorem sound_execMul (p : ProcId) (f : ShortF) {s : State} (hs : Sound q s) :
    SoundR q (execMul p f s) := by
  unfold execMul
  with_reducible repeat' (first
    | assumption | intro _ | apply sound_runGroup | apply sound_mulBody | apply soundI_next | apply soundI_goto
    | apply soundI_hold | apply soundI_trap | apply soundI_stack | apply soundI_access | dsimp only)

theorem sound_execMulu (p : ProcId) (f : ShortF) {s : State} (hs : Sound q s) :
    SoundR q (execMulu p f s) := by
  unfold execMulu
  with_reducible repeat' (first
    | assumption | intro _ | apply sound_runGroup | apply sound_mulBody | apply soundI_next | apply soundI_goto
    | apply soundI_hold | apply soundI_trap | apply soundI_stack | apply soundI_access | dsimp only)

theorem sound_execMac (p : ProcId) (f : ShortF) {s : State} (hs : Sound q s) :
    SoundR q (execMac p f s) := by
  unfold execMac
  with_reducible repeat' (first
    | assumption | intro _ | apply sound_runGroup | apply sound_mulBody | apply soundI_next | apply soundI_goto
    | apply soundI_hold | apply soundI_trap | apply soundI_stack | apply soundI_access | dsimp only)

theorem sound_execDiv (p : ProcId) (f : ShortF) {s : State} (hs : Sound q s) :
    SoundR q (execDiv p f s) := by
  unfold execDiv
  with_reducible repeat' (first
    | assumption | intro _ | apply sound_runGroup | apply sound_divBody | apply soundI_next | apply soundI_goto
    | apply soundI_hold | apply soundI_trap | apply soundI_stack | apply soundI_access)

theorem sound_execDivu (p : ProcId) (f : ShortF) {s : State} (hs : Sound q s) :
    SoundR q (execDivu p f s) := by
  unfold execDivu
  with_reducible repeat' (first
    | assumption | intro _ | apply sound_runGroup | apply sound_divBody | apply soundI_next | apply soundI_goto
    | apply soundI_hold | apply soundI_trap | apply soundI_stack | apply soundI_access)

theorem sound_execAdd3 (p : ProcId) (f : LongF) {s : State} (hs : Sound q s) :
    SoundR q (execAdd3 p f s) := by
  unfold execAdd3
  with_reducible repeat' (first
    | assumption | apply sound_alu3)

theorem sound_execSub3 (p : ProcId) (f : LongF) {s : State} (hs : Sound q s) :
    SoundR q (execSub3 p f s) := by
  unfold execSub3
  with_reducible repeat' (first
    | assumption | apply sound_alu3)

theorem sound_execAnd3 (p : ProcId) (f : LongF) {s : State} (hs : Sound q s) :
    SoundR q (execAnd3 p f s) := by
  unfold execAnd3
  with_reducible repeat' (first
    | assumption | apply sound_alu3)

theorem sound_execOr3 (p : ProcId) (f : LongF) {s : State} (hs : Sound q s) :
    SoundR q (execOr3 p f s) := by
  unfold execOr3
  with_reducible repeat' (first
    | assumption | apply sound_alu3)

theorem sound_execXor3 (p : ProcId) (f : LongF) {s : State} (hs : Sound q s) :
    SoundR q (execXor3 p f s) := by
  unfold execXor3
  with_reducible repeat' (first
    | assumption | apply sound_alu3)

theorem sound_execShl3 (p : ProcId) (f : LongF) {s : State} (hs : Sound q s) :
    SoundR q (execShl3 p f s) := by
  unfold execShl3
  with_reducible repeat' (first
    | assumption | apply sound_alu3)

theorem sound_execShr3 (p : ProcId) (f : LongF) {s : State} (hs : Sound q s) :
    SoundR q (execShr3 p f s) := by
  unfold execShr3
  with_reducible repeat' (first
    | assumption | apply sound_alu3)

theorem sound_execSar3 (p : ProcId) (f : LongF) {s : State} (hs : Sound q s) :
    SoundR q (execSar3 p f s) := by
  unfold execSar3
  with_reducible repeat' (first
    | assumption | apply sound_alu3)

theorem sound_execAddi16 (p : ProcId) (f : LongF) {s : State} (hs : Sound q s) :
    SoundR q (execAddi16 p f s) := by
  unfold execAddi16
  with_reducible repeat' (first
    | assumption | apply sound_aluImm)

theorem sound_execAndi (p : ProcId) (f : LongF) {s : State} (hs : Sound q s) :
    SoundR q (execAndi p f s) := by
  unfold execAndi
  with_reducible repeat' (first
    | assumption | apply sound_aluImm)

theorem sound_execOri (p : ProcId) (f : LongF) {s : State} (hs : Sound q s) :
    SoundR q (execOri p f s) := by
  unfold execOri
  with_reducible repeat' (first
    | assumption | apply sound_aluImm)

theorem sound_execXori (p : ProcId) (f : LongF) {s : State} (hs : Sound q s) :
    SoundR q (execXori p f s) := by
  unfold execXori
  with_reducible repeat' (first
    | assumption | apply sound_aluImm)

theorem sound_execShli (p : ProcId) (f : LongF) {s : State} (hs : Sound q s) :
    SoundR q (execShli p f s) := by
  unfold execShli
  with_reducible repeat' (first
    | assumption | apply sound_aluShiftImm)

theorem sound_execShri (p : ProcId) (f : LongF) {s : State} (hs : Sound q s) :
    SoundR q (execShri p f s) := by
  unfold execShri
  with_reducible repeat' (first
    | assumption | apply sound_aluShiftImm)

theorem sound_execSari (p : ProcId) (f : LongF) {s : State} (hs : Sound q s) :
    SoundR q (execSari p f s) := by
  unfold execSari
  with_reducible repeat' (first
    | assumption | apply sound_aluShiftImm)

theorem sound_execCmpi (p : ProcId) (f : LongF) {s : State} (hs : Sound q s) :
    SoundR q (execCmpi p f s) := by
  unfold execCmpi
  with_reducible repeat' (first
    | assumption | intro _ | apply sound_runLong | apply sound_setFlags | apply soundR_next | apply soundI_next
    | apply soundI_goto | apply soundI_hold | apply soundI_trap | apply soundI_stack | apply soundI_access
    | dsimp only)

theorem sound_execLdi (p : ProcId) (f : LongF) {s : State} (hs : Sound q s) :
    SoundR q (execLdi p f s) := by
  unfold execLdi
  with_reducible repeat' (first
    | assumption | intro _ | apply sound_runLong | apply sound_putG | apply soundR_next | apply soundI_next
    | apply soundI_goto | apply soundI_hold | apply soundI_trap | apply soundI_stack | apply soundI_access)

theorem sound_execSeq (p : ProcId) (f : LongF) {s : State} (hs : Sound q s) :
    SoundR q (execSeq p f s) := by
  unfold execSeq
  with_reducible repeat' (first
    | assumption | intro _ | apply sound_alu3 | dsimp only)

theorem sound_execSne (p : ProcId) (f : LongF) {s : State} (hs : Sound q s) :
    SoundR q (execSne p f s) := by
  unfold execSne
  with_reducible repeat' (first
    | assumption | intro _ | apply sound_alu3 | dsimp only)

theorem sound_execSlt (p : ProcId) (f : LongF) {s : State} (hs : Sound q s) :
    SoundR q (execSlt p f s) := by
  unfold execSlt
  with_reducible repeat' (first
    | assumption | intro _ | apply sound_alu3 | dsimp only)

theorem sound_execSltu (p : ProcId) (f : LongF) {s : State} (hs : Sound q s) :
    SoundR q (execSltu p f s) := by
  unfold execSltu
  with_reducible repeat' (first
    | assumption | intro _ | apply sound_alu3 | dsimp only)

theorem sound_execCarry (p : ProcId) (f : LongF) {s : State} (hs : Sound q s) :
    SoundR q (execCarry p f s) := by
  unfold execCarry
  with_reducible repeat' (first
    | assumption | intro _ | apply sound_alu3 | dsimp only)

theorem sound_execSnegov (p : ProcId) (f : LongF) {s : State} (hs : Sound q s) :
    SoundR q (execSnegov p f s) := by
  unfold execSnegov
  with_reducible repeat' (first
    | assumption | intro _ | apply sound_runLong | apply sound_putG | apply soundR_next | apply soundI_next
    | apply soundI_goto | apply soundI_hold | apply soundI_trap | apply soundI_stack | apply soundI_access
    | dsimp only)

theorem sound_execMultiplyResultWrite (p : ProcId) {s : State} (hs : Sound q s) :
    SoundR q (execMultiplyResultWrite p s) := by
  unfold execMultiplyResultWrite
  with_reducible repeat' (first
    | assumption | apply sound_dueWrite | apply soundR_next)

theorem sound_execDivideResultWrite (p : ProcId) {s : State} (hs : Sound q s) :
    SoundR q (execDivideResultWrite p s) := by
  unfold execDivideResultWrite
  with_reducible repeat' (first
    | assumption | intro _ | apply sound_dueWrite | apply soundR_next | dsimp only)

theorem sound_loadBody (p : Nat) (rd : BitVec 4) (a : Word) {s : State} (hs : Sound q s) :
    SoundI q (loadBody p rd a s) := by
  unfold loadBody
  with_reducible repeat' (first
    | assumption | intro _ | apply sound_load | apply sound_loadBank | apply sound_putG | apply soundI_next
    | apply soundI_goto | apply soundI_hold | apply soundI_trap | apply soundI_stack | apply soundI_access
    | dsimp only)

theorem sound_loadPairBody (p : Nat) (rd : BitVec 4) (a : Word) {s : State} (hs : Sound q s) :
    SoundI q (loadPairBody p rd a s) := by
  unfold loadPairBody
  with_reducible repeat' (first
    | assumption | intro _ | apply sound_loadPair | apply sound_putPair | apply soundI_next | apply soundI_goto
    | apply soundI_hold | apply soundI_trap | apply soundI_stack | apply soundI_access | dsimp only)

theorem sound_storePairBody (p : Nat) (rd : BitVec 4) (a : Word) {s : State} (hs : Sound q s) :
    SoundI q (storePairBody p rd a s) := by
  unfold storePairBody
  with_reducible repeat' (first
    | assumption | intro _ | apply sound_storePair | apply soundI_next | apply soundI_goto | apply soundI_hold
    | apply soundI_trap | apply soundI_stack | apply soundI_access)

theorem sound_loadUpdate (p : Nat) (f : ShortF) {s : State} (hs : Sound q s) :
    SoundI q (loadUpdate p f s) := by
  unfold loadUpdate
  with_reducible repeat' (first
    | assumption | intro _ | apply sound_loadPairBody | apply sound_loadBody | apply sound_putG | apply soundI_ite
    | apply sound_ite | apply soundI_next | apply soundI_goto | apply soundI_hold | apply soundI_trap
    | apply soundI_stack | apply soundI_access | dsimp only | split)

theorem sound_storeUpdate (p : Nat) (f : ShortF) {s : State} (hs : Sound q s) :
    SoundI q (storeUpdate p f s) := by
  unfold storeUpdate
  with_reducible repeat' (first
    | assumption | intro _ | apply sound_putG | apply sound_storePair | apply sound_store | apply soundI_ite
    | apply sound_ite | apply soundI_next | apply soundI_goto | apply soundI_hold | apply soundI_trap
    | apply soundI_stack | apply soundI_access | dsimp only | split)

theorem sound_execLd (p : ProcId) (f : ShortF) {s : State} (hs : Sound q s) :
    SoundR q (execLd p f s) := by
  unfold execLd
  with_reducible repeat' (first
    | assumption | intro _ | apply sound_runShort | apply sound_loadBody | apply soundI_next | apply soundI_goto
    | apply soundI_hold | apply soundI_trap | apply soundI_stack | apply soundI_access | dsimp only)

theorem sound_execSt (p : ProcId) (f : ShortF) {s : State} (hs : Sound q s) :
    SoundR q (execSt p f s) := by
  unfold execSt
  with_reducible repeat' (first
    | assumption | intro _ | apply sound_runShort | apply sound_store | apply soundR_next | apply soundI_next
    | apply soundI_goto | apply soundI_hold | apply soundI_trap | apply soundI_stack | apply soundI_access
    | dsimp only)

theorem sound_execLdUpdate (p : ProcId) (f : ShortF) {s : State} (hs : Sound q s) :
    SoundR q (execLdUpdate p f s) := by
  unfold execLdUpdate
  with_reducible repeat' (first
    | assumption | intro _ | apply sound_runShort | apply sound_loadUpdate | apply soundI_next | apply soundI_goto
    | apply soundI_hold | apply soundI_trap | apply soundI_stack | apply soundI_access)

theorem sound_execStUpdate (p : ProcId) (f : ShortF) {s : State} (hs : Sound q s) :
    SoundR q (execStUpdate p f s) := by
  unfold execStUpdate
  with_reducible repeat' (first
    | assumption | intro _ | apply sound_runShort | apply sound_storeUpdate | apply soundI_next | apply soundI_goto
    | apply soundI_hold | apply soundI_trap | apply soundI_stack | apply soundI_access)

theorem sound_execLd20 (p : ProcId) (f : LongF) {s : State} (hs : Sound q s) :
    SoundR q (execLd20 p f s) := by
  unfold execLd20
  with_reducible repeat' (first
    | assumption | intro _ | apply sound_runLong | apply sound_loadBody | apply soundI_next | apply soundI_goto
    | apply soundI_hold | apply soundI_trap | apply soundI_stack | apply soundI_access | dsimp only)

theorem sound_execSt20 (p : ProcId) (f : LongF) {s : State} (hs : Sound q s) :
    SoundR q (execSt20 p f s) := by
  unfold execSt20
  with_reducible repeat' (first
    | assumption | intro _ | apply sound_runLong | apply sound_store | apply soundR_next | apply soundI_next
    | apply soundI_goto | apply soundI_hold | apply soundI_trap | apply soundI_stack | apply soundI_access
    | dsimp only)

theorem sound_execLdp (p : ProcId) (f : LongF) {s : State} (hs : Sound q s) :
    SoundR q (execLdp p f s) := by
  unfold execLdp
  with_reducible repeat' (first
    | assumption | intro _ | apply sound_runLong | apply sound_loadPairBody | apply soundI_next | apply soundI_goto
    | apply soundI_hold | apply soundI_trap | apply soundI_stack | apply soundI_access | dsimp only)

theorem sound_execStp (p : ProcId) (f : LongF) {s : State} (hs : Sound q s) :
    SoundR q (execStp p f s) := by
  unfold execStp
  with_reducible repeat' (first
    | assumption | intro _ | apply sound_runLong | apply sound_storePairBody | apply soundI_next | apply soundI_goto
    | apply soundI_hold | apply soundI_trap | apply soundI_stack | apply soundI_access | dsimp only)

theorem sound_execLdx (p : ProcId) (f : LongF) {s : State} (hs : Sound q s) :
    SoundR q (execLdx p f s) := by
  unfold execLdx
  with_reducible repeat' (first
    | assumption | intro _ | apply sound_runLong | apply sound_loadBody | apply soundI_next | apply soundI_goto
    | apply soundI_hold | apply soundI_trap | apply soundI_stack | apply soundI_access | dsimp only)

theorem sound_execStx (p : ProcId) (f : LongF) {s : State} (hs : Sound q s) :
    SoundR q (execStx p f s) := by
  unfold execStx
  with_reducible repeat' (first
    | assumption | intro _ | apply sound_runLong | apply sound_store | apply soundR_next | apply soundI_next
    | apply soundI_goto | apply soundI_hold | apply soundI_trap | apply soundI_stack | apply soundI_access
    | dsimp only)

theorem sound_execLdpx (p : ProcId) (f : LongF) {s : State} (hs : Sound q s) :
    SoundR q (execLdpx p f s) := by
  unfold execLdpx
  with_reducible repeat' (first
    | assumption | intro _ | apply sound_runLong | apply sound_loadPairBody | apply soundI_next | apply soundI_goto
    | apply soundI_hold | apply soundI_trap | apply soundI_stack | apply soundI_access | dsimp only)

theorem sound_execStpx (p : ProcId) (f : LongF) {s : State} (hs : Sound q s) :
    SoundR q (execStpx p f s) := by
  unfold execStpx
  with_reducible repeat' (first
    | assumption | intro _ | apply sound_runLong | apply sound_storePairBody | apply soundI_next | apply soundI_goto
    | apply soundI_hold | apply soundI_trap | apply soundI_stack | apply soundI_access | dsimp only)

theorem sound_sendEvents (lo : Word) (hi : Word) {s : State} (hs : Sound q s) :
    Sound q (sendEvents lo hi s) := by
  unfold sendEvents
  with_reducible repeat' (first
    | assumption | intro _ | apply sound_cellEvent | apply sound_eventArrives | apply sound_ite | apply sound_foldl
    | dsimp only | split)

theorem sound_wfeBody (p : Nat) {s : State} (hs : Sound q s) :
    SoundI q (wfeBody p s) := by
  unfold wfeBody
  with_reducible repeat' (first
    | assumption | apply sound_clearEvent | apply soundI_ite | apply sound_ite | apply soundI_next
    | apply soundI_goto | apply soundI_hold | apply soundI_trap | apply soundI_stack | apply soundI_access | split)

theorem sound_waittBody (p : Nat) (rs : BitVec 4) {s : State} (hs : Sound q s) :
    SoundI q (waittBody p rs s) := by
  unfold waittBody
  with_reducible repeat' (first
    | assumption | apply soundI_ite | apply sound_ite | apply soundI_next | apply soundI_goto | apply soundI_hold
    | apply soundI_trap | apply soundI_stack | apply soundI_access | dsimp only | split)

theorem sound_retiBody (h0 : Nat) {s : State} (hs : Sound q s) :
    SoundI q (retiBody h0 s) := by
  unfold retiBody
  with_reducible repeat' (first
    | assumption | intro _ | (apply sound_congr hs <;> rfl) | apply sound_pop | apply sound_modProc
    | apply soundI_next | apply soundI_goto | apply soundI_hold | apply soundI_trap | apply soundI_stack
    | apply soundI_access | dsimp only | (apply sound_congr (by assumption) <;> rfl))

theorem sound_branchBody (p : Nat) (taken : Bool) (f : LongF) {s : State} (hs : Sound q s) :
    SoundI q (branchBody p taken f s) := by
  unfold branchBody
  with_reducible repeat' (first
    | assumption | apply soundI_ite | apply sound_ite | apply soundI_next | apply soundI_goto | apply soundI_hold
    | apply soundI_trap | apply soundI_stack | apply soundI_access | split)

theorem sound_endWaiting (p : Nat) {s : State} (hs : Sound q s) :
    Sound q (endWaiting p s) := by
  unfold endWaiting
  with_reducible repeat' (first
    | assumption | intro _ | (apply sound_congr hs <;> rfl) | apply sound_modProc | dsimp only
    | (apply sound_congr (by assumption) <;> rfl))

theorem sound_execMfs (p : ProcId) (f : ShortF) {s : State} (hs : Sound q s) :
    SoundR q (execMfs p f s) := by
  unfold execMfs
  with_reducible repeat' (first
    | assumption | intro _ | apply sound_runGroup | apply sound_putG | apply soundR_next | apply soundI_next
    | apply soundI_goto | apply soundI_hold | apply soundI_trap | apply soundI_stack | apply soundI_access
    | dsimp only)

theorem sound_execMts (p : ProcId) (f : ShortF) {s : State} (hs : Sound q s) :
    SoundR q (execMts p f s) := by
  unfold execMts
  with_reducible repeat' (first
    | assumption | intro _ | apply sound_runGroup | apply sound_srWrite | apply soundR_next | apply soundI_next
    | apply soundI_goto | apply soundI_hold | apply soundI_trap | apply soundI_stack | apply soundI_access
    | dsimp only)

theorem sound_execJr (p : ProcId) (f : ShortF) {s : State} (hs : Sound q s) :
    SoundR q (execJr p f s) := by
  unfold execJr
  with_reducible repeat' (first
    | assumption | intro _ | apply sound_runGroup | apply soundI_next | apply soundI_goto | apply soundI_hold
    | apply soundI_trap | apply soundI_stack | apply soundI_access | dsimp only)

theorem sound_execCallr (p : ProcId) (f : ShortF) {s : State} (hs : Sound q s) :
    SoundR q (execCallr p f s) := by
  unfold execCallr
  with_reducible repeat' (first
    | assumption | intro _ | apply sound_runGroup | apply sound_push | apply soundI_next | apply soundI_goto
    | apply soundI_hold | apply soundI_trap | apply soundI_stack | apply soundI_access | dsimp only)

theorem sound_execRet (p : ProcId) (f : ShortF) {s : State} (hs : Sound q s) :
    SoundR q (execRet p f s) := by
  unfold execRet
  with_reducible repeat' (first
    | assumption | intro _ | apply sound_runGroup | apply sound_pop | apply soundI_next | apply soundI_goto
    | apply soundI_hold | apply soundI_trap | apply soundI_stack | apply soundI_access)

theorem sound_execReti (p : ProcId) (f : ShortF) {s : State} (hs : Sound q s) :
    SoundR q (execReti p f s) := by
  unfold execReti
  with_reducible repeat' (first
    | assumption | intro _ | apply sound_runGroup | apply sound_retiBody | apply soundI_next | apply soundI_goto
    | apply soundI_hold | apply soundI_trap | apply soundI_stack | apply soundI_access)

theorem sound_execNop (p : ProcId) (f : ShortF) {s : State} (hs : Sound q s) :
    SoundR q (execNop p f s) := by
  unfold execNop
  with_reducible repeat' (first
    | assumption | intro _ | apply sound_runGroup | apply soundR_next | apply soundI_next | apply soundI_goto
    | apply soundI_hold | apply soundI_trap | apply soundI_stack | apply soundI_access)

theorem sound_execWfe (p : ProcId) (f : ShortF) {s : State} (hs : Sound q s) :
    SoundR q (execWfe p f s) := by
  unfold execWfe
  with_reducible repeat' (first
    | assumption | intro _ | apply sound_runGroup | apply sound_wfeBody | apply soundI_next | apply soundI_goto
    | apply soundI_hold | apply soundI_trap | apply soundI_stack | apply soundI_access)

theorem sound_execSev (p : ProcId) (f : ShortF) {s : State} (hs : Sound q s) :
    SoundR q (execSev p f s) := by
  unfold execSev
  with_reducible repeat' (first
    | assumption | intro _ | apply sound_runGroup | apply sound_at_ | apply soundR_next | apply soundI_next
    | apply soundI_goto | apply soundI_hold | apply soundI_trap | apply soundI_stack | apply soundI_access
    | dsimp only)

theorem sound_execWaitt (p : ProcId) (f : ShortF) {s : State} (hs : Sound q s) :
    SoundR q (execWaitt p f s) := by
  unfold execWaitt
  with_reducible repeat' (first
    | assumption | intro _ | apply sound_runGroup | apply sound_waittBody | apply soundI_next | apply soundI_goto
    | apply soundI_hold | apply soundI_trap | apply soundI_stack | apply soundI_access)

theorem sound_execTrap (p : ProcId) (f : ShortF) {s : State} (hs : Sound q s) :
    SoundR q (execTrap p f s) := by
  unfold execTrap
  with_reducible repeat' (first
    | assumption | intro _ | apply sound_runGroup | apply soundI_next | apply soundI_goto | apply soundI_hold
    | apply soundI_trap | apply soundI_stack | apply soundI_access | dsimp only)

theorem sound_execJmp (p : ProcId) (f : LongF) {s : State} (hs : Sound q s) :
    SoundR q (execJmp p f s) := by
  unfold execJmp
  with_reducible repeat' (first
    | assumption | intro _ | apply sound_runLong | apply soundI_next | apply soundI_goto | apply soundI_hold
    | apply soundI_trap | apply soundI_stack | apply soundI_access)

theorem sound_execCall (p : ProcId) (f : LongF) {s : State} (hs : Sound q s) :
    SoundR q (execCall p f s) := by
  unfold execCall
  with_reducible repeat' (first
    | assumption | intro _ | apply sound_runLong | apply sound_push | apply soundI_next | apply soundI_goto
    | apply soundI_hold | apply soundI_trap | apply soundI_stack | apply soundI_access | dsimp only)

theorem sound_execBz (p : ProcId) (f : LongF) {s : State} (hs : Sound q s) :
    SoundR q (execBz p f s) := by
  unfold execBz
  with_reducible repeat' (first
    | assumption | intro _ | apply sound_runLong | apply sound_branchBody | apply soundI_next | apply soundI_goto
    | apply soundI_hold | apply soundI_trap | apply soundI_stack | apply soundI_access | dsimp only)

theorem sound_execBnz (p : ProcId) (f : LongF) {s : State} (hs : Sound q s) :
    SoundR q (execBnz p f s) := by
  unfold execBnz
  with_reducible repeat' (first
    | assumption | intro _ | apply sound_runLong | apply sound_branchBody | apply soundI_next | apply soundI_goto
    | apply soundI_hold | apply soundI_trap | apply soundI_stack | apply soundI_access | dsimp only)

theorem sound_execWfeComplete (p : ProcId) {s : State} (hs : Sound q s) :
    SoundR q (execWfeComplete p s) := by
  unfold execWfeComplete
  with_reducible repeat' (first
    | assumption | intro _ | apply sound_happens | apply sound_endWaiting | apply sound_clearEvent | dsimp only)

theorem sound_execWaittComplete (p : ProcId) {s : State} (hs : Sound q s) :
    SoundR q (execWaittComplete p s) := by
  unfold execWaittComplete
  with_reducible repeat' (first
    | assumption | intro _ | apply sound_happens | apply sound_endWaiting)

theorem sound_phaseTick (m : Nat) {s : State} (hs : Sound q s) :
    Sound q (phaseTick m s) := by
  unfold phaseTick
  with_reducible repeat' (first
    | assumption | intro _ | (apply sound_congr hs <;> rfl) | apply sound_modRipple | apply sound_ite | dsimp only
    | split | (apply sound_congr (by assumption) <;> rfl))

theorem sound_angleTick (c : Nat) {s : State} (hs : Sound q s) :
    Sound q (angleTick c s) := by
  unfold angleTick
  with_reducible repeat' (first
    | assumption | intro _ | (apply sound_congr hs <;> rfl) | apply sound_modCell | apply sound_ite | dsimp only
    | split | (apply sound_congr (by assumption) <;> rfl))

theorem sound_keepTick {s : State} (hs : Sound q s) :
    Sound q (keepTick s) := by
  unfold keepTick
  with_reducible repeat' (first
    | assumption | intro _ | (apply sound_congr hs <;> rfl) | apply sound_mapClk | apply sound_ite | dsimp only
    | split | (apply sound_congr (by assumption) <;> rfl))

theorem sound_returnTick {s : State} (hs : Sound q s) :
    Sound q (returnTick s) := by
  unfold returnTick
  with_reducible repeat' (first
    | assumption | intro _ | (apply sound_congr hs <;> rfl) | apply sound_mapClk | apply sound_advance
    | apply sound_ite | dsimp only | split | (apply sound_congr (by assumption) <;> rfl))

theorem sound_edgeTick {s : State} (hs : Sound q s) :
    Sound q (edgeTick s) := by
  unfold edgeTick
  with_reducible repeat' (first
    | assumption | apply sound_keepTick | apply sound_advance | apply sound_ite | split)

theorem sound_occur (e : Ev) {s : State} (hs : Sound q s) :
    Sound q (occur e s) := by
  unfold occur
  with_reducible repeat' (first
    | assumption | (apply sound_congr hs <;> rfl) | apply sound_commitNow | apply sound_deliverSlot
    | apply sound_sendEvents | apply sound_trip | apply sound_lowOff | apply sound_unblank | apply sound_softwareDue
    | apply sound_wrMem | split)

theorem sound_slotValues (due : List Ev) {s : State} (hs : Sound q s) :
    Sound q (slotValues due s) := by
  unfold slotValues
  with_reducible repeat' (first
    | assumption | intro _ | (apply sound_congr hs <;> rfl) | apply sound_slotWrite | apply sound_ite
    | apply sound_foldl | dsimp only | split | (apply sound_congr (by assumption) <;> rfl))

theorem sound_settleDue {s : State} (hs : Sound q s) :
    Sound q (settleDue s) := by
  unfold settleDue
  with_reducible repeat' (first
    | assumption | intro _ | apply sound_forAll | apply sound_settle | apply sound_ite | dsimp only | split)

theorem sound_occurDue {s : State} (hs : Sound q s) :
    Sound q (occurDue s) := by
  unfold occurDue
  with_reducible repeat' (first
    | assumption | intro _ | apply sound_mapSched | apply sound_commitNow | apply sound_settleDue
    | apply sound_posEvents | apply sound_occur | apply sound_slotValues | apply sound_foldl | dsimp only)

theorem sound_sevDue {s : State} (hs : Sound q s) :
    Sound q (sevDue s) := by
  unfold sevDue
  with_reducible repeat' (first
    | assumption | intro _ | apply sound_occur | apply sound_mapSched | apply sound_foldl | dsimp only)

theorem sound_cycleEnd {s : State} (hs : Sound q s) :
    Sound q (cycleEnd s) := by
  unfold cycleEnd
  with_reducible repeat' (first
    | assumption | intro _ | apply sound_forAll | apply sound_posTick | apply sound_emuTick | apply sound_angleTick
    | apply sound_phaseTick | apply sound_protTick | apply sound_ite | split)

theorem sound_fabricTick {s : State} (hs : Sound q s) :
    Sound q (fabricTick s) := by
  unfold fabricTick
  with_reducible repeat' (first
    | assumption | intro _ | (apply sound_congr hs <;> rfl) | apply sound_cycleEnd | apply sound_mapClk
    | apply sound_edgeTick | apply sound_returnTick | apply sound_mapCyc | apply sound_mpptRead
    | apply sound_occurDue | apply sound_fixTake | apply sound_sevDue | apply sound_ite | dsimp only | split
    | (apply sound_congr (by assumption) <;> rfl))

theorem sound_stillTick {s : State} (hs : Sound q s) :
    Sound q (stillTick s) := by
  unfold stillTick
  with_reducible repeat' (first
    | assumption | intro _ | apply sound_sevDue | apply sound_keepTick | apply sound_mapCyc | dsimp only)

theorem sound_tick {s : State} (hs : Sound q s) :
    Sound q (tick s) := by
  unfold tick
  with_reducible repeat' (first
    | assumption | apply sound_calcDraw | apply sound_calcTrim | apply sound_fabricTick | apply sound_stillTick
    | apply sound_ite | split)

end Sys2Proof.Machine
end

