-- ==== Sys2Proof/Laws/SoundExec.lean ====
section
/-! SUPPORT. Every command but OTP programming keeps Sound. -/
namespace Sys2Proof.Machine

set_option linter.unusedTactic false
set_option linter.unreachableTactic false

variable {q : Kept}

/-- A command other than OTP_PROG leaves the queue and the OTP, and keeps the canonical forms. -/
theorem sound_exec (i : Instr) {s : State} (hs : Sound q s) (hi : ∀ a v, i ≠ .otpProg a v) : SoundR q (exec i s) := by
  cases i with
  | mov _ _ => exact sound_execMov _ _ hs
  | add _ _ => exact sound_execAdd _ _ hs
  | sub _ _ => exact sound_execSub _ _ hs
  | and _ _ => exact sound_execAnd _ _ hs
  | or _ _ => exact sound_execOr _ _ hs
  | xor _ _ => exact sound_execXor _ _ hs
  | not _ _ => exact sound_execNot _ _ hs
  | neg _ _ => exact sound_execNeg _ _ hs
  | addi _ _ => exact sound_execAddi _ _ hs
  | subi _ _ => exact sound_execSubi _ _ hs
  | shl _ _ => exact sound_execShl _ _ hs
  | shr _ _ => exact sound_execShr _ _ hs
  | sar _ _ => exact sound_execSar _ _ hs
  | cmp _ _ => exact sound_execCmp _ _ hs
  | tst _ _ => exact sound_execTst _ _ hs
  | ld _ _ => exact sound_execLd _ _ hs
  | st _ _ => exact sound_execSt _ _ hs
  | ldUpdate _ _ => exact sound_execLdUpdate _ _ hs
  | stUpdate _ _ => exact sound_execStUpdate _ _ hs
  | mul _ _ => exact sound_execMul _ _ hs
  | mulu _ _ => exact sound_execMulu _ _ hs
  | mac _ _ => exact sound_execMac _ _ hs
  | div _ _ => exact sound_execDiv _ _ hs
  | divu _ _ => exact sound_execDivu _ _ hs
  | mfs _ _ => exact sound_execMfs _ _ hs
  | mts _ _ => exact sound_execMts _ _ hs
  | jr _ _ => exact sound_execJr _ _ hs
  | callr _ _ => exact sound_execCallr _ _ hs
  | ret _ _ => exact sound_execRet _ _ hs
  | reti _ _ => exact sound_execReti _ _ hs
  | nop _ _ => exact sound_execNop _ _ hs
  | wfe _ _ => exact sound_execWfe _ _ hs
  | sev _ _ => exact sound_execSev _ _ hs
  | waitt _ _ => exact sound_execWaitt _ _ hs
  | trap _ _ => exact sound_execTrap _ _ hs
  | add3 _ _ => exact sound_execAdd3 _ _ hs
  | sub3 _ _ => exact sound_execSub3 _ _ hs
  | and3 _ _ => exact sound_execAnd3 _ _ hs
  | or3 _ _ => exact sound_execOr3 _ _ hs
  | xor3 _ _ => exact sound_execXor3 _ _ hs
  | shl3 _ _ => exact sound_execShl3 _ _ hs
  | shr3 _ _ => exact sound_execShr3 _ _ hs
  | sar3 _ _ => exact sound_execSar3 _ _ hs
  | addi16 _ _ => exact sound_execAddi16 _ _ hs
  | andi _ _ => exact sound_execAndi _ _ hs
  | ori _ _ => exact sound_execOri _ _ hs
  | xori _ _ => exact sound_execXori _ _ hs
  | shli _ _ => exact sound_execShli _ _ hs
  | shri _ _ => exact sound_execShri _ _ hs
  | sari _ _ => exact sound_execSari _ _ hs
  | cmpi _ _ => exact sound_execCmpi _ _ hs
  | ldi _ _ => exact sound_execLdi _ _ hs
  | seq _ _ => exact sound_execSeq _ _ hs
  | sne _ _ => exact sound_execSne _ _ hs
  | slt _ _ => exact sound_execSlt _ _ hs
  | sltu _ _ => exact sound_execSltu _ _ hs
  | carry _ _ => exact sound_execCarry _ _ hs
  | snegov _ _ => exact sound_execSnegov _ _ hs
  | ld20 _ _ => exact sound_execLd20 _ _ hs
  | st20 _ _ => exact sound_execSt20 _ _ hs
  | ldp _ _ => exact sound_execLdp _ _ hs
  | stp _ _ => exact sound_execStp _ _ hs
  | ldx _ _ => exact sound_execLdx _ _ hs
  | stx _ _ => exact sound_execStx _ _ hs
  | ldpx _ _ => exact sound_execLdpx _ _ hs
  | stpx _ _ => exact sound_execStpx _ _ hs
  | jmp _ _ => exact sound_execJmp _ _ hs
  | call _ _ => exact sound_execCall _ _ hs
  | bz _ _ => exact sound_execBz _ _ hs
  | bnz _ _ => exact sound_execBnz _ _ hs
  | multiplyResultWrite _ => exact sound_execMultiplyResultWrite _ hs
  | divideResultWrite _ => exact sound_execDivideResultWrite _ hs
  | postedStoreComplete _ => exact sound_execPostedStoreComplete _ hs
  | wfeComplete _ => exact sound_execWfeComplete _ hs
  | waittComplete _ => exact sound_execWaittComplete _ hs
  | irqEntry _ => exact sound_execIrqEntry _ hs
  | nmiEntry _ => exact sound_execNmiEntry _ hs
  | busGrant => exact sound_execBusGrant hs
  | registerWrite _ _ _ => exact sound_execRegisterWrite _ _ _ hs
  | mtLowRead _ => exact sound_execMtLowRead _ hs
  | counterLowRead _ _ => exact sound_execCounterLowRead _ _ hs
  | refclkQualified => exact sound_execRefclkQualified hs
  | qualificationFail => exact sound_execQualificationFail hs
  | lock => exact sound_execLock hs
  | lockFail => exact sound_execLockFail hs
  | referenceLoss => exact sound_execReferenceLoss hs
  | referenceLossSlateHold => exact sound_execReferenceLossSlateHold hs
  | clkSwitchWrite _ _ => exact sound_execClkSwitchWrite _ _ hs
  | clockSwitchComplete => exact sound_execClockSwitchComplete hs
  | divisorChange => exact sound_execDivisorChange hs
  | mtHandover => exact sound_execMtHandover hs
  | fabricCounterLoad => exact sound_execFabricCounterLoad hs
  | brownOut => exact sound_execBrownOut hs
  | stateEntry _ => exact sound_execStateEntry _ hs
  | entryCellsStopped => exact sound_execEntryCellsStopped hs
  | handshakeAsk _ => exact sound_execHandshakeAsk _ hs
  | handshakeTimeout => exact sound_execHandshakeTimeout hs
  | standingOrderEvaluation => exact sound_execStandingOrderEvaluation hs
  | voteSet _ _ => exact sound_execVoteSet _ _ hs
  | voteWithdraw _ _ => exact sound_execVoteWithdraw _ _ hs
  | domainRetentionEntry _ => exact sound_execDomainRetentionEntry _ hs
  | domainReady _ => exact sound_execDomainReady _ hs
  | plChange _ _ => exact sound_execPlChange _ _ hs
  | plChangeComplete => exact sound_execPlChangeComplete hs
  | wakeEvent _ => exact sound_execWakeEvent _ hs
  | wakeStep => exact sound_execWakeStep hs
  | wakeComplete => exact sound_execWakeComplete hs
  | padHoldRelease _ _ => exact sound_execPadHoldRelease _ _ hs
  | padWrite _ _ _ => exact sound_execPadWrite _ _ _ hs
  | busClaim _ _ => exact sound_execBusClaim _ _ hs
  | busRelease _ _ => exact sound_execBusRelease _ _ hs
  | busQuery _ _ => exact sound_execBusQuery _ _ hs
  | conversionEnd _ _ => exact sound_execConversionEnd _ _ hs
  | rippleLockTimeout _ => exact sound_execRippleLockTimeout _ hs
  | fastPathComplete _ => exact sound_execFastPathComplete _ hs
  | forwardJobStart _ => exact sound_execForwardJobStart _ hs
  | forwardJobEnd _ => exact sound_execForwardJobEnd _ hs
  | inverseJobStart _ => exact sound_execInverseJobStart _ hs
  | inverseJobEnd _ => exact sound_execInverseJobEnd _ hs
  | cellEnable _ _ => exact sound_execCellEnable _ _ hs
  | cellDisable _ _ => exact sound_execCellDisable _ _ hs
  | cellStandby _ _ _ => exact sound_execCellStandby _ _ _ hs
  | periodBoundary _ => exact sound_execPeriodBoundary _ hs
  | commit _ _ => exact sound_execCommit _ _ hs
  | commitAck _ _ => exact sound_execCommitAck _ _ hs
  | commitCheckComplete _ => exact sound_execCommitCheckComplete _ hs
  | bankCopyComplete _ => exact sound_execBankCopyComplete _ hs
  | stagingWrite _ _ _ _ => exact sound_execStagingWrite _ _ _ _ hs
  | sequencerStart _ _ => exact sound_execSequencerStart _ _ hs
  | sequencerStop _ _ => exact sound_execSequencerStop _ _ hs
  | sequencerHalt _ => exact sound_execSequencerHalt _ hs
  | edgeFire _ => exact sound_execEdgeFire _ hs
  | deadTimeEnd _ _ => exact sound_execDeadTimeEnd _ _ hs
  | minPulseEnd _ => exact sound_execMinPulseEnd _ hs
  | swdutyWrite _ _ _ => exact sound_execSwdutyWrite _ _ _ hs
  | channelEnable _ _ => exact sound_execChannelEnable _ _ hs
  | channelDisable _ _ => exact sound_execChannelDisable _ _ hs
  | calibrationSettled _ => exact sound_execCalibrationSettled _ hs
  | adcTrigger _ _ => exact sound_execAdcTrigger _ _ hs
  | adcSoftwareTrigger _ _ _ => exact sound_execAdcSoftwareTrigger _ _ _ hs
  | samplingInstant _ => exact sound_execSamplingInstant _ hs
  | referenceSettled => exact sound_execReferenceSettled hs
  | comparatorChange _ _ => exact sound_execComparatorChange _ _ hs
  | blankingEnd _ => exact sound_execBlankingEnd _ hs
  | protTripClear _ _ => exact sound_execProtTripClear _ _ hs
  | protEntryEnable _ _ _ => exact sound_execProtEntryEnable _ _ _ hs
  | protLock _ _ => exact sound_execProtLock _ _ hs
  | positionEdge _ _ => exact sound_execPositionEdge _ _ hs
  | speedTimeout _ => exact sound_execSpeedTimeout _ hs
  | ssiFrameStart _ _ => exact sound_execSsiFrameStart _ _ hs
  | ssiFrameEnd _ _ => exact sound_execSsiFrameEnd _ _ hs
  | turnsClear _ _ _ => exact sound_execTurnsClear _ _ _ hs
  | posCtrlWrite _ _ _ => exact sound_execPosCtrlWrite _ _ _ hs
  | emuStep _ => exact sound_execEmuStep _ hs
  | policyTick _ => exact sound_execPolicyTick _ hs
  | dcClassify _ _ _ => exact sound_execDcClassify _ _ _ hs
  | dcInputRemoved => exact sound_execDcInputRemoved hs
  | mpptStep _ => exact sound_execMpptStep _ hs
  | openCircuitMeasure _ => exact sound_execOpenCircuitMeasure _ hs
  | generatorClimb _ => exact sound_execGeneratorClimb _ hs
  | generatorSpeedLost => exact sound_execGeneratorSpeedLost hs
  | batteryPoll _ => exact sound_execBatteryPoll _ hs
  | chargeDoneTimeout => exact sound_execChargeDoneTimeout hs
  | preChargeTimeout => exact sound_execPreChargeTimeout hs
  | socReset _ => exact sound_execSocReset _ hs
  | pdAttach _ _ => exact sound_execPdAttach _ _ hs
  | pdDetach _ => exact sound_execPdDetach _ hs
  | sourceCapabilities _ _ => exact sound_execSourceCapabilities _ _ hs
  | discoverSvids _ => exact sound_execDiscoverSvids _ hs
  | discoverModes _ => exact sound_execDiscoverModes _ hs
  | unsupportedPdMessage _ => exact sound_execUnsupportedPdMessage _ hs
  | prSwap _ => exact sound_execPrSwap _ hs
  | drSwap _ => exact sound_execDrSwap _ hs
  | vconnSwap _ => exact sound_execVconnSwap _ hs
  | hardReset _ => exact sound_execHardReset _ hs
  | fixTrig _ => exact sound_execFixTrig _ hs
  | fixHost _ => exact sound_execFixHost _ hs
  | fixPeriodic => exact sound_execFixPeriodic hs
  | fixComplete => exact sound_execFixComplete hs
  | fixOpen _ => exact sound_execFixOpen _ hs
  | fixClose _ _ => exact sound_execFixClose _ _ hs
  | logRecordWrite => exact sound_execLogRecordWrite hs
  | logSwrec _ _ => exact sound_execLogSwrec _ _ hs
  | traceArm _ _ => exact sound_execTraceArm _ _ hs
  | traceDisarm _ _ => exact sound_execTraceDisarm _ _ hs
  | traceSoftwareTrigger _ => exact sound_execTraceSoftwareTrigger _ hs
  | traceSample => exact sound_execTraceSample hs
  | sxtSubmitInteractive _ _ => exact sound_execSxtSubmitInteractive _ _ hs
  | sxtSubmitBulk _ _ => exact sound_execSxtSubmitBulk _ _ hs
  | sxtDoneRead _ _ => exact sound_execSxtDoneRead _ _ hs
  | sxtAdd => exact sound_execSxtAdd hs
  | sxtSub => exact sound_execSxtSub hs
  | sxtMul => exact sound_execSxtMul hs
  | sxtDiv => exact sound_execSxtDiv hs
  | sxtRem => exact sound_execSxtRem hs
  | sxtSqrt => exact sound_execSxtSqrt hs
  | sxtSqr => exact sound_execSxtSqr hs
  | sxtPow => exact sound_execSxtPow hs
  | sxtExp => exact sound_execSxtExp hs
  | sxtLn => exact sound_execSxtLn hs
  | sxtExp10 => exact sound_execSxtExp10 hs
  | sxtLog10 => exact sound_execSxtLog10 hs
  | sxtSin => exact sound_execSxtSin hs
  | sxtCos => exact sound_execSxtCos hs
  | sxtTan => exact sound_execSxtTan hs
  | sxtAsin => exact sound_execSxtAsin hs
  | sxtAcos => exact sound_execSxtAcos hs
  | sxtAtan => exact sound_execSxtAtan hs
  | sxtAtan2 => exact sound_execSxtAtan2 hs
  | sxtSinh => exact sound_execSxtSinh hs
  | sxtCosh => exact sound_execSxtCosh hs
  | sxtTanh => exact sound_execSxtTanh hs
  | sxtAsinh => exact sound_execSxtAsinh hs
  | sxtAcosh => exact sound_execSxtAcosh hs
  | sxtAtanh => exact sound_execSxtAtanh hs
  | sxtFact => exact sound_execSxtFact hs
  | sxtNcr => exact sound_execSxtNcr hs
  | sxtNpr => exact sound_execSxtNpr hs
  | fromInt40 => exact sound_execFromInt40 hs
  | toInt40 => exact sound_execToInt40 hs
  | integral => exact sound_execIntegral hs
  | toRad => exact sound_execToRad hs
  | fromRad => exact sound_execFromRad hs
  | statClr => exact sound_execStatClr hs
  | statAdd => exact sound_execStatAdd hs
  | statDel => exact sound_execStatDel hs
  | statMean => exact sound_execStatMean hs
  | statSdev => exact sound_execStatSdev hs
  | statPsdev => exact sound_execStatPsdev hs
  | statLinreg => exact sound_execStatLinreg hs
  | statEstY => exact sound_execStatEstY hs
  | statEstX => exact sound_execStatEstX hs
  | badop => exact sound_execBadop hs
  | microNano _ _ _ => exact sound_execMicroNano _ _ _ hs
  | microJump _ => exact sound_execMicroJump _ hs
  | microCall _ => exact sound_execMicroCall _ hs
  | microReturn _ => exact sound_execMicroReturn _ hs
  | microDispatch _ _ _ => exact sound_execMicroDispatch _ _ _ hs
  | microBranch _ => exact sound_execMicroBranch _ hs
  | microLit _ => exact sound_execMicroLit _ hs
  | microSafe _ => exact sound_execMicroSafe _ hs
  | microEnd _ => exact sound_execMicroEnd _ hs
  | horizontalWord _ _ _ => exact sound_execHorizontalWord _ _ _ hs
  | bulkResume _ => exact sound_execBulkResume _ hs
  | mchkReread _ => exact sound_execMchkReread _ hs
  | sxtSelftest _ _ => exact sound_execSxtSelftest _ _ hs
  | patchHold _ => exact sound_execPatchHold _ hs
  | patchRelease _ => exact sound_execPatchRelease _ hs
  | patchData _ _ => exact sound_execPatchData _ _ hs
  | calcClear _ => exact sound_execCalcClear _ hs
  | calcDigit _ => exact sound_execCalcDigit _ hs
  | calcDecimalPoint => exact sound_execCalcDecimalPoint hs
  | calcExp => exact sound_execCalcExp hs
  | calcSign => exact sound_execCalcSign hs
  | calcDel => exact sound_execCalcDel hs
  | calcC => exact sound_execCalcC hs
  | calcAc => exact sound_execCalcAc hs
  | calcPlus => exact sound_execCalcPlus hs
  | calcMinus => exact sound_execCalcMinus hs
  | calcTimes => exact sound_execCalcTimes hs
  | calcDivide => exact sound_execCalcDivide hs
  | calcYPowX => exact sound_execCalcYPowX hs
  | calcNcr => exact sound_execCalcNcr hs
  | calcNpr => exact sound_execCalcNpr hs
  | calcOpenParen => exact sound_execCalcOpenParen hs
  | calcCloseParen => exact sound_execCalcCloseParen hs
  | calcEquals => exact sound_execCalcEquals hs
  | calcAns => exact sound_execCalcAns hs
  | calcSto => exact sound_execCalcSto hs
  | calcRcl => exact sound_execCalcRcl hs
  | calcMPlus => exact sound_execCalcMPlus hs
  | calc2nd => exact sound_execCalc2nd hs
  | calcUnary _ => exact sound_execCalcUnary _ hs
  | calcSigmaPlus => exact sound_execCalcSigmaPlus hs
  | calcSigmaMinus => exact sound_execCalcSigmaMinus hs
  | calcXySeparator => exact sound_execCalcXySeparator hs
  | calcMean => exact sound_execCalcMean hs
  | calcSdev => exact sound_execCalcSdev hs
  | calcPsdev => exact sound_execCalcPsdev hs
  | calcRegression => exact sound_execCalcRegression hs
  | calcYHat => exact sound_execCalcYHat hs
  | calcXHat => exact sound_execCalcXHat hs
  | calcClearStats => exact sound_execCalcClearStats hs
  | calcAngleUnit => exact sound_execCalcAngleUnit hs
  | calcHistoryBack => exact sound_execCalcHistoryBack hs
  | calcHistoryForward => exact sound_execCalcHistoryForward hs
  | calcScroll => exact sound_execCalcScroll hs
  | calcBase => exact sound_execCalcBase hs
  | calcReciprocal => exact sound_execCalcReciprocal hs
  | scanStart => exact sound_execScanStart hs
  | scanEnd _ => exact sound_execScanEnd _ hs
  | unlockTimeout => exact sound_execUnlockTimeout hs
  | keyFifoRead _ _ => exact sound_execKeyFifoRead _ _ hs
  | lockSet _ _ _ => exact sound_execLockSet _ _ _ hs
  | cupolaFrame => exact sound_execCupolaFrame hs
  | pumpOkChange _ => exact sound_execPumpOkChange _ hs
  | hostWrite _ _ => exact sound_execHostWrite _ _ hs
  | hostRead _ => exact sound_execHostRead _ hs
  | frameAbort => exact sound_execFrameAbort hs
  | txDataWrite _ => exact sound_execTxDataWrite _ hs
  | rxDataRead => exact sound_execRxDataRead hs
  | txFlush => exact sound_execTxFlush hs
  | rxFlush => exact sound_execRxFlush hs
  | ring _ => exact sound_execRing _ hs
  | hostifTxRead _ => exact sound_execHostifTxRead _ hs
  | hostifRxWrite _ => exact sound_execHostifRxWrite _ hs
  | dmsgWrite _ _ => exact sound_execDmsgWrite _ _ hs
  | dmaStart _ _ => exact sound_execDmaStart _ _ hs
  | hello _ => exact sound_execHello _ hs
  | read _ => exact sound_execRead _ hs
  | write _ => exact sound_execWrite _ hs
  | claim _ => exact sound_execClaim _ hs
  | release _ => exact sound_execRelease _ hs
  | state _ => exact sound_execState _ hs
  | protQuery _ => exact sound_execProtQuery _ hs
  | batteryQuery _ => exact sound_execBatteryQuery _ hs
  | imageInfo _ => exact sound_execImageInfo _ hs
  | resume _ => exact sound_execResume _ hs
  | keyConfig _ => exact sound_execKeyConfig _ hs
  | cellLoad _ => exact sound_execCellLoad _ hs
  | cellCommit _ => exact sound_execCellCommit _ hs
  | fix _ => exact sound_execFix _ hs
  | fixRead _ => exact sound_execFixRead _ hs
  | logArm _ => exact sound_execLogArm _ hs
  | logRead _ => exact sound_execLogRead _ hs
  | standingOrder _ => exact sound_execStandingOrder _ hs
  | voteQuery _ => exact sound_execVoteQuery _ hs
  | policySet _ => exact sound_execPolicySet _ hs
  | policyQuery _ => exact sound_execPolicyQuery _ hs
  | sxtEval _ => exact sound_execSxtEval _ hs
  | sxtResult _ => exact sound_execSxtResult _ hs
  | moduleList _ => exact sound_execModuleList _ hs
  | moduleQuery _ => exact sound_execModuleQuery _ hs
  | almanacSave _ => exact sound_execAlmanacSave _ hs
  | almanacLoad _ => exact sound_execAlmanacLoad _ hs
  | pdStatus _ => exact sound_execPdStatus _ hs
  | pdRequest _ _ => exact sound_execPdRequest _ _ hs
  | presenceAccepted _ => exact sound_execPresenceAccepted _ hs
  | absenceAccepted _ => exact sound_execAbsenceAccepted _ hs
  | tlPenWrite _ _ => exact sound_execTlPenWrite _ _ hs
  | readDesc _ _ _ => exact sound_execReadDesc _ _ _ hs
  | setVersion _ _ => exact sound_execSetVersion _ _ hs
  | setAddress _ _ => exact sound_execSetAddress _ _ hs
  | tlRead _ _ _ => exact sound_execTlRead _ _ _ hs
  | tlWrite _ _ _ => exact sound_execTlWrite _ _ _ hs
  | moduleStatus _ => exact sound_execModuleStatus _ hs
  | tlAnswer _ _ _ => exact sound_execTlAnswer _ _ _ hs
  | tlTimeout => exact sound_execTlTimeout hs
  | tlRetry => exact sound_execTlRetry hs
  | slotDiscovery _ => exact sound_execSlotDiscovery _ hs
  | descriptorPoll => exact sound_execDescriptorPoll hs
  | slotRelease _ => exact sound_execSlotRelease _ hs
  | coldReset => exact sound_execColdReset hs
  | pinReset => exact sound_execPinReset hs
  | lockupReset => exact sound_execLockupReset hs
  | sysreset => exact sound_execSysreset hs
  | softReset _ _ => exact sound_execSoftReset _ _ hs
  | resetRelease => exact sound_execResetRelease hs
  | bootSequence => exact sound_execBootSequence hs
  | flashContainerRead _ _ => exact sound_execFlashContainerRead _ _ hs
  | imageHandover => exact sound_execImageHandover hs
  | otpAddrWrite _ _ => exact sound_execOtpAddrWrite _ _ hs
  | otpProg a v => exact (hi a v rfl).elim
  | powerOff => exact sound_execPowerOff hs
  | vdda33Crossing _ => exact sound_execVdda33Crossing _ hs
  | unsupportedPacket _ => exact sound_execUnsupportedPacket _ hs
  | lockPacket _ => exact sound_execLockPacket _ hs
  | discoverIdentity _ _ _ => exact sound_execDiscoverIdentity _ _ _ hs
  | partnerRequest _ _ _ _ => exact sound_execPartnerRequest _ _ _ _ hs

end Sys2Proof.Machine
end

