-- ==== Sys2Proof/Tests/Slice0.lean ====
section
/-! SUPPORT. Smoke tests: an ill-formed term for each check of WellFormed, states that meet the hypotheses of the
statements, and single steps against the worked examples of spec/. -/
namespace Sys2Proof.Tests

set_option Elab.async false

open Sys2Proof.Machine

/-- The state that a command answers; the one it was given where it does not answer a next state. -/
def after (r : Result) (s : State) : State := match r with | .next t => t | _ => s

/-- Command i answers a next state of which f holds. -/
def steps (i : Instr) (s : State) (f : State → Bool) : Bool := match exec i s with | .next t => f t | _ => false

/-- Helm0 about to issue at 0x01000 with its stack in RAM. -/
def helm : State := State.reset.modProc 0 fun k => { k with pc := 0x01000#20, g := vset k.g 15 0x2F800#20 }

/-- The sequencer of C0 about to issue at the start of its cell memory. -/
def cell : State := State.reset.modProc 2 fun k => { k with pc := 0x40000#20, run := .running, g := vset k.g 15 0x40700#20 }

def p0 : ProcId := 0
def pc0 : ProcId := 2
def sf (rd rs : BitVec 4) (sub : BitVec 3) : ShortF := { cond := 0, rd := rd, rs := rs, sub := sub }
def lf (rd rs : BitVec 4) (w2 : Word) : LongF := { cond := 0, rd := rd, rs := rs, w2 := w2 }

/-- None of the terms is well formed. -/
def refused (is : List Instr) : Bool := is.all fun i => !wellFormed i

theorem test_illformed_sub_not_zero :
    refused [.mov p0 (sf 1 2 1), .add p0 (sf 1 2 1), .sub p0 (sf 1 2 1), .and p0 (sf 1 2 1), .or p0 (sf 1 2 1),
      .xor p0 (sf 1 2 1), .not p0 (sf 1 2 1), .neg p0 (sf 1 2 1), .cmp pc0 (sf 1 2 1), .tst pc0 (sf 1 2 1)] = true := by
  decide

theorem test_illformed_rs_not_zero :
    refused [.addi p0 (sf 1 2 1), .subi p0 (sf 1 2 1), .ldi p0 (lf 1 2 5), .cmpi pc0 (lf 1 2 5)] = true := by decide

theorem test_illformed_sub_of_another_row :
    refused [.shl p0 (sf 1 2 1), .shr p0 (sf 1 2 2), .sar p0 (sf 1 2 3), .mul p0 (sf 1 2 1), .mulu p0 (sf 1 2 0),
      .mac p0 (sf 1 2 7), .div p0 (sf 1 2 1), .divu p0 (sf 1 2 2), .mfs p0 (sf 1 2 1), .mts p0 (sf 1 2 2), .jr p0 (sf 0 2 1),
      .callr p0 (sf 0 2 4), .ret p0 (sf 0 0 0), .reti p0 (sf 0 0 5), .nop p0 (sf 0 0 5), .wfe p0 (sf 0 0 0),
      .sev p0 (sf 0 2 6), .waitt p0 (sf 0 2 7), .trap p0 (sf 0 2 0)] = true := by decide

theorem test_illformed_dialect :
    refused [.cmp p0 (sf 1 2 0), .tst p0 (sf 1 2 0), .cmpi p0 (lf 1 0 5), .div pc0 (sf 1 2 0), .divu pc0 (sf 1 2 1),
      .reti pc0 (sf 0 0 3), .trap pc0 (sf 0 2 4), .mfs pc0 (sf 1 5 0), .mts pc0 (sf 5 1 1)] = true := by decide

theorem test_illformed_special_register :
    refused [.mfs p0 (sf 1 7 0), .mfs p0 (sf 1 15 0), .mts p0 (sf 0 1 1), .mts p0 (sf 6 1 1), .mts p0 (sf 15 1 1)] = true := by decide

theorem test_illformed_fixed_fields :
    refused [.jr p0 (sf 1 2 0), .callr p0 (sf 1 2 1), .ret p0 (sf 1 0 2), .ret p0 (sf 0 1 2), .reti p0 (sf 1 0 3),
      .reti p0 (sf 0 1 3), .nop p0 (sf 1 0 0), .nop p0 (sf 0 1 0), .wfe p0 (sf 1 0 1), .wfe p0 (sf 0 1 1), .sev p0 (sf 1 2 2),
      .waitt p0 (sf 1 2 3), .trap p0 (sf 1 2 4), .jmp p0 (lf 1 0 5), .jmp p0 (lf 0 1 5), .call p0 (lf 1 0 5),
      .call p0 (lf 0 1 5), .bz p0 (lf 1 2 5), .bnz p0 (lf 1 2 5), .bz p0 (lf 0 2 0x10005), .bnz p0 (lf 0 2 0x10005)] = true := by
  decide

theorem test_illformed_odd_pair :
    refused [.sev p0 (sf 0 3 2), .waitt p0 (sf 0 3 3), .ldp p0 (lf 3 2 0), .stp p0 (lf 3 2 0), .ldpx p0 (lf 3 2 0),
      .stpx p0 (lf 3 2 0), .ldUpdate p0 (sf 3 2 1), .stUpdate p0 (sf 3 2 1)] = true := by decide

theorem test_illformed_update_sub :
    refused [.ldUpdate p0 (sf 4 2 4), .stUpdate p0 (sf 4 2 7)] = true := by decide

theorem test_illformed_second_word :
    refused [.add3 p0 (lf 1 2 1), .sub3 p0 (lf 1 2 1), .and3 p0 (lf 1 2 1), .or3 p0 (lf 1 2 1), .xor3 p0 (lf 1 2 1),
      .shl3 p0 (lf 1 2 1), .shr3 p0 (lf 1 2 1), .sar3 p0 (lf 1 2 1), .seq p0 (lf 1 2 1), .sne p0 (lf 1 2 1),
      .slt p0 (lf 1 2 1), .sltu p0 (lf 1 2 1), .carry p0 (lf 1 2 1), .snegov p0 (lf 1 2 0x10000), .addi16 p0 (lf 1 2 0x10001),
      .andi p0 (lf 1 2 0x10001), .ori p0 (lf 1 2 0x10001), .xori p0 (lf 1 2 0x10001), .shli p0 (lf 1 2 0x10001),
      .shri p0 (lf 1 2 0x10001), .sari p0 (lf 1 2 0x10001), .cmpi pc0 (lf 1 0 0x10001), .ldx p0 (lf 1 2 4),
      .stx p0 (lf 1 2 4), .ldpx p0 (lf 2 2 4), .stpx p0 (lf 2 2 4)] = true := by decide

theorem test_illformed_shift_count :
    refused [.shli p0 (lf 1 2 20), .shri p0 (lf 1 2 20), .sari p0 (lf 1 2 20)] = true := by decide

theorem test_illformed_helm_condition :
    refused [.mov p0 { cond := 1, rd := 1, rs := 2, sub := 0 }, .ldi p0 { cond := 7, rd := 1, rs := 0, w2 := 5 },
      .ld p0 { cond := 1, rd := 1, rs := 2, sub := 0 }] = true := by decide

theorem test_wellformed_terms :
    [Instr.mov p0 (sf 1 2 0), .mov pc0 { cond := 7, rd := 1, rs := 2, sub := 0 }, .shli p0 (lf 1 2 19), .sar p0 (sf 1 2 2),
      .mts p0 (sf 5 1 1), .ldUpdate p0 (sf 4 2 3), .trap p0 (sf 0 15 4), .coldReset].all wellFormed = true := by decide

/-- s with the words of instruction i at the PC of its processor. -/
def placed (i : Instr) (s : State) : State :=
  match form i with
  | some x => s.wrMemN (s.pcOf x.proc.1).toNat x.words
  | none => s

/-- The fetch at the PC lies in Helm SRAM or boot ROM, or is a sequencer's. -/
def fetchNear (p : Nat) (s : State) : Bool := isCell p || (!fetchFar (s.pcOf p) && !fetchFar (s.pcOf p + 1))

theorem fetchQuiet_of_near (p : Nat) (s : State) (h : fetchNear p s = true) : fetchQuiet p s := by
  intro hc
  simp only [fetchNear, hc, Bool.false_or, Bool.and_eq_true, Bool.not_eq_true'] at h
  have h2 : fetchFar (s.pcOf p + 1#20) = false := h.2
  simp [fetchTurn, fetchGrant, h.1, h2]

theorem fetchParity_clean (p : Nat) (s : State) (h : s.badParity = []) : fetchParity p s = s := by
  simp [fetchParity, parityChecked, h]

/-- What Issues asks beside the encoding, as a check that can be evaluated. -/
def fetchCheck (x : Form) (s : State) : Bool :=
  mayIssue x.proc.1 s && fetchNear x.proc.1 s && (fetchFails x.proc.1 s).isNone && s.badParity.isEmpty &&
    (s.proc x.proc.1).posted.isEmpty

/-- What Ready asks of an instruction, as a check. -/
def readyCheck (x : Form) (s : State) : Bool :=
  x.defined && coded x.proc.1 x.words s && fetchCheck x s &&
    (if isCell x.proc.1 then condHolds x.cond (s.proc x.proc.1).status else (irqCandidate x.proc.1 s).isNone)

theorem ready_of_check (i : Instr) (s : State)
    (h : (match form i with | some x => readyCheck x s | none => false) = true) : Ready i s := by
  split at h
  · next x hx =>
    simp only [readyCheck, fetchCheck, Bool.and_eq_true, List.isEmpty_iff, Option.isNone_iff_eq_none] at h
    obtain ⟨⟨⟨hd, hw⟩, ⟨⟨⟨hm, hn⟩, hf⟩, hp⟩, hq⟩, hl⟩ := h
    refine ⟨x, hx, ⟨hd, hm, hw, fetchQuiet_of_near _ _ hn, hf, fetchParity_clean _ _ hp, fun _ => hq⟩, fun hc => ?_, fun hc => ?_⟩
    · simpa [hc] using hl
    · simpa [hc] using hl
  · cases h

/-- Every instruction of the list is ready where its words lie at the PC of s. -/
def allReady (is : List Instr) (s : State) : Bool :=
  is.all fun i => match form i with | some x => readyCheck x (placed i s) | none => false

theorem ready_of_all (is : List Instr) (s : State) (h : allReady is s = true) : ∀ i ∈ is, Ready i (placed i s) :=
  fun i hi => ready_of_check i _ (List.all_eq_true.mp h i hi)

/-- Words of the short form written out from the tables of 06 and 07: ADD g1, g2; LD g3, [g4 + 5]; SAR g1, g2 where Z is set
(a cell's); RET; TRAP #7. -/
theorem test_short_words :
    (form (.add p0 (sf 1 2 0))).map (·.words) = some [0b000_0_00010_0001_0010_000#20] ∧
      (form (.ld p0 (sf 3 4 5))).map (·.words) = some [0b000_0_01110_0011_0100_101#20] ∧
      (form (.sar pc0 { cond := 1, rd := 1, rs := 2, sub := 2 })).map (·.words) = some [0b001_0_01011_0001_0010_010#20] ∧
      (form (.ret p0 (sf 0 0 2))).map (·.words) = some [0b000_0_10101_0000_0000_010#20] ∧
      (form (.trap p0 (sf 0 7 4))).map (·.words) = some [0b000_0_10110_0000_0111_100#20] := by decide

/-- Words of the long form: XOR g1, g2, g3; ADDI g1, g2, #-1; LDI g5, #0x12345; LDX g1, [g2 + g3<<2]; CALL #0x02000; BNZ g2, #-2. -/
theorem test_long_words :
    (form (.xor3 p0 (lf 1 2 0x30000))).map (·.words) = some [0b000_1_00000101_0001_0010#20, 0b0011_0000000000000000#20] ∧
      (form (.addi16 p0 (lf 1 2 0x0FFFF))).map (·.words) = some [0b000_1_00010000_0001_0010#20, 0b0000_1111111111111111#20] ∧
      (form (.ldi p0 (lf 5 0 0x12345))).map (·.words) = some [0b000_1_00011000_0101_0000#20, 0x12345#20] ∧
      (form (.ldx p0 (lf 1 2 0x30002))).map (·.words) = some [0b000_1_00110100_0001_0010#20, 0b0011_0000000000000010#20] ∧
      (form (.call p0 (lf 0 0 0x02000))).map (·.words) = some [0b000_1_01000001_0000_0000#20, 0x02000#20] ∧
      (form (.bnz p0 (lf 0 2 0x0FFFE))).map (·.words) = some [0b000_1_01000011_0000_0010#20, 0b0000_1111111111111110#20] := by
  decide

/-- The instructions that both dialects share, as processor p would issue them. -/
def common (p : ProcId) : List Instr :=
  [.mov p (sf 1 2 0), .add p (sf 1 2 0), .sub p (sf 1 2 0), .and p (sf 1 2 0), .or p (sf 1 2 0), .xor p (sf 1 2 0),
    .not p (sf 1 2 0), .neg p (sf 1 2 0), .addi p (sf 1 0 7), .subi p (sf 1 0 7), .shl p (sf 1 2 0), .shr p (sf 1 2 1),
    .sar p (sf 1 2 2), .mfs p (sf 1 2 0), .mts p (sf 2 1 1), .ld p (sf 1 2 3), .st p (sf 1 2 3), .mul p (sf 1 2 0),
    .mulu p (sf 1 2 1), .mac p (sf 1 2 2), .jr p (sf 0 2 0), .callr p (sf 0 2 1), .ret p (sf 0 0 2), .nop p (sf 0 0 0),
    .wfe p (sf 0 0 1), .sev p (sf 0 2 2), .waitt p (sf 0 2 3)] ++
  [.ldUpdate p (sf 4 2 0), .ldUpdate p (sf 4 2 1), .ldUpdate p (sf 4 2 2), .ldUpdate p (sf 4 2 3), .ldUpdate p (sf 2 2 0),
    .ldUpdate p (sf 2 2 1), .ldUpdate p (sf 2 2 2), .ldUpdate p (sf 2 2 3), .stUpdate p (sf 4 2 0), .stUpdate p (sf 4 2 1),
    .stUpdate p (sf 4 2 2), .stUpdate p (sf 4 2 3), .ldUpdate p (sf 4 15 0), .stUpdate p (sf 4 15 3)] ++
  [.add3 p (lf 1 2 0x30000), .sub3 p (lf 1 2 0x30000), .and3 p (lf 1 2 0x30000), .or3 p (lf 1 2 0x30000),
    .xor3 p (lf 1 2 0x30000), .shl3 p (lf 1 2 0x30000), .shr3 p (lf 1 2 0x30000), .sar3 p (lf 1 2 0x30000),
    .addi16 p (lf 1 2 0xFFFF), .andi p (lf 1 2 0xFFFF), .ori p (lf 1 2 0xFFFF), .xori p (lf 1 2 0xFFFF), .shli p (lf 1 2 19),
    .shri p (lf 1 2 19), .sari p (lf 1 2 19), .ldi p (lf 1 0 0xFFFFF), .seq p (lf 1 2 0x30000), .sne p (lf 1 2 0x30000),
    .slt p (lf 1 2 0x30000), .sltu p (lf 1 2 0x30000), .carry p (lf 1 2 0x30000), .snegov p (lf 1 2 0)] ++
  [.ld20 p (lf 1 2 5), .st20 p (lf 1 2 5), .ldp p (lf 4 2 5), .stp p (lf 4 2 5), .ldx p (lf 1 2 0x30003),
    .stx p (lf 1 2 0x30003), .ldpx p (lf 4 2 0x30003), .stpx p (lf 4 2 0x30003), .jmp p (lf 0 0 0x02000),
    .call p (lf 0 0 0x02000), .bz p (lf 0 2 0xFFFE), .bnz p (lf 0 2 0xFFFE)]

def helmOnly : List Instr := [.div p0 (sf 1 2 0), .divu p0 (sf 1 2 1), .reti p0 (sf 0 0 3), .trap p0 (sf 0 15 4)]

def cellOnly : List Instr :=
  [.cmp pc0 (sf 1 2 0), .tst pc0 (sf 1 2 0), .cmpi pc0 (lf 1 0 5), .neg pc0 { cond := 2, rd := 1, rs := 2, sub := 0 }]

theorem test_ready_on_helm : ∀ i ∈ common p0 ++ helmOnly, Ready i (placed i helm) := ready_of_all _ _ (by decide +kernel)

theorem test_ready_on_cell : ∀ i ∈ common pc0 ++ cellOnly, Ready i (placed i cell) := ready_of_all _ _ (by decide +kernel)

/-- A processor may take up ill-formed encodings (UndefinedEncodingsRaiseUndef, HelmTakesAlAndCellsHaveNoDivider). -/
theorem test_reached (i : Instr) (x : Form) (s : State) (h : form i = some x)
    (hc : ((x.own || x.reserved) && issuesHere x.proc.1 x.words s && fetchCheck x s) = true) : form i = some x ∧ Reached x s := by
  simp only [fetchCheck, Bool.and_eq_true, List.isEmpty_iff, Option.isNone_iff_eq_none] at hc
  obtain ⟨⟨ho, hi⟩, ⟨⟨⟨hm, hn⟩, hf⟩, hp⟩, hq⟩ := hc
  exact ⟨h, hm, ho, hi, fetchQuiet_of_near _ _ hn, hf, fetchParity_clean _ _ hp, hq⟩

theorem test_reached_reserved_sub :
    ∃ x, (form (.nop p0 (sf 0 0 7)) = some x ∧ Reached x (placed (.nop p0 (sf 0 0 7)) helm)) ∧ x.defined = false :=
  ⟨_, test_reached _ _ _ rfl (by decide +kernel), rfl⟩

/-- A word of an op that no instruction has, short op 0x00 and long op 0x44 (R130, R131), whichever row comes. -/
theorem test_reached_undefined_op :
    (∃ x, (form (.nop p0 (sf 0 0 0)) = some x ∧ Reached x helm) ∧ coded x.proc.1 x.words helm = false) ∧
      ∃ x, (form (.nop pc0 (sf 0 0 0)) = some x ∧ Reached x (cell.wrMem 0x40000 0x14400)) ∧
        coded x.proc.1 x.words (cell.wrMem 0x40000 0x14400) = false :=
  ⟨⟨_, test_reached _ _ _ rfl (by decide +kernel), by decide +kernel⟩, ⟨_, test_reached _ _ _ rfl (by decide +kernel), by decide +kernel⟩⟩

theorem test_reached_helm_condition :
    ∃ x, (form (.mov p0 { cond := 1, rd := 1, rs := 2, sub := 0 }) = some x ∧
      Reached x (placed (.mov p0 { cond := 1, rd := 1, rs := 2, sub := 0 }) helm)) ∧ x.cond ≠ 0 ∧ isCell x.proc.1 = false :=
  ⟨_, test_reached _ _ _ rfl (by decide +kernel), by decide, rfl⟩

theorem test_reached_cell_divide :
    (∃ x, form (.div pc0 (sf 1 2 0)) = some x ∧ Reached x (placed (.div pc0 (sf 1 2 0)) cell)) ∧
      (∃ x, form (.divu pc0 (sf 1 2 1)) = some x ∧ Reached x (placed (.divu pc0 (sf 1 2 1)) cell)) :=
  ⟨⟨_, test_reached _ _ _ rfl (by decide +kernel)⟩, ⟨_, test_reached _ _ _ rfl (by decide +kernel)⟩⟩

/-- MOV where Z is set, at the PC of C0's sequencer with its flags clear. -/
def unmet : Instr := .mov pc0 { cond := 1, rd := 1, rs := 2, sub := 0 }

theorem test_condition_fails_on_cell :
    ∃ x, form unmet = some x ∧ Issues x (placed unmet cell) ∧
      condHolds x.cond ((placed unmet cell).proc x.proc.1).status = false := by
  refine ⟨_, rfl, ⟨rfl, by decide +kernel, by decide +kernel, fetchQuiet_of_near _ _ (by decide +kernel), by decide +kernel,
    fetchParity_clean _ _ (by decide +kernel), fun _ => by decide +kernel⟩, by decide +kernel⟩

theorem test_loads_and_stores_reach_memory :
    dataFault 0 0x02000 false helm = none ∧ dataFault 0 0x02001 false helm = none ∧ dataFault 0 0x2FFFF true helm = none ∧
      dataFault 0 0x3E000 false helm = some true ∧ dataFault 0 0x30000 true helm = some true ∧
      dataFault 0 0x30000 false helm = none ∧ dataFault 2 0x407FF true cell = none := by decide +kernel

/-- FABRIC without its counter and with no domain ready. -/
def dark : State := helm.wb 0x70800 10 false

theorem test_dark_access : dataFault 0 0x80000 false dark = some false := by decide +kernel

/-- Helm0 with a stack limit just below its stack pointer. -/
def limited : State := helm.modProc 0 fun k => { k with splim := 0x2F800#20 }

theorem test_stack_limit :
    belowLimit 0 0x2F7FF limited = true ∧ belowLimit 0 0x2F800 limited = false ∧ belowLimit 0 0x00000 helm = false ∧
      allReady [.mov p0 (sf 15 2 0), .callr p0 (sf 0 2 1), .call p0 (lf 0 0 5), .stUpdate p0 (sf 4 15 2)] limited = true := by
  decide +kernel

theorem test_exception_entry_in_ram :
    (helm.sp 0 - 1).toNat < 0x30000 ∧ (helm.sp 0 - 2).toNat < 0x30000 ∧ (helm.vbaseOf 0 + 2).toNat < 0x38000 ∧
      (helm.vbaseOf 0 + 95).toNat < 0x38000 ∧ helm.dom 4 = true ∧ belowLimit 0 (helm.sp 0 - 2) helm = false ∧
      helm.dead = false ∧ dmaReady helm = false := by decide +kernel

/-- No store waits for the bus in helm (ExceptionEntrySavesAndGoes). -/
theorem test_nobody_waits (r : Nat) : storeWaits r helm = false := by
  by_cases h : r < 34
  · exact (by decide +kernel : ∀ k : Fin 34, storeWaits k.1 helm = false) ⟨r, h⟩
  · simp [storeWaits, State.proc, vget, h, Proc.reset]

/-- C0's sequencer loads from an address out of its reach (FaultedAccessesAreRecorded). -/
theorem test_out_of_reach_load :
    (accessTurn 2 3 cell).dead = false ∧ reqFault 0 3 false (accessTurn 2 3 cell) = some true ∧ cell.cyc.accs = [] ∧
      helmStopped helm = false := by decide +kernel

/-- Helm0 with interrupts on and HOSTIF's line, enabled at level 3, asserted. -/
def asked : State :=
  (((helm.modProc 0 fun k => { k with status := 0x00080#20 }).wr (irqCfg 0 0) 0x0000B#20).wb 0x71004 19 true)

theorem test_irq_candidate :
    irqCandidate 0 asked = some 0 ∧ takesExceptions 0 asked = true ∧ nmiCandidate 0 asked = false ∧
      fetchFirst 0 asked = false := by decide +kernel

theorem test_nmi_candidate : nmiCandidate 0 (raiseNmi 0 helm) = true ∧ takesExceptions 0 (raiseNmi 0 helm) = true := by
  decide +kernel

theorem test_posted_store :
    ((helm.modProc 0 fun k => { k with posted := [⟨0x02000, 5, true⟩] }).proc 0).posted = ⟨0x02000, 5, true⟩ :: [] ∧
      submitHeld 0x20 0x02000 helm = false := by
  decide +kernel

theorem test_results_due :
    ((after (exec (.mulu p0 (sf 1 2 1)) (placed (.mulu p0 (sf 1 2 1)) helm)) helm).proc 0).due.find? (fun x => isMul x.2) = some (1, .product 0) ∧
      ((after (exec (.divu p0 (sf 1 2 1)) (placed (.divu p0 (sf 1 2 1)) helm)) helm).proc 0).due.find? (fun x => !isMul x.2) =
        some (1, .quotient 0xFFFFF 0 true false) := by
  decide +kernel

theorem test_waiting_processors :
    waitsOn 0 helm = true ∧ eventBit 0 (helm.modProc 0 fun k => { k with event := true }) = true ∧ eventBit 0 helm = false ∧
      timeReached 0 helm = true ∧ waitsOn 2 cell = true := by decide +kernel

theorem runs_after (i : Instr) (s : State) (h : steps i s (fun _ => true) = true) : Runs i s (after (exec i s) s) := by
  unfold steps at h
  unfold Runs after
  split at h
  · next t ht => rw [ht]
  · cases h

/-- Instruction i runs in s with its words placed, to the state after it. -/
def runsPlaced (i : Instr) (s : State) : Prop := Runs i (placed i s) (after (exec i (placed i s)) (placed i s))

theorem test_frame_commands_run :
    runsPlaced (.add p0 (sf 1 2 0)) helm ∧ runsPlaced (.st p0 (sf 1 15 3)) helm ∧ runsPlaced (.stUpdate pc0 (sf 4 15 3)) cell ∧
      runsPlaced (.neg pc0 (sf 1 2 0)) cell :=
  ⟨runs_after _ _ (by decide +kernel), runs_after _ _ (by decide +kernel), runs_after _ _ (by decide +kernel),
    runs_after _ _ (by decide +kernel)⟩

/-- The state right after reset. -/
def s0 : State := State.reset

/-- s with pads owned by a block. -/
def pads (o : Nat) (ps : List Nat) (s : State) : State := ps.foldl (fun t p => t.setOwner 0 p o) s

/-- The device with the pads of HOSTIF, TL and PD, and those of a keyboard, owned by their blocks. -/
def s1 : State :=
  pads 0x35 [226, 227, 228, 229] (pads 0x36 [233, 241] (pads 0x37 [250, 251, 252, 253, 254, 255] s0))

/-- Requester q's accesses to the addresses are admitted in s. -/
def admits (q : Req) (write : Bool) (as : List Nat) (s : State) : Bool :=
  !s.dead && as.all fun a => decide (reqFault q.toNat a write s = none)

theorem admitted_of (q : Req) (write : Bool) (as : List Nat) (s : State) (h : admits q write as s = true) :
    ∀ a ∈ as, Admitted q a write s := by
  simp only [admits, Bool.and_eq_true, Bool.not_eq_true', List.all_eq_true, decide_eq_true_eq] at h
  exact fun a ha => ⟨h.1, h.2 a ha⟩

theorem test_admitted_writes :
    ∀ a ∈ [0x40000, 0xFFFFF, 0x70820, padReg 0, padReg 284, 0x70C00, 0x70401, 0x70804, 0x70802, 0x70805, 0x70002, 0x70004] ++
      [cellBase 0, cellBase 31, cellBase 31 + 0xC, cellBase 0 + 0xB, cellBase 0 + 0x100, cellBase 31 + 0x17F, cellBase 5 + 7,
        chanBase 0 + 8, chanBase 31, adcBase 3 + 4, 0x72801, 0x72810, 0x72888, 0x72800, posBase 0, posBase 2 + 0xA] ++
      [0x74000, 0x74005, 0x7E00C, 0x7E01A, 0x72001, 0x72002, 0x72008, 0x72011, 0x72013, 0x71822, 0x71001, 0x71004, 0x71006,
        0x71402, 0x70407, 0x707FF, cellBase 0 + 0x14, cellBase 0 + 0x1F, cellBase 31 + 0x2A, cellBase 31 + 0xFF],
      Admitted 0x20#6 a true s0 := admitted_of _ _ _ _ (by decide +kernel)

theorem test_admitted_reads :
    ∀ a ∈ [0x30000, 0x74400, 0x74400 + 2 * 319, 0x74004, 0x72003, 0x72004, 0x71803, 0x71000, 0x70005, 0x70010, 0x70011, 0x70012,
      0x70407, 0x707FF, cellBase 0 + 0x14, cellBase 31 + 0xFF], Admitted 0x20#6 a false s0 :=
  admitted_of _ _ _ _ (by decide +kernel)

theorem test_other_requesters_admitted :
    (∀ a ∈ [0x72800, 0x72801, 0x72888, 0x72FFF, 0x70C00, 0x70010], Admitted 0x21#6 a true s0) ∧
      (∀ a ∈ [0x72800, 0x70C00], Admitted 0x23#6 a true s0) ∧ (∀ a ∈ [0x70010], Admitted 0x21#6 a false s0) :=
  ⟨admitted_of _ _ _ _ (by decide +kernel), admitted_of _ _ _ _ (by decide +kernel), admitted_of _ _ _ _ (by decide +kernel)⟩

theorem test_faulting_accesses :
    reqFault 0x20 0x3E000 true s0 = some true ∧ reqFault 0x20 0x80000 false dark = some false ∧
      reqFault 0 0x3E000 false s0 = some true := by decide +kernel

theorem test_running_device :
    s0.pwr.off = false ∧ s0.pwr.inReset = false ∧ s0.pstate = 0 ∧ s0.dom 1 = true ∧ s0.dom 2 = true ∧ s0.dom 3 = true ∧
      s0.dom 5 = true ∧ s0.fabric = true ∧ (s0.wb 0x70800 6 true).rb 0x70800 6 = true ∧ windowOn s1 = true ∧ pdRuns 2 s1 = true ∧ tlRuns s1 = true ∧
      tlLine s1 = true ∧
      booting s0 = true ∧ bootStage (s0.wf 0x70003 12 4 3) = 3 ∧ bootStage (s0.wf 0x70003 12 4 7) = 7 ∧
      s0.boot.entryPoints = none := by decide +kernel

theorem test_clock_hypotheses :
    (loopRuns (s0.wb 0x70400 6 false) = true ∧ clkRefOk (s0.wb 0x70400 6 false) = false) ∧
      (loopRuns (s0.wb 0x70400 5 false) = true ∧ clkRefOk (s0.wb 0x70400 5 false) = true ∧ clkLock (s0.wb 0x70400 5 false) = false) ∧
      clkLock s0 = true ∧ ((s0.wf 0x70800 17 3 2).pstate = 2 ∧ clkLock (s0.wf 0x70800 17 3 2) = true) ∧
      ((s0.wf 0x70800 17 3 3).pstate = 3 ∧ (s0.wf 0x70800 17 3 3).clk.frozen = false) ∧
      clkBusy (after (exec (.clkSwitchWrite 0x20 0x00000) s0) s0) = true ∧
      ((s0.mapClk fun c => { c with levelBusy := some (1, 2) }).clk.levelBusy = some (1, 2) ∧
        aligned (s0.mapClk fun c => { c with levelBusy := some (1, 2) }) = true) := by decide +kernel

/-- An entry to a target in progress at a step. -/
def entering (target step : Nat) (native : Bool) : State :=
  s0.mapPwr fun p => { p with entry := some ⟨target, step, native, 0, [], false, true⟩ }

/-- A wake from a state at its last step. -/
def waking (from_ : Nat) : State :=
  (s0.wf 0x70800 17 3 from_).mapPwr fun p => { p with wake := some ⟨from_, 1, 1, 0, 9, false, true⟩ }

theorem test_power_hypotheses :
    entryHandsOver (entering 2 6 true) = true ∧ entryReady (entering 1 3 true) = true ∧ asking (entering 2 3 false) = true ∧
      delaying (entering 2 3 false) = true ∧ atEdge (entering 2 6 true) = true ∧
      mayLoad (s0.mapClk fun c => { c with fabOn := false }) = true ∧ wakeDone (waking 1) = true ∧ (waking 3).pwr.wake.isSome = true ∧
      levelDone (s0.mapClk fun c => { c with levelBusy := some (0, 0) }) = true ∧ mayRelease (resetKeep 1 s0) = false ∧
      mayRelease ((resetKeep 1 s0).wb 0x70400 5 true) = true := by decide +kernel

/-- Standing order 3, enabled and met long enough. -/
def ordered : State := ((s0.wb 0x70837 19 true).wb 0x70800 6 true).mapPwr fun p => { p with dwell := vset p.dwell 3 1 }

theorem test_order_hypotheses :
    ordered.rb 0x70800 6 = true ∧ (List.range 8).find? (fun k => orderComplete k ordered) = some 3 := by decide +kernel

theorem test_domain_hypotheses :
    mayRetain 1 (s0.wr (voteReg 1) 0) = true ∧ mayRetain 2 (s0.mapClk fun c => { c with fabOn := false }) = true ∧
      mayReady 4 ((s0.wb 0x70800 10 false).wr (voteReg 4 + 1) 1) = true := by decide +kernel

/-- Both Helm cores in lockup. -/
def lockedUp : State :=
  (s0.modProc 0 fun k => { k with run := .lockup }).modProc 1 fun k => { k with run := .lockup }

theorem test_reset_hypotheses :
    ((lockedUp.proc 0).run = .lockup ∧ (lockedUp.proc 1).run = .lockup) ∧
      (s0.mapBoot fun b => { b with entryPoints := some (0x01000, 0x02000) }).boot.entryPoints = some (0x01000, 0x02000) ∧
      booting (s0.mapBoot fun b => { b with entryPoints := some (0x01000, 0x02000) }) = true ∧
      fld (0x5EA01 : Word) 8 12 = 0x5EA ∧ tst (0x5EA01 : Word) 0 = true := by decide +kernel

theorem test_cell_hypotheses :
    ((s0.modCell 0 fun k => { k with fp := some ⟨0, 0, 0, 0, 0, 0, none, 0, 0, 0, 0, true, false, none⟩ }).cell 0).fp.isSome = true ∧
      (isBoundary 0 (s0.chan 0).base s0 || firstPeriod 0 s0) = true ∧
      ((after (exec (.commit 0x20 3) s0) s0).cell 3).checking = true ∧
      ((s0.modCell 31 fun k => { k with refill := true }).cell 31).refill = true ∧
      ((cell.modProc 2 fun k => { k with stopReq := true }).proc (seqProc 0)).stopReq = true ∧
      (cell.proc (seqProc 0)).posted.isEmpty = true ∧ (cell.proc (seqProc 0)).run = .running := by decide +kernel

theorem test_channel_hypotheses : (s0.wb (chanBase 31 + 1) 19 true).chanRuns 31 = true := by decide +kernel

/-- Ripple detector 7 locked, its last crossing long ago. -/
def rippling : State :=
  ((((s0.wb 0x76E70 19 true).wb 0x76E78 19 true).wr 0x76E73 1).modRipple 7 fun r => { r with last := some 0 }).mapClk fun c =>
    { c with fabMt := 1000 }

/-- Comparator 63, enabled and claimed for channels. -/
def comparing : State := (((s0.wb (cmpReg 63) 19 true).setOwner 3 63 0x21).wb 0x76001 19 true)

theorem test_measurement_hypotheses :
    ((s0.modConv 15 fun c => { c with busy := true }).conv 15).busy = true ∧ rippleTimedOut 7 rippling = true ∧
      refOk s0 = false ∧ cmpWorks 63 comparing = true ∧
      ((s0.modComp 63 fun c => { c with blanking := true }).comp 63).blanking = true ∧
      (s0.wb 0x72800 0 true).rb 0x72800 0 = true := by decide +kernel

/-- Position interface 2 in SSI mode, its pads claimed, a frame due. -/
def ssi : State :=
  (pads 0x31 [76, 77] ((s0.wf (posBase 2) 17 2 2).wb (posBase 2) 19 true)).wr (posBase 2 + 5) 1000

/-- Position interface 0 with an edge 16 384 cycles ago and a timeout of one unit. -/
def idle : State :=
  (((((pads 0x31 [64, 65, 66] (s0.wb (posBase 0) 19 true)).wr (posBase 0 + 3) 1).modPos 0
    fun p => { p with lastEdge := some 0 }).mapClk fun c => { c with fabMt := 16384 }))

theorem test_position_hypotheses :
    ssiDue 2 ssi = true ∧ speedTimedOut 0 idle.mt idle = true ∧
      (emuOn 1 ((s0.wb (emuBase 1) 19 true).wb (posBase 0 + 0xC) 16 true) = true ∧ emuReady 1 s0 = true) := by decide +kernel

/-- The policy of a booted device. -/
def policed : State := s0.mapBoot fun b => { b with policyOn := true }

/-- The generator's drive on interface 0 at speed. -/
def turning : State :=
  ((((policed.wb (posBase 0 + 0xC) 19 true).wr (posBase 0 + 9) 0x10000).wf (posBase 0) 8 5 10).mapPolicy fun p =>
    { p with bounds := vset p.bounds 0x10 0x1F }).modCell 25 fun k => { k with vecAct := #v[0x0080E, 0, 0, 0] }

theorem test_policy_hypotheses :
    policyRuns policed = true ∧ (policed.mapPolicy fun p => { p with dcPresent := true }).policy.dcPresent = true ∧
      ((policed.mapPolicy fun p => { p with dcClass := 4, vref := 9000 }).policy.dcClass = 4 ∧
        (policed.mapPolicy fun p => { p with dcClass := 4, vref := 9000 }).policy.vref ≠ 0 ∧
        srcEnabled 0 turning = true ∧ policed.policy.released = false ∧ policed.policy.backed = false) ∧
      ((crank turning).isNone = true ∧ srcEnabled 4 turning = true ∧ genSteady turning = true ∧
        cutIn turning = true ∧ policyRuns turning = true) ∧
      genValid policed = false ∧
      ((policed.mapPolicy fun p => { p with phase := 3 }).policy.phase = 3 ∧ (0 : Int) < (bound 3 policed : Int)) ∧
      ((policed.mapPolicy fun p => { p with phase := 1 }).policy.phase = 1) ∧
      (policed.policy.smart = false ∧ policed.policy.packLast.packMa.natAbs < 50) := by decide +kernel

/-- A PD sink at port 0 attached, the port a source; and a PD source at port 1. -/
def attached : State :=
  after (exec (.pdAttach 1 ⟨true, true, 3000⟩) (after (exec (.pdAttach 0 ⟨false, true, 0⟩) s1) s1)) s1

theorem test_pd_hypotheses :
    (s0.pdPort 2).attached = false ∧ (attached.pdPort 0).attached = true ∧ pdPort 0 attached = true ∧
      (attached.pdPort 0).source = true ∧ pdPort 1 attached = true ∧ (attached.pdPort 1).source = false ∧
      pdRuns 0 attached = true ∧ pdRuns 1 attached = true := by decide +kernel

theorem test_fix_and_log_hypotheses :
    fixDue ((s0.wb 0x74000 2 true).mapClk fun c => { c with fabMt := 2 ^ 30 }) = true ∧
      (captured ((after (exec (.fixTrig 0x20) s0) s0).mapClk fun c => { c with fabMt := 1 }) = true ∧
        pinned (1 - (after (exec (.fixTrig 0x20) s0) s0).fixCur) (after (exec (.fixTrig 0x20) s0) s0) = false) ∧
      (s0.wr 0x74002 0xFFFFF).rd 0x74002 = 0xFFFFF#20 ∧
      ((decide ((s0.wf 0x7E001 14 2 1).rf 0x7E001 14 2 = 1) || decide ((s0.wf 0x7E001 14 2 1).rf 0x7E001 14 2 = 2)) = true ∧
        traceDue (s0.wf 0x7E001 14 2 1) = true) ∧
      (fld (0x08000 : Word) 14 6 = 0x02 ∧ fld (0x80000 : Word) 14 6 = 0x20 ∧ fld (0xEC000 : Word) 14 6 = 0x3B ∧
        fld (0xF0000 : Word) 14 6 = 0x3C ∧ s0.log.queue.length < 64) := by decide +kernel

theorem test_full_log_queue :
    64 ≤ (s0.mapLog fun l => { l with queue := List.replicate 64 ⟨0x20, 0, 0, 0, []⟩ }).log.queue.length := by decide +kernel

/-- Sextant tested, with a request in the interactive queue at 0x02000 for opcode op. -/
def asking0 (op : Nat) : State :=
  (s0.wb 0x72017 19 true).wrMem 0x02000 (BitVec.ofNat 20 (op * 4096)) |>.mapSxt fun x => { x with q0 := [0x02000] }

theorem test_sextant_operations :
    ([0x01, 0x02, 0x03, 0x04, 0x05, 0x06, 0x07, 0x08, 0x09, 0x0A, 0x0B, 0x0C, 0x10, 0x11, 0x12, 0x13, 0x14, 0x15, 0x16, 0x17,
      0x18, 0x19, 0x1A, 0x1B, 0x1C, 0x20, 0x21, 0x22, 0x28, 0x29, 0x2A, 0x2B, 0x2C, 0x30, 0x31, 0x32, 0x33, 0x34, 0x35, 0x36,
      0x37, 0x38].all fun op => decide (sxtNext (asking0 op) = some (1, 0x02000)) && decide (nextOp (asking0 op) = some op)) = true ∧
      sxtNext (asking0 0x7F) = some (1, 0x02000) ∧ nextOp (asking0 0x7F) = some 0x00 := by decide +kernel

/-- A request begun by microcode. -/
def begun : State := (sxtBegin 1 0x02000 (asking0 0x01)).mapSxt fun x => { x with upc := 0x1000 }

/-- It stands at patch word 0, which holds w (R338). -/
def patched (w : Word) : State := begun.mapSxt fun x => { x with patchMicro := [(0, w.toNat + 1)] }

/-- A fetch whose parity holds. -/
def fetched : MicroFetch := { rom := 0, ok := true }

theorem test_microcode_hypotheses :
    microRuns begun = true ∧ microSeat 0x1000 begun = 0x1000 ∧
      ([(0x00000, MicroKind.nano), (0x20000, .jump), (0x28000, .call), (0x30000, .ret), (0x38000, .dispatch), (0x40000, .branch),
        (0x60000, .lit), (0x80000, .safe), (0xA0000, .fin)].all fun x =>
          decide (microFetch fetched (microSit (patched x.1)).sxt.upc (microSit (patched x.1)) = .word x.1) &&
            decide (microKind x.1 = some x.2)) = true ∧
      (sxtNext begun = none ∧ sxtUp begun = true ∧ begun.sxt.run.isSome = true ∧ begun.sxt.mchk = none) := by decide +kernel

/-- A preempted request. -/
def preempted : State := begun.mapSxt fun x => { x with part := x.run, run := none, q0 := [] }

theorem test_sextant_state_hypotheses :
    (preempted.sxt.part.isSome = true ∧ sxtUp preempted = true ∧ preempted.sxt.run = none ∧ preempted.sxt.mchk = none ∧
        (match preempted.sxt.part with | some o => higherReady o.word0 o.closed preempted | none => true) = false) ∧
      (begun.mapSxt fun x => { x with mchk := some (0, 5) }).sxt.mchk = some (0, 5) ∧ s0.rb 0x72017 19 = false ∧
      s0.sxt.hpc = none ∧ (sxtReady s0 = true ∧ sxtCount false s0 < 8 ∧ sxtCount true s0 < 8) ∧
      8 ≤ sxtCount true (s0.mapSxt fun x => { x with done1 := List.replicate 8 (0, 0) }) ∧
      8 ≤ sxtCount false (s0.mapSxt fun x => { x with q0 := List.replicate 8 0 }) ∧
      (s0.mapSxt fun x => { x with done0 := [(7, 0x02000)] }).sxt.done0 = (7, 0x02000) :: [] := by decide +kernel

/-- The calculator with key 5, whose code is c, waiting. -/
def pressing (c : Nat) : State :=
  (((s0.wb 0x72017 19 true).wb 0x72008 0 true).wrMem 0x3D005 (BitVec.ofNat 20 c)).mapKey fun k => { k with calcQ := [5] }

theorem test_calculator_keys :
    (((List.range 27).map (0x10 + ·) ++ [0x30, 0x31, 0x32, 0x33, 0x46, 0x47, 0x49, 0x4A, 0x4B, 0x4C, 0x50, 0x51, 0x52, 0x53, 0x54,
      0x55, 0x57, 0x58, 0x59, 0x5A, 0x5B, 0x5C, 0x60, 0x6A] ++ (List.range 16).map (0x70 + ·)).all fun c =>
        decide (calcNext (pressing c) = some (c, [])) && calcUp (pressing c)) = true ∧
      (pressing 0x10).sxt.run = none := by decide +kernel

/-- An unlock sequence begun at 0 that has run out of its time of one unit. -/
def late : State :=
  (((s0.wb 0x71822 0 true).wf 0x71823 4 8 1).mapKey fun k => { k with pos := 1, pressAt := 0 }).mapClk fun c =>
    { c with fabMt := 76800001 }

theorem test_keyboard_hypotheses :
    scannerOn (s0.wb 0x71800 0 true) = true ∧ (s0.wb 0x71800 0 true).key.scanning = false ∧
      (examLock late = true ∧ unlockLate late = true ∧ s1.ifaceOn 5 = true) ∧
      ((s0.wf 0x71823 0 4 1).rf 0x71823 0 4 = 1 ∧ (s0.wf 0x71823 0 4 8).rf 0x71823 0 4 = 8 ∧ s0.rf 0x71823 0 4 = 0 ∧
        (s0.wf 0x71823 0 4 9).rf 0x71823 0 4 = 9) ∧ tst (0x00001 : Word) 0 = true ∧ tst (0x00002 : Word) 1 = true ∧
      (s0.dead = false ∧ reqFault 0x20 0x71822 true s0 = none) := by decide +kernel

theorem test_display_hypotheses :
    framesRun ((s0.wb 0x71C00 0 true).wb 0x71C02 19 true) = true ∧
      ((s0.wb 0x71C00 0 true).mapCup fun c => { c with second := true }).cup.second = true ∧ s0.rb 0x71C00 3 = false ∧
      (s0.wb 0x71C00 3 true).rb 0x71C00 3 = true ∧ s0.rb 0x71C00 0 = false ∧ (!false || s0.rb 0x71C00 2) = true ∧
      (s0.wb 0x71C00 2 true).rb 0x71C00 2 = true := by decide +kernel

/-- A packet of stream 1 with a parameter count that its opcode takes. -/
def packet (op n : Nat) : Packet :=
  { ver := 2, stream := 1, seq := 0, op := op, tag := 3, params := List.replicate n 0, crcOk := true }

/-- Helm1 serving in version 2, with a packet taken. -/
def serving (p : Packet) : State := (s1.wf 0x71003 14 4 2).mapHostif fun h => { h with serving := true, taken := [p] }

/-- What Serves asks, as a check. -/
def servesCheck (op : Nat) (p : Packet) : Bool :=
  helm1Serves (serving p) && (waitOn 1 (serving p)).isNone && decide (firstTaken 1 (serving p) = some p) && decide (p.op = op) &&
    !packetBlocked p (serving p) && (checkPacket p (serving p)).isNone

theorem serves_of_check (op : Nat) (p : Packet) (h : servesCheck op p = true) : Serves 1 op p (serving p) := by
  simp only [servesCheck, Bool.and_eq_true, Option.isNone_iff_eq_none, decide_eq_true_eq, Bool.not_eq_true'] at h
  obtain ⟨⟨⟨⟨⟨a, b⟩, c⟩, d⟩, e⟩, f⟩ := h
  exact ⟨a, b, c, d, e, f⟩

/-- Every opcode with a number of parameters that passes R377. -/
def opcodes : List (Nat × Nat) :=
  [(0x01, 0), (0x02, 2), (0x03, 2), (0x04, 1), (0x05, 1), (0x06, 1), (0x07, 0), (0x08, 0), (0x09, 0), (0x0A, 0), (0x0B, 4),
    (0x10, 2), (0x11, 1), (0x12, 0), (0x13, 2), (0x14, 12), (0x15, 2), (0x16, 16), (0x17, 0), (0x18, 2), (0x19, 0), (0x1A, 12),
    (0x1B, 1), (0x1C, 1), (0x1D, 0), (0x1E, 1), (0x1F, 3), (0x20, 254), (0x21, 1), (0x22, 2)]

theorem test_packets_are_served : ∀ x ∈ opcodes, Serves 1 x.1 (packet x.1 x.2) (serving (packet x.1 x.2)) := by
  have h : (opcodes.all fun x => servesCheck x.1 (packet x.1 x.2)) = true := by decide +kernel
  exact fun x hx => serves_of_check _ _ (List.all_eq_true.mp h x hx)

/-- One packet for each check of R377, and what the check answers. -/
theorem test_packets_that_fail_a_check :
    checkPacket { packet 0x06 1 with crcOk := false } s0 = some (0x03, 0) ∧ checkPacket (packet 0x01 0) s0 = none ∧
      (streamStopped 1 (s0.wb 0x71003 11 true) = true ∧ checkPacket (packet 0x06 1) (s0.wb 0x71003 11 true) = some (0x01, 0) ∧
        checkPacket (packet 0x0A 0) (s0.wb 0x71003 11 true) = none) ∧
      checkPacket { packet 0x06 1 with seq := 1 } s0 = some (0x04, 0) ∧
      checkPacket { packet 0x06 1 with ver := 0 } s0 = some (0x05, s0.rf 0x71003 14 4) ∧
      checkPacket (packet 0x3F 0) (serving (packet 0x3F 0)) = some (0x02, 0) ∧
      checkPacket { packet 0x12 0 with ver := 1 } (serving (packet 0x12 0)) = some (0x02, 0) ∧
      checkPacket (packet 0x02 3) (serving (packet 0x02 3)) = some (0x06, 3) := by decide +kernel

theorem test_failed_packet_is_taken :
    packetCommand (.unsupportedPacket 1) = none ∧ packetCommand (.read 1) = some (1, 0x02) ∧
      helm1Serves (serving (packet 0x02 3)) = true ∧ waitOn 1 (serving (packet 0x02 3)) = none ∧
      firstTaken 1 (serving (packet 0x02 3)) = some (packet 0x02 3) ∧
      packetBlocked (packet 0x02 3) (serving (packet 0x02 3)) = false := by decide +kernel

theorem test_host_fifo_hypotheses :
    windowOn s1 = true ∧ s0.host.tx.length < 64 ∧ s0.host.staged = none ∧ s0.host.rx = [] ∧
      64 ≤ (s0.mapHostif fun h => { h with tx := List.replicate 64 0 }).host.tx.length ∧
      (s0.mapHostif fun h => { h with rx := [9] }).host.rx = 9 :: [] ∧
      (helm1Serves (serving (packet 0x06 1)) = true ∧ (serving (packet 0x06 1)).host.taken.length < 16 ∧
        (serving (packet 0x06 1)).host.rx.length < 64) := by decide +kernel

/-- A module accepted in slot 7, with Helm1 serving. -/
def plugged : State := presence 7 (serving (packet 0x06 1))

/-- A request of Helm1 that awaits its answer. -/
def requested : State := tlRequest 6 1 [] (serving (packet 0x06 1))

theorem test_turtelink_hypotheses :
    s0.rb 0x71400 7 = false ∧ plugged.rb 0x71400 7 = true ∧ helm1Serves plugged = true ∧ plugged.tl.disc.isNone = true ∧
      nextSlot plugged = some 7 ∧ plugged.tl.xfer.isNone = true ∧ (absence 7 plugged).rb 0x71401 15 = true ∧
      (tlAwaits requested = true ∧ requested.tl.xfer.isSome = true) ∧
      ((tlFail 1 ⟨0x60400, [], 0, 1, false, false⟩ requested).tl.xfer.isSome = true ∧
        tlAwaits (tlFail 1 ⟨0x60400, [], 0, 1, false, false⟩ requested) = false) := by decide +kernel

/-- A claim of W5 for C1 by Helm0, and its words (R98). -/
def claimWord : Word := BitVec.ofNat 20 (1 * 32768 + 5 * 64 + 2)

theorem test_claim_hypotheses :
    fld claimWord 15 3 = 1 ∧ fld claimWord 6 9 = 5 ∧ fld claimWord 0 6 = 2 ∧ ownerKnown 2 = true ∧ ownerKnown 0x24 = true ∧
      classSize 1 ≤ 32 ∧ ¬ classSize 1 ≤ 31 ∧ s0.owner 1 5 = 0 := by decide +kernel

theorem test_parity_hypotheses :
    ({ s0 with badParity := [0x02000] } : State).badParity.contains 0x02000 = true ∧
      reqFault 0x20 0x02000 false { s0 with badParity := [0x02000] } = none := by decide +kernel

theorem test_well_formed_states : State.reset.WF ∧ helm.WF ∧ cell.WF :=
  ⟨⟨by decide +kernel, by decide +kernel, by decide +kernel, by decide +kernel, by decide +kernel⟩,
    ⟨by decide +kernel, by decide +kernel, by decide +kernel, by decide +kernel, by decide +kernel⟩,
    ⟨by decide +kernel, by decide +kernel, by decide +kernel, by decide +kernel, by decide +kernel⟩⟩

theorem test_following_error_hypotheses :
    fld (((s0.setBankWord 0 0 0x1F 2).load 0 0).live 0 0x1F) 0 16 = 2 ∧ (s0.cell 0).feFired = false ∧
      fld (s0.live 0 0x1F) 0 16 = 0 := by decide +kernel

theorem test_idle_step_hypotheses :
    s0.pending = [] ∧ s0.clk.fabOn = true ∧ s0.clk.fabMer = true ∧ s0.fix.capture = none ∧ s0.sched = [] ∧ (goOff s0).pwr.off = true ∧ (resetKeep 1 s0).clk.fabOn = false ∧
      (resetKeep 1 s0).clk.frozen = false := by decide +kernel

/-- The nine bytes of R205. -/
theorem test_crc32_check_value :
    Nat.xor ([0x31, 0x32, 0x33, 0x34, 0x35, 0x36, 0x37, 0x38, 0x39].foldl crc32Byte 0xFFFFFFFF) 0xFFFFFFFF = 0xCBF43926 := by
  decide +kernel

/-- The four encoding examples of 16. -/
theorem test_number_encodings :
    decWords (.fin false 500000000000000000000001 (-23)) = [0x02710, 0x00001, 0x00000, 0x00000, 0xA0000] ∧
      decWords (.fin true 123456780000000000000000 (-20)) = [0x82713, 0x00000, 0x00000, 0xE2800, 0x28E56] ∧
      decWords (.inf true) = [0x90000, 0, 0, 0, 0] ∧ decWords (.qnan 0) = [0x20000, 0, 0, 0, 0] ∧
      decRead [0x82713, 0x00000, 0x00000, 0xE2800, 0x28E56] = .fin true 123456780000000000000000 (-20) := by decide +kernel

/-- The worked example of 16: 1 + 2 ÷ 3, then × 3, under half-even. -/
theorem test_precedence_example :
    let q := (dDiv 0 (dFromInt 2) (dFromInt 3)).1
    let r := (dAdd 0 (dFromInt 1) q).1
    decWords q = decWords (.fin false 666666666666666666666667 (-24)) ∧
      decWords r = decWords (.fin false 166666666666666666666667 (-23)) ∧
      decWords (dMul 0 r (dFromInt 3)).1 = [0x02710, 0x00001, 0x00000, 0x00000, 0xA0000] := by decide +kernel

/-- C0 with the bank words of the input buck-boost example of 09, Is at 0.125. -/
def phaseLoop : State :=
  let b := fun (w : Nat) (v : Word) (s : State) => s.setBankWord 0 0 w v
  ((b 0x12 0x30000 (b 0x14 0x02000 (b 0x15 0x03000 (b 0x17 0x000C0 (b 0x19 0x70000 s0))))).load 0 0).modCell 0 fun k =>
    { k with is := 65536 * 2 ^ 12 }

theorem test_law_steady_sample :
    let f := law 0 0 0 none 0x1C000 0x20000 (-4096) phaseLoop
    (f.e, f.u, f.inc) = (0x04000, 0x47000, some (768 * 2 ^ 12)) ∧
      (((fpStates 0 f phaseLoop).cell 0).is = 66304 * 2 ^ 12) := by decide +kernel

theorem test_law_reference_step :
    let f := law 0 0 0 none 0x1C000 0x60000 (-4096) (phaseLoop.modCell 0 fun k => { k with is := 66304 * 2 ^ 12 })
    (f.e, f.u, f.inc) = (278528, 0x70000, none) := by decide +kernel

/-- The duty-map example of 11. -/
theorem test_duty_map :
    dutyMap 0 0x02000 0x47000 = 2 ^ 19 ∧ dutyMap 0x40000 0x02000 0x47000 = 57344 ∧ onTime 57344 1536 = 5376 := by
  decide +kernel

/-- The on-times of the late-fall example of 11. -/
theorem test_on_times : [0x40000, 157286, 0x01000].map (fun m => onTime m 1536) = [24576, 14746, 384] := by decide +kernel

/-- The update of bin 0x2D1 in the ripple example of 10. -/
theorem test_learning_update :
    roundShift (term 16384 0x00200 0) 12 = 2048 ∧ learned (-3584) (-3072) (-4096) 2048 0x40 0 = -1533 ∧
      learned (-3584) (-3072) (-4096) 2048 0x40 1 = -1789 ∧ ofI (-1789) = 0xFF903 := by decide +kernel

/-- RD0 of T0 at phase 0x5A3C7 with the table of the ripple example: θ and the bin read. -/
def ripplePhase : State :=
  (((s0.setBankWord 0 0 0x31 0x00050).setBankWord 0 0 0x32 0x00001).load 0 0).modRipple 0 fun r => { r with phi := 0x5A3C7 * 2 ^ 20 }

theorem test_almanac_index :
    almTheta 0 0 ripplePhase.mt ripplePhase = 0x2D1 ∧ almReadBin 0 0 0x2D1 ripplePhase = 0x2D2 ∧
      binAddr 0 0 0x2D2 ripplePhase = 0x502D2 ∧ (roundDiv (2 ^ 40) 6144000).toNat = 0x2BB0D := by decide +kernel

/-- The crank generator's encoder of 13, its last edge at cycle 0. -/
def cranking (dir : Bool) (period k : Nat) (v : Word) : State :=
  ((((((((pads 0x31 [64, 65, 66] s0).wb (posBase 0) 19 true).wb (posBase 0) 16 true).wf (posBase 0) 8 5 27).wr (posBase 0 + 1) 1024).wr (posBase 0 + 9) v).wb
    (posBase 0 + 0xC) 19 true).wb (posBase 0 + 0xC) 17 dir).modPos 0 (fun p => { p with lastEdge := some 0, period := period, raw := 0x3A500 })
    |>.mapClk fun c => { c with fabMt := k }

theorem test_encoder_speed :
    stepSpeed 0 75000 true (cranking true 75000 0 0) = 458130 ∧ posAngle 0 30000 (cranking true 75000 30000 0x6FD92) = 0x3A566 ∧
      posSpeed 0 125000 (cranking true 75000 125000 0x6FD92) = 274878 ∧
      stepSpeed 0 150000 false (cranking false 75000 0 0) = -229065 := by decide +kernel

/-- The division example of 07. -/
theorem test_divide_signed :
    divide true (BitVec.ofInt 20 (-7)) 2 = .quotient 0xFFFFD 0xFFFFF false false := by decide +kernel

/-- The 1 ms wait of 07: CARRY and ADD on Helm1's words, and the targets not reached and reached. -/
theorem test_wait_across_the_wrap :
    steps (.carry 1 (lf 5 2 0x40000)) (placed (.carry 1 (lf 5 2 0x40000)) (s0.modProc 1 fun k =>
        { k with run := .running, pc := 0x01000#20, g := vset (vset k.g 2 0xF0000#20) 4 0x96000#20 })) (fun t => t.g 1 5 == 1#20) = true ∧ (0xF0000#20 + 0x96000#20 : Word) = 0x86000 ∧
      timeReached 0x86000 (s0.mapClk fun c => { c with fabMt := 0xFFFFFF0000 }) = false ∧
      timeReached 0x86000 (s0.mapClk fun c => { c with fabMt := 0x10000086000 }) = true := by decide +kernel

/-- The shares and the charge current of the example of 14, from its free power, load and demand. -/
theorem test_allocation_shares : cover (12000 + 34200 - 41000) [0, 42750] = [0, 5200] ∧ cover (46200 - 18000) [42750] = [28200] := by decide +kernel

/-- The conditions under which events, the tracker, the filters, host groups and Turtelink go ahead. -/
theorem test_gate_hypotheses :
    (mayCome 0 s0 = true ∧ mayCome 1 s0 = false ∧
      mayCome 1 ((s0.wf 0x70800 17 3 3).mapKey fun k => { k with rows := 4 }) = true) ∧
      mpptOn (turning.mapPolicy fun p => { p with dcClass := 4, vref := 9000 }) = true ∧
      (filterPasses 0 0 s0 = true ∧ filterPasses 0 0x3F s0 = true ∧
        filterPasses 2 0x3F ((s0.modPos 2 fun p => { p with changed := vset p.changed 0 (some 0) })) = false) ∧
      (cmdRead 0x87 = true ∧ cmdRead 0x05 = false ∧ groupFits { cmd := 0x87, first := true } s1 = true ∧
        groupFits { cmd := 0xA7, first := false } (s1.mapHostif fun h => { h with frame := some (0xA7, 5, true) }) = true) ∧
      (tlClocked s1 = true ∧ padOf 0x36 241 s1 = true ∧ tlClocked (s1.wf 0x70800 17 3 2) = false) ∧
      (calcActive s0 = false ∧ s0.calculator.drawn = false) := by decide +kernel

end Sys2Proof.Tests
end

section
/-! Every step keeps the canonical forms and takes at most the front command: `Sound`, which every command but OTP_PROG
keeps, is tied to `State.WF` and the queue, and OTP_PROG is added. -/
namespace Sys2Proof.Machine

/-- A well-formed state is sound for the queue and the OTP that it has itself. -/
theorem State.WF.sound {s : State} (h : s.WF) : Sound ⟨s.pending, s.boot.otp⟩ s := ⟨rfl, h, rfl⟩

/-- The canonical forms do not look at the queue. -/
theorem State.WF.withPending {s : State} (h : s.WF) (l : List Instr) : State.WF { s with pending := l } :=
  ⟨h.mem, h.reg, h.bank, h.claims, h.ctr⟩

/-- The canonical forms do not look at the boot record, which holds the OTP. -/
theorem State.WF.mapBoot {s : State} (h : s.WF) (f : Boot → Boot) : (s.mapBoot f).WF :=
  ⟨h.mem, h.reg, h.bank, h.claims, h.ctr⟩

/-- OTP_PROG changes nothing outside the boot record (R430). -/
theorem exec_otpProg_next {a : Fin 256} {v : BitVec 16} {s t : State} (h : exec (.otpProg a v) s = .next t) :
    t = s ∨ ∃ f, t = s.mapBoot f := by
  change execOtpProg a v s = .next t at h
  unfold execOtpProg happens at h
  split at h
  · cases h
    exact .inr ⟨_, rfl⟩
  · cases h
    exact .inl rfl

/-- Every command keeps the canonical forms and leaves the queue as it is: `sound_exec` says so of all but OTP_PROG. -/
theorem exec_keeps_wf_pending {i : Instr} {s t : State} (hs : s.WF) (h : exec i s = .next t) :
    t.WF ∧ t.pending = s.pending := by
  by_cases hi : ∃ a v, i = .otpProg a v
  · obtain ⟨a, v, rfl⟩ := hi
    obtain rfl | ⟨f, rfl⟩ := exec_otpProg_next h
    · exact ⟨hs, rfl⟩
    · exact ⟨hs.mapBoot f, mapBoot_pending s f⟩
  · have hsound := sound_exec i hs.sound (fun a v e => hi ⟨a, v, e⟩) t h
    exact ⟨hsound.wf, hsound.pend⟩

/-- A tick of time keeps the canonical forms and the queue. -/
theorem tick_keeps_wf_pending {s : State} (hs : s.WF) : (tick s).WF ∧ (tick s).pending = s.pending :=
  have hsound := sound_tick hs.sound
  ⟨hsound.wf, hsound.pend⟩

/-- What a step that answers a next state has done: it ran the front command on the rest of the queue, or, on an empty queue,
let one tick of time pass. -/
theorem step_next {s t : State} (h : step s = .next t) :
    (∃ c rest, s.pending = c :: rest ∧ exec c { s with pending := rest } = .next t) ∨ (s.pending = [] ∧ t = tick s) := by
  unfold step at h
  split at h
  · next c rest hq => exact .inl ⟨c, rest, hq, h⟩
  · next hq =>
    cases h
    exact .inr ⟨hq, rfl⟩

/-- Settles O39: a step runs a command on a state whose queue alone has changed, or ticks, and both keep the forms. -/
theorem stepKeepsCanonicalForms : Obligations.StepKeepsCanonicalForms := by
  unfold Obligations.StepKeepsCanonicalForms
  intro s t hs h
  obtain ⟨c, rest, hq, hexec⟩ | ⟨hq, rfl⟩ := step_next h
  · obtain ⟨hwf, hpend⟩ := exec_keeps_wf_pending (hs.withPending rest) hexec
    exact ⟨hwf, by simp [hpend, hq]⟩
  · obtain ⟨hwf, hpend⟩ := tick_keeps_wf_pending hs
    exact ⟨hwf, by simp [hpend, hq]⟩

end Sys2Proof.Machine
end

section
/-! The bus and claim commands: a gated command whose gate is open, and a register command whose access is admitted, both run
to the state that their effect gives. -/
namespace Sys2Proof.Machine

section AdmittedCommands
variable {i : Instr} {q : Req} {s : State}

/-- An admitted access has its effect: no reset or OFF swallows it and no fault is recorded in its place (R62, R87, R88). -/
theorem withAccess_of_admitted {a : Nat} {write : Bool} (eff : State → State) (h : Admitted q a write s) :
    withAccess q.toNat a write eff s = eff s := by
  obtain ⟨halive, hreached⟩ := h
  simp [withAccess, halive, hreached]

/-- A command that is one access runs to the effect of that access where it is admitted. -/
theorem runs_of_admitted {a : Nat} {write : Bool} {eff : State → State} (h : Admitted q a write s)
    (hexec : exec i s = .next (withAccess q.toNat a write eff s)) : Runs i s (eff s) :=
  hexec.trans (congrArg _ (withAccess_of_admitted eff h))

/-- A command that happens under a gate runs to its effect where the gate is open. -/
theorem runs_of_happens {g : Bool} {eff : State → State} (hg : g = true) (hexec : exec i s = happens g eff s) :
    Runs i s (eff s) := by
  rw [Runs, hexec, happens, if_pos hg]

/-- A write on the bus is one access, except at the two registers that submit a program to Sextant (R317). -/
theorem busWrite_eq_withAccess {q a : Nat} {v : Word} (hs : a ≠ 0x72001) (hd : a ≠ 0x72002) :
    busWrite q a v s = withAccess q a true (busPut q a v) s := by
  rw [busWrite, if_neg (not_or.mpr ⟨hs, hd⟩)]

/-- REGISTER_WRITE away from the two submitting registers is one access (R87, R138). -/
theorem exec_registerWrite {a v : Word} (hs : a ≠ 0x72001#20) (hd : a ≠ 0x72002#20) :
    exec (.registerWrite q a v) s = .next (withAccess q.toNat a.toNat true (busPut q.toNat a.toNat v) s) :=
  congrArg _ (busWrite_eq_withAccess (BitVec.toNat_ne_iff_ne.mpr hs) (BitVec.toNat_ne_iff_ne.mpr hd))

/-- BUS_GRANT runs one grant of the arbiter while the device works (R93). -/
theorem runs_busGrant (hoff : s.pwr.off = false) (hreset : s.pwr.inReset = false) :
    Runs .busGrant s (arbiterGrant nobody s).2 :=
  runs_of_happens (g := !s.pwr.off && !s.pwr.inReset) (eff := fun s => (arbiterGrant nobody s).2)
    (by simp [hoff, hreset]) rfl

end AdmittedCommands

/-- Settles O1: BUS_GRANT is gated on a device that works, and every other command of the family is one access to a register,
whose admission lets its effect through. -/
theorem busAndClaimCommandsComplete : Obligations.BusAndClaimCommandsComplete := by
  unfold Obligations.BusAndClaimCommandsComplete
  intro s
  refine ⟨runs_busGrant, ?registerWrite, ?padHoldRelease, ?padWrite, ?busClaim, ?busRelease, ?busQuery⟩
  case registerWrite => exact fun q a v h hs hd => runs_of_admitted h (exec_registerWrite hs hd)
  case padHoldRelease => exact fun q v h => runs_of_admitted h rfl
  case padWrite => exact fun q p v h => runs_of_admitted h rfl
  case busClaim => exact fun q v h => runs_of_admitted h rfl
  case busRelease => exact fun q v h => runs_of_admitted h rfl
  case busQuery => exact fun q v h => runs_of_admitted h rfl

end Sys2Proof.Machine
end

section
/-! The clock and power commands: each is gated on the condition its rule names, or is one access to a register. -/
namespace Sys2Proof.Machine

section MasterTimeLow
variable (s : State)

/-- A Helm core's read of the low word of MT is open in RUN and DOZE while the device works (R55). -/
theorem exec_mtLowRead_helm (h : HelmId) :
    exec (.mtLowRead (.helm h)) s = happens (decide (s.pstate ≤ 1) && !s.dead) (mtHold h.1) s := rfl

/-- The host's read of the low word of MT shows it the word, while its window is on (R55, R366). -/
theorem exec_mtLowRead_host :
    exec (.mtLowRead .host) s = happens (windowOn s) (fun s => hostShown (wordOf s.mt 0) (mtHold 2 s)) s := rfl

/-- A sequencer's read of the low word of MT is open while the fabric works (R55, R167). -/
theorem exec_mtLowRead_cell (c : CellId) :
    exec (.mtLowRead (.cell c)) s = happens s.fabric (mtHold (3 + c.1)) s := rfl

end MasterTimeLow

/-- Settles O2: the gate of each event is open under its condition, and the two register commands are one access each. -/
theorem clockCommandsComplete : Obligations.ClockCommandsComplete := by
  unfold Obligations.ClockCommandsComplete
  intro s
  refine ⟨?helmRead, ?hostRead, ?cellRead, ?refclkQualified, ?qualificationFail, ?lock, ?referenceLoss, ?lossInSlateOrHold,
    ?clkSwitchWrite, ?clockSwitchComplete, ?divisorChange, ?plChange⟩
  case helmRead => exact fun h hstate hlive => runs_of_happens (by simp [hstate, hlive]) (exec_mtLowRead_helm s h)
  case hostRead => exact fun hon => runs_of_happens hon (exec_mtLowRead_host s)
  case cellRead => exact fun c hfab => runs_of_happens hfab (exec_mtLowRead_cell s c)
  case refclkQualified => exact fun hloop href => runs_of_happens (by simp [hloop, href]) rfl
  case qualificationFail => exact fun href hlock => runs_of_happens (by simp [href, hlock]) rfl
  case lock => exact fun hloop href hlock => runs_of_happens (by simp [hloop, href, hlock]) rfl
  case referenceLoss => exact fun hoff hstate hlock => runs_of_happens (by simp [hoff, hstate, hlock]) rfl
  case lossInSlateOrHold => exact fun hlive hstate => runs_of_happens (by rw [hlive, hstate]; rfl) rfl
  case clkSwitchWrite => exact fun q v h => runs_of_admitted h rfl
  case clockSwitchComplete => exact fun hbusy => runs_of_happens hbusy rfl
  case divisorChange => exact fun hbusy haligned => runs_of_happens (by simp [hbusy, haligned]) rfl
  case plChange => exact fun q v h => runs_of_admitted h rfl

/-- Settles O3: an entry comes by a write of PWR_ENTRY or by a complete order, a vote is one access, and the gate of every other
event is the condition that the statement names. -/
theorem powerCommandsComplete : Obligations.PowerCommandsComplete := by
  unfold Obligations.PowerCommandsComplete
  intro s
  refine ⟨?lockFail, ?mtHandover, ?fabricCounterLoad, ?entryByWrite, ?entryByOrder, ?entryCellsStopped, ?handshakeAsk,
    ?handshakeTimeout, ?orderEvaluation, ?voteSet, ?voteWithdraw, ?retentionEntry, ?domainReady, ?plChangeComplete, ?wakeEvent,
    ?wakeStep, ?wakeComplete⟩
  case lockFail => exact fun hloop href hlock => runs_of_happens (by simp [hloop, href, hlock]) rfl
  case mtHandover => exact fun hedge hleaves => runs_of_happens (by rw [hedge, hleaves]; rfl) rfl
  case fabricCounterLoad => exact fun h => runs_of_happens h rfl
  case entryByWrite => exact fun q v h => runs_of_admitted h rfl
  case entryByOrder => exact fun n hforce hfirst => runs_of_happens (by rw [hforce, decide_eq_true hfirst]; rfl) rfl
  case entryCellsStopped => exact fun h => runs_of_happens h rfl
  case handshakeAsk => exact fun delays h => runs_of_happens h rfl
  case handshakeTimeout => exact fun hask hdelay => runs_of_happens (by simp [hask, hdelay]) rfl
  case orderEvaluation => exact fun hlive => runs_of_happens (by simp [hlive]) rfl
  case voteSet => exact fun q v h => runs_of_admitted h rfl
  case voteWithdraw => exact fun q v h => runs_of_admitted h rfl
  case retentionEntry => exact fun d h => runs_of_happens h rfl
  case domainReady => exact fun d h => runs_of_happens h rfl
  case plChangeComplete => exact fun h => runs_of_happens (eff := fun s => startWaiting (plComplete s)) h rfl
  case wakeEvent => exact fun src hsrc hlive hcome => runs_of_happens (by simp [hsrc, hlive, hcome]) rfl
  case wakeStep => exact fun h => runs_of_happens h rfl
  case wakeComplete => exact fun h => runs_of_happens h rfl

end Sys2Proof.Machine
end

section
/-! The reserved addresses of the CLK block: no register row covers them, so a read of one is 0 and a write to one does nothing. -/
namespace Sys2Proof.Machine

section ReservedClock
variable {q a : Nat} {v : Word} {s : State}

/-- No register of the CLK block lies above CLK_COAST_MT2 (R56, R58). -/
theorem regRow_clk_reserved (hlo : 0x70407 ≤ a) (hhi : a ≤ 0x707FF) : regRow a = none := by
  have hblock : blockRows a = clkRows := by
    unfold blockRows
    rw [if_neg (by omega), if_neg (by omega), if_pos (by omega)]
  rw [regRow, hblock, clkRows, List.find?_eq_none]
  simp only [List.forall_mem_cons, List.not_mem_nil, false_implies, implies_true, and_true, RegRow.covers, Bool.and_eq_true,
    decide_eq_true_eq, Nat.div_one]
  omega

/-- A plain read of an address without a register is 0 (R86). -/
theorem plainRead_of_regRow_none (h : regRow a = none) : plainRead a s = 0 := by simp [plainRead, h]

/-- A plain write to an address without a register does nothing (R86). -/
theorem plainWrite_of_regRow_none (h : regRow a = none) : plainWrite a v s = s := by simp [plainWrite, h]

/-- A register of the CLK block that is neither CLK_STATUS nor CLK_SWITCH is read plainly (R56). -/
theorem busGet_clk_plain (hlo : 0x70402 ≤ a) (hhi : a ≤ 0x707FF) : busGet q a s = (plainRead a s, s) := by
  have hreg : busGet q a s = coreGet q a s := by
    rw [busGet, if_neg (by omega), regGet, if_pos (by omega)]
  rw [hreg]
  unfold coreGet
  repeat rw [if_neg (by omega)]

/-- A register of the CLK block that is not CLK_SWITCH is written plainly (R56). -/
theorem busPut_clk_plain (hlo : 0x70402 ≤ a) (hhi : a ≤ 0x707FF) : busPut q a v s = plainWrite a v s := by
  rw [busPut, if_neg (by omega), regWrite, if_pos (by omega), coreWrite, if_neg (by omega), if_neg (by omega),
    if_neg (by omega), if_pos (by omega)]

/-- A reserved address of the CLK block reads 0, and the read does nothing else (R58). -/
theorem busGet_clk_reserved (hlo : 0x70407 ≤ a) (hhi : a ≤ 0x707FF) : busGet q a s = (0, s) := by
  rw [busGet_clk_plain (by omega) hhi, plainRead_of_regRow_none (regRow_clk_reserved hlo hhi)]

/-- A write to a reserved address of the CLK block does nothing (R58). -/
theorem busPut_clk_reserved (hlo : 0x70407 ≤ a) (hhi : a ≤ 0x707FF) : busPut q a v s = s := by
  rw [busPut_clk_plain (by omega) hhi, plainWrite_of_regRow_none (regRow_clk_reserved hlo hhi)]

/-- An admitted read is the read that the bus carries out (R87). -/
theorem busRead_of_admitted {q : Req} (h : Admitted q a false s) : busRead q.toNat a s = busGet q.toNat a s := by
  obtain ⟨halive, hreached⟩ := h
  simp [busRead, halive, hreached]

/-- A read returns what a carried-out read returns, or 0 where the access fails (R88). -/
theorem busRead_fst (q a : Nat) (s : State) : (busRead q a s).1 = 0 ∨ busRead q a s = busGet q a s := by
  unfold busRead
  split
  · exact .inl rfl
  · split
    · exact .inl rfl
    · exact .inr rfl

end ReservedClock

/-- Settles O41: no register row covers the addresses, and the CLK block gives none of them a meaning of its own. -/
theorem reservedClockAddresses : Obligations.ReservedClockAddresses := by
  unfold Obligations.ReservedClockAddresses
  intro q a v s hlo hhi
  refine ⟨?value, ?read, ?write⟩
  case value =>
    obtain hzero | hget := busRead_fst q.toNat a.toNat s
    · exact hzero
    · rw [hget, busGet_clk_reserved hlo hhi]
  case read => exact fun h => by rw [busRead_of_admitted h, busGet_clk_reserved hlo hhi]
  case write =>
    intro h
    have hsubmit : a ≠ 0x72001#20 ∧ a ≠ 0x72002#20 := by constructor <;> (rintro rfl; simp at hhi)
    have hruns := runs_of_admitted h (exec_registerWrite (v := v) hsubmit.1 hsubmit.2)
    rwa [busPut_clk_reserved hlo hhi] at hruns

end Sys2Proof.Machine
end

section
/-! Master time as its readers see it: the low word holds the others for its reader alone (R55). -/
namespace Sys2Proof.Machine

/-- What a read of the low word of MT puts into each holding register: MT above its low word into the reader's (R55). -/
theorem mtHold_hold (key k : Nat) (s : State) :
    lookup zeroAt (mtHold key s).clk.hold k = if k = key then s.mt / 2 ^ 20 else lookup zeroAt s.clk.hold k := by
  by_cases hk : k = key
  · subst hk
    simp [mtHold]
  · simp [mtHold, hk, lookup_update_ne hk]

/-- A read of the low word of MT changes the holding registers and nothing else (R55). -/
theorem mtHold_frame (key : Nat) (s : State) :
    mtHold key s = { s with clk := { s.clk with hold := (mtHold key s).clk.hold } } := rfl

/-- The holding register of a Helm core is its own (R55). -/
theorem sysMtKey_helm {q : Nat} {h : HelmId} (hq : q = 0x20 + h.1) : sysMtKey q = h.1 := by
  have hcore : isHelm0 q || isHelm1 q := by
    have := h.2
    simp only [isHelm0, isHelm1, Bool.or_eq_true, decide_eq_true_eq]
    omega
  rw [sysMtKey, if_pos hcore]
  omega

/-- An admitted read of SYS_MTk is a read of MT through the reader's holding register (R55). -/
theorem busRead_sysMt {q : Req} {k : Nat} {s : State} (hk : k ≤ 2) (h : Admitted q (0x70010 + k) false s) :
    busRead q.toNat (0x70010 + k) s = mtGet (sysMtKey q.toNat) k s := by
  rw [busRead_of_admitted h, busGet, if_neg (by omega), regGet, if_pos (by omega), coreGet, if_neg (by omega),
    if_neg (by omega), if_neg (by omega), if_pos (by omega), Nat.add_sub_cancel_left]

/-- Settles O46: each path to MT is a read through one holding register, the low word's read sets that register alone, and the
other reads take its words. -/
theorem masterTimeIsReadThroughPrivateHolds : Obligations.MasterTimeIsReadThroughPrivateHolds := by
  unfold Obligations.MasterTimeIsReadThroughPrivateHolds
  refine ⟨?helm, ?host⟩
  case helm =>
    intro h q s hq
    refine ⟨fun hadm => ⟨mtHold h.1 s, ?_, mtHold_frame h.1 s, fun k => mtHold_hold h.1 k s⟩, fun hadm => ?_, fun hadm => ?_⟩
    · exact sysMtKey_helm hq ▸ busRead_sysMt (k := 0) (by omega) hadm
    · exact sysMtKey_helm hq ▸ busRead_sysMt (k := 1) (by omega) hadm
    · exact sysMtKey_helm hq ▸ busRead_sysMt (k := 2) (by omega) hadm
  case host => exact fun s => ⟨⟨mtHold 2 s, rfl, mtHold_frame 2 s, fun k => mtHold_hold 2 k s⟩, rfl, rfl⟩

end Sys2Proof.Machine
end

section
/-! Frame of the peripheral blocks: what their commands do stays in registers and in the typed state of the block itself. -/
namespace Sys2Proof.Machine

/-- The parts of a state that the commands of a peripheral block leave alone: the queue, memory, parameter banks, processors,
cells, channels, claims and live counters. -/
def outsideBlocks (s : State) :
    List Instr × Mem × Mem × Vector Proc 34 × Vector Cell 32 × Vector Chan 32 × SMap Nat × SMap Nat :=
  (s.pending, s.mem, s.bank, s.procs, s.cells, s.chans, s.claims, s.ctr)

section SharedOperations
variable (s : State)

@[simp] theorem outsideBlocks_wr (a : Nat) (v : Word) : outsideBlocks (s.wr a v) = outsideBlocks s := by
  simp [outsideBlocks]
@[simp] theorem outsideBlocks_wb (a i : Nat) (b : Bool) : outsideBlocks (s.wb a i b) = outsideBlocks s := by
  simp [outsideBlocks, State.wb]
@[simp] theorem outsideBlocks_bump (a n : Nat) : outsideBlocks (s.bump a n) = outsideBlocks s := by
  simp [outsideBlocks, State.bump]
@[simp] theorem outsideBlocks_mapCyc (f : Cyc → Cyc) : outsideBlocks (s.mapCyc f) = outsideBlocks s := by
  simp [outsideBlocks]
@[simp] theorem outsideBlocks_mapClk (f : Clk → Clk) : outsideBlocks (s.mapClk f) = outsideBlocks s := by
  simp [outsideBlocks]
@[simp] theorem outsideBlocks_mapBus (f : Bus → Bus) : outsideBlocks (s.mapBus f) = outsideBlocks s := by
  simp [outsideBlocks]
@[simp] theorem outsideBlocks_mapSxt (f : Sxt → Sxt) : outsideBlocks (s.mapSxt f) = outsideBlocks s := by
  simp [outsideBlocks]
@[simp] theorem outsideBlocks_mapKey (f : Key → Key) : outsideBlocks (s.mapKey f) = outsideBlocks s := by
  simp [outsideBlocks]
@[simp] theorem outsideBlocks_mapCup (f : Cup → Cup) : outsideBlocks (s.mapCup f) = outsideBlocks s := by
  simp [outsideBlocks]
@[simp] theorem outsideBlocks_mapHostif (f : Hostif → Hostif) : outsideBlocks (s.mapHostif f) = outsideBlocks s := by
  simp [outsideBlocks]
@[simp] theorem outsideBlocks_hwIrq (k : Nat) : outsideBlocks (hwIrq k s) = outsideBlocks s := by simp [hwIrq]
@[simp] theorem outsideBlocks_endFrame : outsideBlocks (endFrame s) = outsideBlocks s := by simp [endFrame]
@[simp] theorem outsideBlocks_hostShown (w : Word) : outsideBlocks (hostShown w s) = outsideBlocks s := by
  simp [hostShown]
@[simp] theorem outsideBlocks_mtHold (key : Nat) : outsideBlocks (mtHold key s) = outsideBlocks s := by simp [mtHold]
@[simp] theorem outsideBlocks_recordFault (a req : Nat) (kind : Bool) :
    outsideBlocks (recordFault a req kind s) = outsideBlocks s := by simp [recordFault]

/-- A plain write of a register goes to the register alone (R6). -/
@[simp] theorem outsideBlocks_plainWrite (a : Nat) (v : Word) : outsideBlocks (plainWrite a v s) = outsideBlocks s := by
  unfold plainWrite
  split <;> simp [clearBits]

/-- An access stays within the blocks where its effect does: one that faults is recorded in registers (R88). -/
theorem outsideBlocks_withAccess {q a : Nat} {write : Bool} {eff : State → State} {s : State}
    (h : outsideBlocks (eff s) = outsideBlocks s) : outsideBlocks (withAccess q a write eff s) = outsideBlocks s := by
  unfold withAccess
  split
  · rfl
  · split
    · exact outsideBlocks_recordFault ..
    · exact h

end SharedOperations

section BlockEffects
variable (s : State)

/-- A frame of the display changes Cupola's state and status (R357, R360). -/
@[simp] theorem outsideBlocks_frameEnd : outsideBlocks (frameEnd s) = outsideBlocks s := by
  unfold frameEnd
  dsimp only
  split <;> simp

@[simp] theorem outsideBlocks_framesBegin (was : Bool) : outsideBlocks (framesBegin was s) = outsideBlocks s := by
  unfold framesBegin
  split <;> simp

/-- A read of a counter window changes at most its reader's holding register (R291). -/
@[simp] theorem outsideBlocks_fixWindowRead (q a : Nat) : outsideBlocks (fixWindowRead q a s).2 = outsideBlocks s := by
  unfold fixWindowRead
  dsimp only
  repeat' split
  all_goals simp

/-- A read of a completion queue takes at most one word from it (R320). -/
@[simp] theorem outsideBlocks_sxtDone (bulk : Bool) : outsideBlocks (sxtDone bulk s).2 = outsideBlocks s := by
  unfold sxtDone
  split <;> simp

/-- A read of the change FIFO takes at most one entry from it (R347). -/
@[simp] theorem outsideBlocks_fifoPop (host : Bool) : outsideBlocks (fifoPop host s).2 = outsideBlocks s := by
  unfold fifoPop
  split
  · rfl
  · split <;> simp

@[simp] theorem outsideBlocks_txSet (ws : List Word) : outsideBlocks (txSet ws s) = outsideBlocks s := by
  unfold txSet
  dsimp only
  split <;> simp

@[simp] theorem outsideBlocks_txFlush : outsideBlocks (txFlush s) = outsideBlocks s := by simp [txFlush]

@[simp] theorem outsideBlocks_rxPush (ws : List Word) : outsideBlocks (rxPush ws s) = outsideBlocks s := by
  unfold rxPush
  dsimp only
  split <;> simp

@[simp] theorem outsideBlocks_replied (st : Nat) : outsideBlocks (replied st s) = outsideBlocks s := by simp [replied]

@[simp] theorem outsideBlocks_endReply : outsideBlocks (endReply s) = outsideBlocks s := by
  unfold endReply
  dsimp only
  split <;> simp

/-- Placing a staged reply moves words within HOSTIF (R382). -/
@[simp] theorem outsideBlocks_placeStaged : outsideBlocks (placeStaged s) = outsideBlocks s := by
  unfold placeStaged
  split
  · split
    · dsimp only
      split <;> simp
    · rfl
  · rfl

@[simp] theorem outsideBlocks_rxFlush : outsideBlocks (rxFlush s) = outsideBlocks s := by
  unfold rxFlush
  dsimp only
  split <;> simp

end BlockEffects

section BlockCommands
variable {i : Instr} {s : State}

/-- Command i runs, and leaves alone what lies outside the peripheral blocks. -/
def KeepsToBlock (i : Instr) (s : State) : Prop := ∃ t, Runs i s t ∧ outsideBlocks t = outsideBlocks s

/-- A gated command keeps to its block, its gate open or not, where its effect does. -/
theorem keepsToBlock_of_happens {g : Bool} {eff : State → State} (hexec : exec i s = happens g eff s)
    (h : outsideBlocks (eff s) = outsideBlocks s) : KeepsToBlock i s := by
  refine ⟨_, hexec, ?_⟩
  split
  · exact h
  · rfl

/-- A command that is one access keeps to its block, admitted or not, where its effect does. -/
theorem keepsToBlock_of_access {q a : Nat} {write : Bool} {eff : State → State}
    (hexec : exec i s = .next (withAccess q a write eff s)) (h : outsideBlocks (eff s) = outsideBlocks s) : KeepsToBlock i s :=
  ⟨_, hexec, outsideBlocks_withAccess h⟩

variable (s)

theorem mtLowRead_keepsToBlock (r : MtReader) : KeepsToBlock (.mtLowRead r) s := by
  cases r with
  | helm h => exact keepsToBlock_of_happens (exec_mtLowRead_helm s h) (by simp)
  | host => exact keepsToBlock_of_happens (exec_mtLowRead_host s) (by simp)
  | cell c => exact keepsToBlock_of_happens (exec_mtLowRead_cell s c) (by simp)

theorem keyFifoRead_keepsToBlock (host : Bool) (q : Req) : KeepsToBlock (.keyFifoRead host q) s := by
  cases host with
  | true => exact keepsToBlock_of_happens (eff := fun s => hostShown (fifoPop true s).1 (fifoPop true s).2) rfl (by simp)
  | false => exact keepsToBlock_of_access (eff := fun s => (fifoPop false s).2) rfl (by simp)

theorem cellStandby_keepsToBlock (q : Req) (c : CellId) (v : Word) : KeepsToBlock (.cellStandby q c v) s := by
  refine keepsToBlock_of_access
    (eff := fun s => if cellWriter q.toNat then plainWrite (cellBase c.1 + 0xC) v s else s) rfl ?_
  split <;> simp

theorem calibrationSettled_keepsToBlock (w : ChanId) : KeepsToBlock (.calibrationSettled w) s := by
  refine keepsToBlock_of_happens
    (eff := fun s => if w.1 < 20 then s.wb 0x73801 w.1 true else s.wb 0x73802 (w.1 - 20) true) rfl ?_
  split <;> simp

end BlockCommands

/-- Settles O60: each of the thirteen commands is a gated effect or one access, and its effect keeps to its block. -/
theorem blockCommandsKeepToTheirBlock : Obligations.BlockCommandsKeepToTheirBlock := by
  unfold Obligations.BlockCommandsKeepToTheirBlock
  intro i s hi
  suffices h : KeepsToBlock i s by
    obtain ⟨t, hruns, hkept⟩ := h
    simp only [outsideBlocks, Prod.mk.injEq] at hkept
    obtain ⟨hpending, hmem, hbank, hprocs, hcells, hchans, hclaims, hctr⟩ := hkept
    exact ⟨t, hruns, hmem, hbank, hprocs, hcells, hchans, hclaims, hctr, hpending⟩
  obtain ⟨r, rfl⟩ | rfl | ⟨ok, rfl⟩ | ⟨q, n, rfl⟩ | ⟨q, bulk, rfl⟩ | ⟨host, q, rfl⟩ | rfl | rfl | rfl | rfl | ⟨q, v, rfl⟩ |
    ⟨q, c, v, rfl⟩ | ⟨w, rfl⟩ := hi
  · exact mtLowRead_keepsToBlock s r
  · exact keepsToBlock_of_happens rfl (outsideBlocks_frameEnd s)
  · exact keepsToBlock_of_happens (eff := fun s => framesBegin (framesRun s) (s.wb 0x71C02 19 ok)) rfl (by simp)
  · exact keepsToBlock_of_access rfl (outsideBlocks_fixWindowRead s q.toNat (0x74400 + 2 * n.1))
  · exact keepsToBlock_of_access rfl (outsideBlocks_sxtDone s bulk)
  · exact keyFifoRead_keepsToBlock s host q
  · exact keepsToBlock_of_happens (eff := fun s => s.mapKey fun k => { k with scanning := true, scanAt := s.mt }) rfl
      (by simp)
  · exact keepsToBlock_of_happens (eff := fun s => s.mapKey fun k => { k with pos := 0 }) rfl (by simp)
  · exact keepsToBlock_of_happens (eff := fun s => txFlush (endFrame s)) rfl (by simp)
  · exact keepsToBlock_of_happens (eff := fun s => rxFlush (endFrame s)) rfl (by simp)
  · exact keepsToBlock_of_access rfl (outsideBlocks_plainWrite s 0x70004 v)
  · exact cellStandby_keepsToBlock s q c v
  · exact calibrationSettled_keepsToBlock s w

end Sys2Proof.Machine
end

section
/-! A tick of time on an idle queue: the counters move on first, and no effect that is due has come yet (R50, R52, R53). -/
namespace Sys2Proof.Machine

/-- The parts of a state that a tick leaves alone until what is due comes: the queue, registers, memory, parameter banks,
processors, power, channels, claims, live counters and the Fix. -/
def besideTick (s : State) :
    List Instr × Mem × Mem × Mem × Vector Proc 34 × Pwr × Vector Chan 32 × SMap Nat × SMap Nat × Fix :=
  (s.pending, s.reg, s.mem, s.bank, s.procs, s.pwr, s.chans, s.claims, s.ctr, s.fix)

/-- The parts of a state that the end of a fabric cycle leaves alone: those beside a tick, and the clocks. -/
def besideCycleEnd (s : State) := (besideTick s, s.clk)

/-- What every pass of a loop leaves alone, the loop leaves alone. -/
theorem forAll_keeps {α : Type} (view : State → α) {f : Nat → State → State} (hf : ∀ i t, view (f i t) = view t) (n : Nat)
    (s : State) : view (forAll n f s) = view s := by
  unfold forAll
  induction List.range n generalizing s with
  | nil => rfl
  | cons i l ih => rw [List.foldl_cons, ih, hf]

section CycleEnd
variable (s : State)

/-- A protection entry that is to trip is set up for a later cycle (R243 to R245). -/
theorem besideCycleEnd_tripSoon (i : Nat) : besideCycleEnd (tripSoon i s) = besideCycleEnd s := by
  unfold tripSoon
  dsimp only
  split <;> simp [besideCycleEnd, besideTick]

theorem besideCycleEnd_protTick : besideCycleEnd (protTick s) = besideCycleEnd s := by
  have hscan : besideCycleEnd (protScan s) = besideCycleEnd s := by
    refine forAll_keeps besideCycleEnd (fun i t => ?_) 16 s
    split
    · exact besideCycleEnd_tripSoon t i
    · rfl
  simpa [protTick, besideCycleEnd, besideTick] using hscan

theorem besideCycleEnd_phaseTick (m : Nat) : besideCycleEnd (phaseTick m s) = besideCycleEnd s := by
  unfold phaseTick
  split <;> simp [besideCycleEnd, besideTick]

theorem besideCycleEnd_angleTick (c : Nat) : besideCycleEnd (angleTick c s) = besideCycleEnd s := by
  unfold angleTick
  split <;> simp [besideCycleEnd, besideTick]

theorem besideCycleEnd_emuTick (m : Nat) : besideCycleEnd (emuTick m s) = besideCycleEnd s := by
  unfold emuTick
  dsimp only
  split
  · simp [besideCycleEnd, besideTick]
  · split <;> simp [besideCycleEnd, besideTick]

theorem besideCycleEnd_posTick (n : Nat) : besideCycleEnd (posTick n s) = besideCycleEnd s := by
  unfold posTick
  dsimp only
  split <;> simp [besideCycleEnd, besideTick]

/-- The end of a cycle sets up trips and moves phases, angles and positions; the rest of the state stands (R197, R243, R264). -/
theorem besideCycleEnd_cycleEnd : besideCycleEnd (cycleEnd s) = besideCycleEnd s := by
  unfold cycleEnd
  split
  · calc besideCycleEnd (forAll 3 posTick (forAll 2 emuTick (forAll 32 angleTick (forAll 8 phaseTick (protTick s)))))
      _ = besideCycleEnd (forAll 2 emuTick (forAll 32 angleTick (forAll 8 phaseTick (protTick s)))) :=
        forAll_keeps _ (fun i t => besideCycleEnd_posTick t i) 3 _
      _ = besideCycleEnd (forAll 32 angleTick (forAll 8 phaseTick (protTick s))) :=
        forAll_keeps _ (fun i t => besideCycleEnd_emuTick t i) 2 _
      _ = besideCycleEnd (forAll 8 phaseTick (protTick s)) := forAll_keeps _ (fun i t => besideCycleEnd_angleTick t i) 32 _
      _ = besideCycleEnd (protTick s) := forAll_keeps _ (fun i t => besideCycleEnd_phaseTick t i) 8 _
      _ = besideCycleEnd s := besideCycleEnd_protTick s
  · rfl

theorem cycleEnd_clk : (cycleEnd s).clk = s.clk := congrArg Prod.snd (besideCycleEnd_cycleEnd s)

theorem besideTick_cycleEnd : besideTick (cycleEnd s) = besideTick s := congrArg Prod.fst (besideCycleEnd_cycleEnd s)

/-- A fabric that does not work ends no cycle. -/
theorem cycleEnd_of_not_fabric {s : State} (h : s.fabric = false) : cycleEnd s = s := by simp [cycleEnd, h]

end CycleEnd

section ClockTick
variable (s : State)

/-- Keep's count after an edge of REFCLK: one period of 18 750 cycles on, unless it is frozen (R53). -/
theorem keepTick_keepMt :
    (keepTick s).clk.keepMt = if s.clk.frozen then s.clk.keepMt else (s.clk.keepMt + 18750) % 2 ^ 60 := by
  unfold keepTick
  split <;> rfl

@[simp] theorem keepTick_fabMt : (keepTick s).clk.fabMt = s.clk.fabMt := by
  unfold keepTick
  split <;> simp

@[simp] theorem keepTick_fabOn : (keepTick s).clk.fabOn = s.clk.fabOn := by
  unfold keepTick
  split <;> simp

@[simp] theorem keepTick_sched : (keepTick s).sched = s.sched := by
  unfold keepTick
  split <;> simp

@[simp] theorem besideTick_keepTick : besideTick (keepTick s) = besideTick s := by
  unfold keepTick
  split <;> simp [besideTick]

/-- A return to MERIDIAN sets the source and the edge of the fabric's clock (R50). -/
theorem returnTick_frame : besideTick (returnTick s) = besideTick s ∧ (returnTick s).sched = s.sched ∧
    (returnTick s).clk.fabMt = s.clk.fabMt ∧ (returnTick s).clk.fabOn = s.clk.fabOn := by
  unfold returnTick
  dsimp only
  split <;> simp [besideTick]

/-- The edge of REFCLK moves Keep's count alone, and the fabric's goes on as it was set (R53). -/
theorem edgeTick_frame : besideTick (edgeTick s) = besideTick s ∧ (edgeTick s).sched = s.sched ∧
    (edgeTick s).clk.fabMt = s.clk.fabMt ∧ (edgeTick s).clk.fabOn = s.clk.fabOn := by
  have hadvance (t : State) : besideTick (t.advance 1) = besideTick t := by simp [besideTick]
  unfold edgeTick
  split
  · split <;> simp
  · split
    · simp
    · split <;> simp [hadvance]

/-- A fabric on MERIDIAN stays there (R50). -/
theorem returnTick_of_mer {s : State} (h : s.clk.fabMer = true) : returnTick s = s := by simp [returnTick, h]

/-- On MERIDIAN Keep's count moves at each edge of REFCLK, every 18 750 cycles, unless it is frozen (R53). -/
theorem edgeTick_keepMt_of_mer {s : State} (h : s.clk.fabMer = true) :
    (edgeTick s).clk.keepMt = if s.clk.fabMt % 18750 = s.clk.edge ∧ s.clk.frozen = false then (s.clk.keepMt + 18750) % 2 ^ 60
      else s.clk.keepMt := by
  rw [edgeTick, if_pos h]
  by_cases hedge : s.clk.fabMt % 18750 = s.clk.edge
  · cases hfrozen : s.clk.frozen <;> simp [hedge, keepTick_keepMt, hfrozen]
  · simp [hedge]

end ClockTick

section Counted
variable (s : State)

/-- The fabric counter's next cycle, the record of the cycle before cleared (R50, R52). -/
def nextCycle (s : State) : State :=
  ((cycleEnd s).mapClk fun c => { c with fabMt := (c.fabMt + 1) % 2 ^ 60 }).mapCyc fun _ => Cyc.reset

/-- A tick in which the counters have moved on, and nothing that is due has come yet. -/
def counted (s : State) : State :=
  if s.clk.fabOn then edgeTick (returnTick (nextCycle s)) else keepTick (s.mapCyc fun _ => Cyc.reset)

/-- What is due comes: in a fabric that works the Fix, the effects of the cycle and Helm1's reading; else the events of SEV. -/
def dueCome (s : State) : State :=
  if s.clk.fabOn && (counted s).fabric then mpptRead (occurDue (fixTake (counted s))) else sevDue (counted s)

/-- Outside OFF a tick moves the counters, lets what is due come, and ends with the calculator's own (R50, R52, R53). -/
theorem tick_of_on {s : State} (hoff : s.pwr.off = false) : tick s = calcDraw (calcTrim (dueCome s)) := by
  have hfab : fabricTick s = if (edgeTick (returnTick (nextCycle s))).fabric
      then mpptRead (occurDue (fixTake (edgeTick (returnTick (nextCycle s))))) else sevDue (edgeTick (returnTick (nextCycle s))) :=
    rfl
  cases hon : s.clk.fabOn <;> simp [tick, hoff, dueCome, counted, hon, hfab, stillTick]

theorem nextCycle_clk : (nextCycle s).clk = { s.clk with fabMt := (s.clk.fabMt + 1) % 2 ^ 60 } := by
  simp [nextCycle, cycleEnd_clk]

theorem besideTick_nextCycle : besideTick (nextCycle s) = besideTick s := by
  simpa [nextCycle, besideTick] using besideTick_cycleEnd s

theorem counted_of_fabOn {s : State} (hon : s.clk.fabOn = true) : counted s = edgeTick (returnTick (nextCycle s)) := if_pos hon

theorem counted_of_still {s : State} (hon : s.clk.fabOn = false) : counted s = keepTick (s.mapCyc fun _ => Cyc.reset) := by
  simp [counted, hon]

/-- The counters' move leaves alone what lies beside a tick. -/
theorem besideTick_counted : besideTick (counted s) = besideTick s := by
  unfold counted
  split
  · rw [(edgeTick_frame _).1, (returnTick_frame _).1, besideTick_nextCycle]
  · rw [besideTick_keepTick]
    simp [besideTick]

theorem counted_fabOn : (counted s).clk.fabOn = s.clk.fabOn := by
  cases hon : s.clk.fabOn
  · simp [counted_of_still hon, hon]
  · obtain ⟨-, -, -, hedge⟩ := edgeTick_frame (returnTick (nextCycle s))
    obtain ⟨-, -, -, hreturn⟩ := returnTick_frame (nextCycle s)
    rw [counted_of_fabOn hon, hedge, hreturn, nextCycle_clk, hon]

/-- A fabric works by its power, its registers and its count, so that it works after the counters' move where it did before. -/
theorem counted_fabric : (counted s).fabric = s.fabric := by
  have hbeside := besideTick_counted s
  simp only [besideTick, Prod.mk.injEq] at hbeside
  obtain ⟨-, hreg, -, -, -, hpwr, -, -, -, -⟩ := hbeside
  simp only [State.fabric, State.clocked, State.dom, State.rb, State.rd, State.blockStopped, hreg, hpwr, counted_fabOn]

theorem counted_fabMt {s : State} (hon : s.clk.fabOn = true) : (counted s).clk.fabMt = (s.clk.fabMt + 1) % 2 ^ 60 := by
  obtain ⟨-, -, hedge, -⟩ := edgeTick_frame (returnTick (nextCycle s))
  obtain ⟨-, -, hreturn, -⟩ := returnTick_frame (nextCycle s)
  rw [counted_of_fabOn hon, hedge, hreturn, nextCycle_clk]

/-- Keep's count while the fabric counts on MERIDIAN (R53). -/
theorem counted_keepMt_of_mer {s : State} (hon : s.clk.fabOn = true) (hmer : s.clk.fabMer = true) :
    (counted s).clk.keepMt = if (counted s).clk.fabMt % 18750 = s.clk.edge ∧ s.clk.frozen = false
      then (s.clk.keepMt + 18750) % 2 ^ 60 else s.clk.keepMt := by
  have hnext : (nextCycle s).clk.fabMer = true := by rw [nextCycle_clk, hmer]
  rw [counted_fabMt hon, counted_of_fabOn hon, returnTick_of_mer hnext, edgeTick_keepMt_of_mer hnext, nextCycle_clk]

/-- Keep's count while the fabric does not count (R53). -/
theorem counted_keepMt_of_still {s : State} (hon : s.clk.fabOn = false) :
    (counted s).clk.keepMt = if s.clk.frozen then s.clk.keepMt else (s.clk.keepMt + 18750) % 2 ^ 60 := by
  rw [counted_of_still hon, keepTick_keepMt, mapCyc_clk]

/-- A stopped fabric sets nothing up as the counters move. -/
theorem counted_sched_of_not_fabric {s : State} (hfab : s.fabric = false) : (counted s).sched = s.sched := by
  cases hon : s.clk.fabOn
  · simp [counted_of_still hon]
  · obtain ⟨-, hedge, -, -⟩ := edgeTick_frame (returnTick (nextCycle s))
    obtain ⟨-, hreturn, -, -⟩ := returnTick_frame (nextCycle s)
    rw [counted_of_fabOn hon, hedge, hreturn, nextCycle, cycleEnd_of_not_fabric hfab]
    simp

theorem dueCome_of_fabOn {s : State} (hon : s.clk.fabOn = true) :
    dueCome s = if (counted s).fabric then mpptRead (occurDue (fixTake (counted s))) else sevDue (counted s) := by
  simp [dueCome, hon]

theorem dueCome_of_not_fabric {s : State} (hfab : s.fabric = false) : dueCome s = sevDue (counted s) := by
  simp [dueCome, counted_fabric, hfab]

/-- A fabric works only while it counts (R53). -/
theorem not_fabric_of_still {s : State} (hon : s.clk.fabOn = false) : s.fabric = false := by simp [State.fabric, hon]

/-- A change of the schedule that leaves it as it is changes nothing. -/
theorem mapSched_of_eq {s : State} {f : List (Nat × Ev) → List (Nat × Ev)} (h : f s.sched = s.sched) : s.mapSched f = s := by
  rw [State.mapSched, h]

/-- Where nothing has been set up, no event of SEV arrives (R141). -/
theorem sevDue_of_sched_nil {s : State} (h : s.sched = []) : sevDue s = s := by
  have hsame : s.mapSched (fun l => l.filter fun e => !sevOf e.2) = s := mapSched_of_eq (by simp [h])
  simp [sevDue, h, hsame]

/-- The calculator's own does nothing while no calculator is active and no picture of one stands (R323). -/
theorem calcDraw_calcTrim_of_inactive {s : State} (hcalc : calcActive s = false) (hdrawn : s.calculator.drawn = false) :
    calcDraw (calcTrim s) = s := by
  have htrim : calcTrim s = s := by simp [calcTrim, calcUp, hcalc]
  rw [htrim]
  simp [calcDraw, hcalc, hdrawn]

end Counted

/-- Settles O36: the tick's counters move first (u), then what is due comes (v), and the calculator's own ends the tick. -/
theorem idleStepIsATick : Obligations.IdleStepIsATick := by
  unfold Obligations.IdleStepIsATick
  intro s hidle
  have hstep : step s = .next (tick s) := by simp [step, hidle]
  refine ⟨counted s, dueCome s, tick s, hstep, fun hoff => by simp [tick, hoff], fun hoff => ?_⟩
  have hbeside := besideTick_counted s
  simp only [besideTick, Prod.mk.injEq] at hbeside
  obtain ⟨hpending, hreg, hmem, hbank, hprocs, -, hchans, hclaims, hctr, hfix⟩ := hbeside
  refine ⟨hreg, hmem, hbank, hprocs, hchans, hclaims, hctr, hfix, hpending.trans hidle, tick_of_on hoff, ?inactive, ?counting,
    ?still, ?nothingDue⟩
  case inactive => exact fun hcalc hdrawn => (tick_of_on hoff).trans (calcDraw_calcTrim_of_inactive hcalc hdrawn)
  case counting => exact fun hon => ⟨counted_fabMt hon, dueCome_of_fabOn hon, counted_keepMt_of_mer hon⟩
  case still => exact fun hon => ⟨dueCome_of_not_fabric (not_fabric_of_still hon), counted_keepMt_of_still hon⟩
  case nothingDue =>
    intro hfab hsched
    rw [dueCome_of_not_fabric hfab, sevDue_of_sched_nil ((counted_sched_of_not_fabric hfab).trans hsched)]

end Sys2Proof.Machine
end

section
/-! The reset and boot commands: each is gated on the condition its rule names, or is one access to a register. -/
namespace Sys2Proof.Machine

section Resets
variable {s : State}

/-- A command has at most one next state. -/
theorem Runs.unique {i : Instr} {t u : State} (ht : Runs i s t) (hu : Runs i s u) : t = u :=
  Host.Outcome.next.inj (ht.symm.trans hu)

theorem runs_brownOut (hon : s.pwr.off = false) : Runs .brownOut s (brownOut s) := runs_of_happens (by simp [hon]) rfl

theorem runs_coldReset : Runs .coldReset s (resetCold s) := rfl

theorem runs_pinReset (hon : s.pwr.off = false) : Runs .pinReset s (resetKeep 1 s) := runs_of_happens (by simp [hon]) rfl

theorem runs_lockupReset (h0 : (s.proc 0).run = .lockup) (h1 : (s.proc 1).run = .lockup) :
    Runs .lockupReset s (resetKeep 5 s) := runs_of_happens (by simp [h0, h1]) rfl

theorem runs_sysreset (hon : s.pwr.off = false) : Runs .sysreset s (resetKeep 4 s) := runs_of_happens (by simp [hon]) rfl

theorem runs_softReset {q : Req} {v : Word} (h : Admitted q 0x70002 true s) :
    Runs (.softReset q v) s (sysResetWrite q.toNat v s) := runs_of_admitted h rfl

/-- FLASH_CONTAINER_READ is gated on the stage that waits for the container, while no image has been loaded (R426, R448). -/
theorem runs_flashContainerRead {kind : Bool} {ws : List Word} (hboot : booting s = true)
    (hstage : bootStage s = if kind then 7 else 3) (hentry : s.boot.entryPoints = none) :
    Runs (.flashContainerRead kind ws) s (flashRead kind ws s) :=
  runs_of_happens (g := booting s && decide (bootStage s = if kind then 7 else 3) && s.boot.entryPoints.isNone)
    (by simp [hboot, hstage, hentry]) rfl

/-- IMAGE_HANDOVER goes to the entry points of the image that has been loaded (R429). -/
theorem runs_imageHandover {e : Word × Word} (hentry : s.boot.entryPoints = some e) (hboot : booting s = true) :
    Runs .imageHandover s (imageHandover e s) := by
  refine runs_of_happens hboot ?_
  change execImageHandover s = _
  rw [execImageHandover, hentry]

end Resets

/-- Settles O4: the gate of each event is open under its condition, the register commands are one access each, and the boot
commands are gated on the ROM's being at work. -/
theorem resetAndBootCommandsComplete : Obligations.ResetAndBootCommandsComplete := by
  unfold Obligations.ResetAndBootCommandsComplete
  intro s
  refine ⟨runs_brownOut, runs_coldReset, runs_pinReset, runs_lockupReset, runs_sysreset, ?softReset, ?resetRelease,
    ?bootSequence, ?flashContainerRead, ?imageHandover, ?otpAddrWrite, ?otpProg, ?powerOff, ?vdda33Crossing⟩
  case softReset => exact fun q v h => runs_softReset h
  case resetRelease => exact fun h => runs_of_happens h rfl
  case bootSequence => exact fun h => runs_of_happens h rfl
  case flashContainerRead => exact fun kind ws hboot hstage hentry => runs_flashContainerRead hboot hstage hentry
  case imageHandover => exact fun e hentry hboot => runs_imageHandover hentry hboot
  case otpAddrWrite => exact fun q v h => runs_of_admitted h rfl
  case otpProg =>
    exact fun a v hon => runs_of_happens
      (eff := fun s => s.mapBoot fun b => { b with otp := update zeroAt b.otp a.1 (lookup zeroAt b.otp a.1 ||| v.toNat) })
      (by simp [hon]) rfl
  case powerOff => rfl
  case vdda33Crossing => exact fun above hon => runs_of_happens (by simp [hon]) rfl

end Sys2Proof.Machine
end

section
/-! The state after reset (R83, R90, R97, R101, R103, R164). -/
namespace Sys2Proof.Machine

/-- The processors after reset: the first two are the Helm cores (R101, R164). -/
theorem reset_proc {p : Nat} (h : p < 34) : State.reset.proc p = Proc.reset (decide (p < 2)) := by
  simp [State.proc, State.reset, vget, h]

/-- Every general register of a processor is 0 after reset (R101). -/
theorem reset_g {p : Nat} (h : p < 34) (r : BitVec 4) : State.reset.g p r = 0 := by
  rw [State.g, reset_proc h]
  simp [Proc.reset, vget, r.isLt]

/-- No channel's s is high after reset (R227). -/
theorem reset_chan (w : Nat) : State.reset.chan w = Chan.reset := by
  by_cases h : w < 32 <;> simp [State.chan, State.reset, vget, h]

/-- A live counter is 0 after reset: none is stored, and no channel's on-time runs (R289). -/
theorem reset_counter (i : Nat) : State.reset.counter i = 0 := by
  rw [State.counter, reset_chan, if_neg (by simp [Chan.reset])]
  rfl

/-- Domains 1 to 5 are ready after reset (R72, R83). -/
theorem reset_dom {d : Nat} (hlo : 1 ≤ d) (hhi : d ≤ 5) : State.reset.dom d = true := by
  have hstatus : State.reset.rd 0x70800 = 0x00F80#20 := by decide
  rw [State.dom, State.rb, hstatus]
  interval_cases d <;> rfl

/-- Memory outside the boot ROM reads 0 until it is written (R90). -/
theorem memDefault_of_not_rom {a : Nat} (h : a < 0x30000 ∨ 0x38000 ≤ a) : memDefault a = 0 := if_neg (by omega)

theorem reset_rdMem (a : Nat) : State.reset.rdMem a = memDefault a := rfl

/-- Settles O38: the processors, the domains, memory and the counters are read off by their lemmas; the rest is the record of
State.reset itself. -/
theorem resetLeavesTheStatedValues : Obligations.ResetLeavesTheStatedValues := by
  unfold Obligations.ResetLeavesTheStatedValues
  rintro s rfl
  refine ⟨?registers, ?helm, ?sequencers, ?power, fun d => reset_dom, fun cls idx => rfl, ?lock, ?low, ?high, ?fix,
    reset_counter⟩
  case registers => exact fun p h => ⟨reset_g h, by simp [reset_proc h, Proc.reset]⟩
  case helm =>
    intro p h
    have hproc : State.reset.proc p = Proc.reset true := by rw [reset_proc (by omega), decide_eq_true h]
    refine ⟨?_, ?_, ?_⟩
    · rw [State.vbaseOf, hproc]; rfl
    · rw [hproc]; rfl
    · rw [State.pcOf, hproc]; rfl
  case sequencers =>
    intro p hcell h
    rw [reset_proc h, decide_eq_false (by omega)]
    rfl
  case power => decide
  case lock => decide
  case low => exact fun a h => (reset_rdMem a).trans (memDefault_of_not_rom (.inl h))
  case high => exact fun a h => (reset_rdMem a).trans (memDefault_of_not_rom (.inr h))
  case fix => decide

end Sys2Proof.Machine
end

section
/-! What a reset that keeps KEEP leaves: Keep SRAM and the Keep bits of the registers, and of the rest what reset gives
(R61, R90, R423). -/
namespace Sys2Proof.Machine

/-- A selection of keys leaves the entries of those keys, and every other key unlisted. -/
theorem lookup_filter_key {α : Type} (d : Nat → α) (p : Nat → Bool) (m : SMap α) (k : Nat) :
    lookup d (m.filter fun x => p x.1) k = if p k then lookup d m k else d k := by
  induction m with
  | nil => simp [lookup]
  | cons x m ih =>
    obtain ⟨j, v⟩ := x
    by_cases hj : j = k
    · subst hj
      cases hp : p j <;> simp [hp, lookup, ih]
    · cases hp : p j <;> simp [hp, lookup, ih, hj]

section Bits
variable (w : Word) (i : Nat) (b : Bool)

/-- Setting a bit of a word replaces that digit of its binary form. -/
theorem toNat_putBit : (putBit w i b).toNat =
    (2 ^ i * (2 * (w.toNat / 2 ^ i / 2) + b.toNat) + w.toNat % 2 ^ i) % 2 ^ 20 := by
  have hlow : 2 ^ i * (w.toNat / 2 ^ i) + w.toNat % 2 ^ i = w.toNat := Nat.div_add_mod ..
  have hdigit : 2 * (w.toNat / 2 ^ i / 2) + w.toNat / 2 ^ i % 2 = w.toNat / 2 ^ i := Nat.div_add_mod ..
  have hbit : b.toNat % 2 = b.toNat := by cases b <;> rfl
  have hsplit : w.toNat = 2 ^ i * (2 * (w.toNat / 2 ^ i / 2)) + w.toNat / 2 ^ i % 2 * 2 ^ i + w.toNat % 2 ^ i := by
    rw [Nat.mul_comm (_ % 2), ← Nat.mul_add, hdigit, hlow]
  rw [putBit, putFld, fld, BitVec.toNat_ofNat, pow_one, hbit]
  congr 1
  rw [Nat.mul_add, Nat.mul_comm b.toNat]
  omega

/-- Setting a bit of a word leaves every other bit. -/
theorem tst_putBit_ne {i j : Nat} (h : j ≠ i) : tst (putBit w i b) j = tst w j := by
  by_cases hj : j < 20
  · have hlow : w.toNat % 2 ^ i < 2 ^ i := Nat.mod_lt _ (Nat.two_pow_pos i)
    rw [tst, tst, toNat_putBit, Nat.testBit_mod_two_pow, decide_eq_true hj, Bool.true_and,
      Nat.testBit_two_pow_mul_add _ hlow]
    obtain hbelow | hover := Nat.lt_or_gt_of_ne h
    · simp [hbelow]
    · obtain ⟨k, rfl⟩ := Nat.exists_eq_add_of_lt hover
      have hrest : (2 * (w.toNat / 2 ^ i / 2) + b.toNat) / 2 = w.toNat / 2 ^ i / 2 := by
        have := b.toNat_le
        omega
      rw [if_neg (by omega), show i + k + 1 - i = k + 1 by omega, Nat.testBit_succ, hrest, ← Nat.testBit_succ,
        Nat.testBit_div_two_pow, Nat.add_comm, Nat.add_assoc]
  · have hzero (v : Word) : tst v j = false :=
      Nat.testBit_lt_two_pow (v.isLt.trans_le (Nat.pow_le_pow_right (by omega) (by omega)))
    rw [hzero, hzero]

end Bits

section KeepBits
variable {a : Nat} {r : RegRow}

theorem regReset_of_regRow (hrow : regRow a = some r) : regReset a = r.reset := by simp only [regReset, hrow]

theorem keepWord_of_regRow (hrow : regRow a = some r) (v : Word) :
    keepWord a v = (r.reset &&& ~~~ r.keep) ||| (v &&& r.keep) := by simp only [keepWord, hrow]

/-- An address without a register keeps nothing (R86). -/
theorem keepWord_of_regRow_none (hrow : regRow a = none) (v : Word) : keepWord a v = regReset a := by
  simp only [keepWord, hrow]

/-- What a register with a row holds after a reset that keeps KEEP, bit by bit (R423). -/
theorem tst_keepWord (hrow : regRow a = some r) (v : Word) (i : Nat) :
    tst (keepWord a v) i = if tst r.keep i then tst v i else tst r.reset i := by
  rw [keepWord_of_regRow hrow]
  simp only [tst, BitVec.testBit_toNat, BitVec.getLsbD_or, BitVec.getLsbD_and, BitVec.getLsbD_not]
  by_cases hi : i < 20
  · by_cases hkeep : r.keep[i] = true <;> simp [hi, hkeep]
  · have hzero (w : Word) : w.getLsbD i = false := BitVec.getLsbD_of_ge w i (by omega)
    simp [hzero]

/-- The reset value of a register is kept as it is. -/
theorem keepWord_regReset (a : Nat) : keepWord a (regReset a) = regReset a := by
  cases hrow : regRow a with
  | none => exact keepWord_of_regRow_none hrow _
  | some r =>
    rw [keepWord_of_regRow hrow, regReset_of_regRow hrow]
    ext i hi
    by_cases hkeep : r.keep[i] = true <;> simp [hkeep]

/-- Every register holds its Keep bits, of some word, after a reset that keeps KEEP. -/
theorem lookup_keepRegs_exists (m : Mem) (a : Nat) : ∃ v, lookup regReset (keepRegs m) a = keepWord a v := by
  induction m with
  | nil => exact ⟨regReset a, (keepWord_regReset a).symm⟩
  | cons x m ih =>
    obtain ⟨j, w⟩ := x
    unfold keepRegs at ih ⊢
    by_cases hk : keepWord j w = regReset j
    · simpa [hk] using ih
    · by_cases hj : j = a
      · subst hj
        exact ⟨w, by simp [hk, lookup]⟩
      · simpa [hk, lookup, hj] using ih

/-- Where the registers are canonical, they are the Keep bits of the word that the register held. -/
theorem lookup_keepRegs {m : Mem} (h : canonical regReset m = true) (a : Nat) :
    lookup regReset (keepRegs m) a = keepWord a (lookup regReset m a) := by
  induction m with
  | nil => exact (keepWord_regReset a).symm
  | cons x m ih =>
    obtain ⟨j, w⟩ := x
    simp only [canonical, Bool.and_eq_true, decide_eq_true_eq] at h
    obtain ⟨⟨-, habove⟩, hrest⟩ := h
    have hkept := above_keepRegs habove
    have ih := ih hrest
    unfold keepRegs at ih hkept ⊢
    by_cases hj : j = a
    · subst hj
      by_cases hk : keepWord j w = regReset j
      · simpa [hk, lookup] using lookup_above hkept
      · simp [hk, lookup]
    · by_cases hk : keepWord j w = regReset j <;> simpa [hk, lookup, hj] using ih

end KeepBits

section ResetKeep
variable (code : Nat) (s : State)

/-- The record of a cycle is no register. -/
theorem rd_mapCyc (f : Cyc → Cyc) (a : Nat) : (s.mapCyc f).rd a = s.rd a := rfl

/-- Setting a bit leaves the other bits of its register, and every other register. -/
theorem rb_wb_ne {a b i j : Nat} (v : Bool) (h : a ≠ b ∨ i ≠ j) : (s.wb b j v).rb a i = s.rb a i := by
  rw [State.rb, State.wb, rd_mapCyc, State.rb]
  by_cases hab : a = b
  · subst hab
    rw [rd_wr_self, tst_putBit_ne _ _ (h.resolve_left (· rfl))]
  · rw [rd_wr_ne s _ hab]

/-- A held reset clears domain bits of PWR_STATUS and clock bits of CLK_STATUS, and no other register bit (R57). -/
theorem rb_holdReset {a i : Nat} (hclk : a ≠ 0x70400) (hpwr : a = 0x70800 → i < 7) : (holdReset s).rb a i = s.rb a i := by
  have hdom {j : Nat} (hj : 7 ≤ j) : a ≠ 0x70800 ∨ i ≠ j := by
    by_cases ha : a = 0x70800
    · have := hpwr ha
      exact .inr (by omega)
    · exact .inl ha
  simp only [holdReset, List.foldl_cons, List.foldl_nil]
  rw [rb_wb_ne _ _ (.inl hclk), rb_wb_ne _ _ (.inl hclk), rb_wb_ne _ _ (.inl hclk), rb_wb_ne _ _ (hdom (by omega)),
    rb_wb_ne _ _ (hdom (by omega)), rb_wb_ne _ _ (hdom (by omega)), rb_wb_ne _ _ (hdom (by omega)),
    rb_wb_ne _ _ (hdom (by omega))]

/-- The record of a reset's cause is one register (R431). -/
theorem rb_resetCause {a i : Nat} (x : Nat × Nat) (h : a ≠ 0x70001) : (resetCause x s).rb a i = s.rb a i := by
  rw [resetCause, State.rb, rd_mapCyc, rd_wr_ne s _ h, State.rb]

/-- A register bit after a reset that keeps KEEP is that of the kept registers, where neither the cause is recorded nor the held
reset clears it (R57, R423). -/
theorem rb_resetKeep {a i : Nat} (hcause : a ≠ 0x70001) (hclk : a ≠ 0x70400) (hpwr : a = 0x70800 → i < 7) :
    (resetKeep code s).rb a i = tst (lookup regReset (keepRegs s.reg) a) i := by
  rw [resetKeep, rb_resetCause _ _ hcause, rb_holdReset _ hclk hpwr]
  rfl

/-- A Keep bit stays. -/
theorem rb_resetKeep_of_keep {s : State} (hs : s.WF) {a i : Nat} {r : RegRow} (hrow : regRow a = some r)
    (hkeep : tst r.keep i = true) (hcause : a ≠ 0x70001) (hclk : a ≠ 0x70400) (hpwr : a = 0x70800 → i < 7) :
    (resetKeep code s).rb a i = s.rb a i := by
  rw [rb_resetKeep code s hcause hclk hpwr, lookup_keepRegs hs.reg, tst_keepWord hrow, if_pos hkeep]
  rfl

/-- A bit that is not of Keep takes its reset value. -/
theorem rb_resetKeep_of_not_keep {a i : Nat} {r : RegRow} (hrow : regRow a = some r)
    (hkeep : tst r.keep i = false) (hcause : a ≠ 0x70001) (hclk : a ≠ 0x70400) (hpwr : a = 0x70800 → i < 7) :
    (resetKeep code s).rb a i = tst r.reset i := by
  obtain ⟨v, hv⟩ := lookup_keepRegs_exists s.reg a
  rw [rb_resetKeep code s hcause hclk hpwr, hv, tst_keepWord hrow, hkeep]
  rfl

/-- Memory after a reset that keeps KEEP: Keep SRAM as it was, and every other word as reset gives it (R61, R90). -/
theorem rdMem_resetKeep (a : Nat) : (resetKeep code s).rdMem a = if inKeepSram a then s.rdMem a else memDefault a :=
  lookup_filter_key memDefault inKeepSram s.mem a

theorem policy_resetKeep : (resetKeep code s).policy = Policy.reset s.policy.bounds := rfl

theorem clk_resetKeep : (resetKeep code s).clk = resetClk s.clk.keepMt s.clk.frozen := rfl

theorem boot_resetKeep : (resetKeep code s).boot = { State.reset.boot with otp := s.boot.otp } := rfl

end ResetKeep

section ResetCold
variable (s : State)

/-- A cold start resets memory, KEEP's included (R423). -/
theorem rdMem_resetCold (a : Nat) : (resetCold s).rdMem a = memDefault a := rfl

theorem boot_resetCold : (resetCold s).boot = { State.reset.boot with otp := s.boot.otp } := rfl

end ResetCold

section WarmResets

/-- u is s with records of KEEP made in registers from PWR_WAKE on: what a brown-out does before it resets (R61). -/
structure Recorded (s u : State) : Prop where
  frame : u = { s with reg := u.reg }
  wf : s.WF → u.WF
  rd : ∀ a, a < 0x70807 → u.rd a = s.rd a

theorem Recorded.refl (s : State) : Recorded s s := ⟨rfl, id, fun _ _ => rfl⟩

theorem Recorded.wr {s u : State} (h : Recorded s u) {a : Nat} (ha : 0x70807 ≤ a) (v : Word) : Recorded s (u.wr a v) where
  frame := congrArg (fun t => { t with reg := update regReset u.reg a v }) h.frame
  wf hs := (sound_wr (h.wf hs).sound a v).wf
  rd b hb := (rd_wr_ne u v (by omega)).trans (h.rd b hb)

/-- The record of a brown-out: its count, the wake record and the time (R61). -/
def brownOutRecord (s : State) : State :=
  ((s.bump 0x7080D).wr 0x70807 (BitVec.ofNat 20 (s.pstate * 65536 + 0xB * 2048 + 1))).wrWide 0x70808 3 s.clk.keepMt

/-- A brown-out makes its record and then resets (R61). -/
theorem brownOut_eq (s : State) : brownOut s = resetKeep 2 (brownOutRecord s) := by
  rw [brownOut, brownOutRecord]

/-- A wide write of three registers is three writes (R5). -/
theorem wrWide_three (s : State) (a n : Nat) :
    s.wrWide a 3 n = ((s.wr a (wordOf n 0)).wr (a + 1) (wordOf n 1)).wr (a + 2) (wordOf n 2) := by
  simp [State.wrWide, List.range_succ]

theorem recorded_brownOutRecord (s : State) : Recorded s (brownOutRecord s) := by
  rw [brownOutRecord, wrWide_three, State.bump]
  exact ((((Recorded.refl s).wr (by omega) _).wr (by omega) _).wr (by omega) _).wr (by omega) _ |>.wr (by omega) _

/-- The event of a reset that keeps KEEP comes about and leads from s to t: RST_N, the JTAG instruction, the lockup of both
cores, a write of SYS_RESET by Helm0 with the key and go, or a brown-out (R61, R423). -/
def WarmReset (s t : State) : Prop :=
  (s.pwr.off = false ∧ Runs .pinReset s t) ∨ (s.pwr.off = false ∧ Runs .sysreset s t) ∨
    ((s.proc 0).run = .lockup ∧ (s.proc 1).run = .lockup ∧ Runs .lockupReset s t) ∨
    (∃ v : Word, fld v 8 12 = 0x5EA ∧ tst v 0 = true ∧ Admitted 0x20#6 0x70002 true s ∧ Runs (.softReset 0x20#6 v) s t) ∨
    (s.pwr.off = false ∧ Runs .brownOut s t)

/-- Helm0's write of the key with go to SYS_RESET is the reset of cause 3 (R423). -/
theorem sysResetWrite_of_key {v : Word} (s : State) (hkey : fld v 8 12 = 0x5EA) (hgo : tst v 0 = true) :
    sysResetWrite 0x20 v s = resetKeep 3 s := by
  simp [sysResetWrite, isHelm0, hkey, hgo]

/-- Whichever of them it is, the reset itself is the one of R423, after the brown-out's record at most. -/
theorem WarmReset.exists_resetKeep {s t : State} (h : WarmReset s t) : ∃ code u, Recorded s u ∧ t = resetKeep code u := by
  obtain ⟨hon, hruns⟩ | ⟨hon, hruns⟩ | ⟨h0, h1, hruns⟩ | ⟨v, hkey, hgo, hadm, hruns⟩ | ⟨hon, hruns⟩ := h
  · exact ⟨1, s, .refl s, hruns.unique (runs_pinReset hon)⟩
  · exact ⟨4, s, .refl s, hruns.unique (runs_sysreset hon)⟩
  · exact ⟨5, s, .refl s, hruns.unique (runs_lockupReset h0 h1)⟩
  · exact ⟨3, s, .refl s, (hruns.unique (runs_softReset hadm)).trans (sysResetWrite_of_key s hkey hgo)⟩
  · exact ⟨2, brownOutRecord s, recorded_brownOutRecord s, (hruns.unique (runs_brownOut hon)).trans (brownOut_eq s)⟩

end WarmResets

/-- The Keep bit of PWR_STATUS is so_armed (R83). -/
theorem regRow_pwrStatus : ∃ r, regRow 0x70800 = some r ∧ r.keep = 0x00040#20 := ⟨_, rfl, rfl⟩

/-- The Keep bits of PWR_CFG are handshake and wake_order; host_en resets to 1 (R83). -/
theorem regRow_pwrCfg : ∃ r, regRow 0x70801 = some r ∧ r.keep = 0x00003#20 ∧ r.reset = 0x00004#20 := ⟨_, rfl, rfl, rfl⟩

/-- so_armed, handshake and wake_order stay through a reset that keeps KEEP, and host_en returns to 1 (R61, R83, R423). -/
theorem powerFields_resetKeep (code : Nat) (s : State) :
    (s.WF → (resetKeep code s).rb 0x70800 6 = s.rb 0x70800 6 ∧ (resetKeep code s).rb 0x70801 1 = s.rb 0x70801 1 ∧
      (resetKeep code s).rb 0x70801 0 = s.rb 0x70801 0) ∧ (resetKeep code s).rb 0x70801 2 = true := by
  obtain ⟨status, hstatus, hskeep⟩ := regRow_pwrStatus
  obtain ⟨cfg, hcfg, hckeep, hcreset⟩ := regRow_pwrCfg
  refine ⟨fun hs => ⟨?_, ?_, ?_⟩, ?_⟩
  · exact rb_resetKeep_of_keep code hs hstatus (by rw [hskeep]; rfl) (by omega) (by omega) (by omega)
  · exact rb_resetKeep_of_keep code hs hcfg (by rw [hckeep]; rfl) (by omega) (by omega) (by omega)
  · exact rb_resetKeep_of_keep code hs hcfg (by rw [hckeep]; rfl) (by omega) (by omega) (by omega)
  · rw [rb_resetKeep_of_not_keep code s hcfg (by rw [hckeep]; rfl) (by omega) (by omega) (by omega), hcreset]
    rfl

/-- Settles O59: every reset but COLD is the reset of R423 on a state that differs in records of KEEP at most; it selects Keep
SRAM and the Keep bits. A cold start takes memory and Keep's count from the state after reset. -/
theorem keepSurvivesResets : Obligations.KeepSurvivesResets := by
  unfold Obligations.KeepSurvivesResets
  refine ⟨fun s t hreset => ?warm, fun s t hruns => ?cold⟩
  case warm =>
    obtain ⟨code, u, hrec, rfl⟩ := WarmReset.exists_resetKeep hreset
    obtain ⟨hkept, hhost⟩ := powerFields_resetKeep code u
    have hrb {a i : Nat} (h : a < 0x70807) : u.rb a i = s.rb a i := congrArg (tst · i) (hrec.rd a h)
    refine ⟨?keepSram, ?otherMemory, ?bounds, ?keepMt, ?otp, ?fields, hhost, rfl, rfl, rfl⟩
    case keepSram =>
      intro a hlo hhi
      rw [rdMem_resetKeep, if_pos (by simp [inKeepSram, hlo, hhi])]
      exact congrArg (·.rdMem a) hrec.frame
    case otherMemory =>
      intro a h
      rw [rdMem_resetKeep, if_neg]
      simp only [inKeepSram, Bool.and_eq_true, decide_eq_true_eq]
      omega
    case bounds => exact (congrArg (·.bounds) (policy_resetKeep code u)).trans (congrArg (·.policy.bounds) hrec.frame)
    case keepMt => exact (congrArg (·.keepMt) (clk_resetKeep code u)).trans (congrArg (·.clk.keepMt) hrec.frame)
    case otp => exact (congrArg (·.otp) (boot_resetKeep code u)).trans (congrArg (·.boot.otp) hrec.frame)
    case fields =>
      intro hs
      obtain ⟨harmed, hhandshake, horder⟩ := hkept (hrec.wf hs)
      exact ⟨harmed.trans (hrb (by omega)), hhandshake.trans (hrb (by omega)), horder.trans (hrb (by omega))⟩
  case cold =>
    obtain rfl := hruns.unique runs_coldReset
    exact ⟨rdMem_resetCold s, rfl, congrArg (·.otp) (boot_resetCold s), rfl, rfl⟩

end Sys2Proof.Machine
end

section
/-! Fields of a word: what each holds after one of them is set (R6). -/
namespace Sys2Proof.Machine

section Fields
variable (w : Word) {lo n : Nat} (v : Nat)

/-- A field of a number taken as a word is that field of the number. -/
theorem fld_ofNat {x : Nat} (h : lo + n ≤ 20) : fld (BitVec.ofNat 20 x) lo n = x / 2 ^ lo % 2 ^ n := by
  have hsplit : 2 ^ 20 = 2 ^ lo * 2 ^ (20 - lo) := by rw [← Nat.pow_add, Nat.add_sub_cancel' (by omega)]
  rw [fld, BitVec.toNat_ofNat, hsplit, Nat.mod_mul_right_div_self,
    Nat.mod_mod_of_dvd _ (Nat.pow_dvd_pow 2 (by omega))]

/-- The number that a word with a field set is taken from: what lies above the field, the field, and what lies below. -/
theorem putFld_eq : putFld w lo n v =
    BitVec.ofNat 20 (2 ^ lo * (2 ^ n * (w.toNat / 2 ^ lo / 2 ^ n) + v % 2 ^ n) + w.toNat % 2 ^ lo) := by
  have hlow : 2 ^ lo * (w.toNat / 2 ^ lo) + w.toNat % 2 ^ lo = w.toNat := Nat.div_add_mod ..
  have hfield : 2 ^ n * (w.toNat / 2 ^ lo / 2 ^ n) + fld w lo n = w.toNat / 2 ^ lo := Nat.div_add_mod ..
  have hsplit : 2 ^ lo * (2 ^ n * (w.toNat / 2 ^ lo / 2 ^ n)) + fld w lo n * 2 ^ lo + w.toNat % 2 ^ lo = w.toNat := by
    rw [Nat.mul_comm (fld w lo n), ← Nat.mul_add, hfield, hlow]
  rw [putFld, Nat.mul_add, Nat.mul_comm (2 ^ lo) (v % 2 ^ n)]
  congr 1
  omega

/-- A field holds what it is set to. -/
theorem fld_putFld_self (h : lo + n ≤ 20) : fld (putFld w lo n v) lo n = v % 2 ^ n := by
  rw [putFld_eq, fld_ofNat h, Nat.mul_add_div (Nat.two_pow_pos lo), Nat.div_eq_of_lt (Nat.mod_lt _ (Nat.two_pow_pos lo)),
    Nat.add_zero, Nat.mul_add_mod, Nat.mod_mod]

/-- Setting a field leaves the fields below it. -/
theorem fld_putFld_below {lo' n' : Nat} (hbelow : lo' + n' ≤ lo) (h : lo' + n' ≤ 20) :
    fld (putFld w lo n v) lo' n' = fld w lo' n' := by
  have hfield (x : Nat) : x / 2 ^ lo' % 2 ^ n' = x % 2 ^ lo % 2 ^ (lo' + n') / 2 ^ lo' := by
    rw [Nat.mod_mod_of_dvd _ (Nat.pow_dvd_pow 2 hbelow), Nat.pow_add, Nat.mod_mul_right_div_self]
  rw [putFld_eq, fld_ofNat h, fld, hfield, hfield w.toNat, Nat.mul_add_mod, Nat.mod_mod]

/-- A bit is the field of its place. -/
theorem tst_eq_fld (i : Nat) : tst w i = decide (fld w i 1 = 1) := by
  rw [tst, fld, Nat.testBit_eq_decide_div_mod_eq, pow_one]

/-- A bit holds what it is set to. -/
theorem tst_putBit_self {i : Nat} (b : Bool) (h : i < 20) : tst (putBit w i b) i = b := by
  rw [tst_eq_fld, putBit, fld_putFld_self w _ h]
  cases b <;> rfl

/-- Setting a bit leaves the fields below it. -/
theorem fld_putBit_below {i : Nat} (b : Bool) (hbelow : lo + n ≤ i) (h : i < 20) : fld (putBit w i b) lo n = fld w lo n :=
  fld_putFld_below w _ hbelow (by omega)

/-- The requester field of a record of the BUS block holds a code of six bits (R88, R91, R100). -/
theorem fld_requester (q : Req) : fld (putFld 0 0 6 q.toNat) 0 6 = q.toNat := by
  rw [fld_putFld_self 0 _ (by omega), Nat.mod_eq_of_lt q.isLt]

end Fields

section Registers
variable (s : State)

/-- Setting a bit of a register changes that bit of it. -/
@[simp] theorem rd_wb_self (a i : Nat) (b : Bool) : (s.wb a i b).rd a = putBit (s.rd a) i b := by
  rw [State.wb, rd_mapCyc, rd_wr_self]

/-- Setting a bit of a register leaves the other registers. -/
theorem rd_wb_ne {a c : Nat} (i : Nat) (b : Bool) (h : c ≠ a) : (s.wb a i b).rd c = s.rd c := by
  rw [State.wb, rd_mapCyc, rd_wr_ne s _ h]

/-- A count advances by what is added. -/
@[simp] theorem rd_bump_self (a n : Nat) : (s.bump a n).rd a = s.rd a + BitVec.ofNat 20 n := rd_wr_self ..

/-- A count that advances leaves the other registers. -/
theorem rd_bump_ne {a c : Nat} (n : Nat) (h : c ≠ a) : (s.bump a n).rd c = s.rd c := rd_wr_ne s _ h

/-- t is s but for registers and the record of the present cycle. -/
structure RegistersOnly (s t : State) : Prop where
  frame : t = { s with reg := t.reg, cyc := t.cyc }

variable {s} {t : State}

theorem RegistersOnly.refl (s : State) : RegistersOnly s s := ⟨rfl⟩

theorem RegistersOnly.wr (h : RegistersOnly s t) (a : Nat) (v : Word) : RegistersOnly s (t.wr a v) where
  frame := congrArg (fun u => { u with reg := update regReset t.reg a v }) h.frame

theorem RegistersOnly.mapCyc (h : RegistersOnly s t) (f : Cyc → Cyc) : RegistersOnly s (t.mapCyc f) where
  frame := congrArg (fun u => { u with cyc := f t.cyc }) h.frame

theorem RegistersOnly.wb (h : RegistersOnly s t) (a i : Nat) (b : Bool) : RegistersOnly s (t.wb a i b) :=
  (h.wr a _).mapCyc _

theorem RegistersOnly.bump (h : RegistersOnly s t) (a n : Nat) : RegistersOnly s (t.bump a n) := h.wr a _

end Registers

end Sys2Proof.Machine
end

section
/-! An access that fails is recorded (R87, R88): what the record holds, and how the accesses of a cell sequencer meet it. -/
namespace Sys2Proof.Machine

section Record
variable (a : Nat) (q : Req) (k : Bool) (s : State)

/-- The record of a failed access is one of registers (R88). -/
theorem recordFault_registersOnly (req : Nat) : RegistersOnly s (recordFault a req k s) := by
  unfold recordFault
  exact ((((RegistersOnly.refl s).wr ..).wr ..).wb ..).bump ..

/-- BUS_FAULT_ADDR holds the address (R88). -/
theorem recordFault_addr (req : Nat) : (recordFault a req k s).rd 0x70C12 = BitVec.ofNat 20 a := by
  rw [recordFault, rd_bump_ne _ _ (by omega), rd_wb_ne _ _ _ (by omega), rd_wr_ne _ _ (by omega), rd_wr_self]

/-- BUS_FAULT_SRC is the requester, the kind and the valid bit (R88). -/
theorem recordFault_src (req : Nat) :
    (recordFault a req k s).rd 0x70C13 = putBit (putBit (putFld 0 0 6 req) 18 k) 19 true := by
  rw [recordFault, rd_bump_ne _ _ (by omega), rd_wb_self, rd_wr_self]

/-- BUS_FAULT_COUNT has advanced by one (R88). -/
theorem recordFault_count (req : Nat) : (recordFault a req k s).rd 0x70C14 = s.rd 0x70C14 + 1 := by
  rw [recordFault, rd_bump_self, rd_wb_ne _ _ _ (by omega), rd_wr_ne _ _ (by omega), rd_wr_ne _ _ (by omega)]
  rfl

/-- Every register but the three of the record is as it was (R88). -/
theorem recordFault_rd_ne (req : Nat) {b : Nat} (h : b < 0x70C12 ∨ 0x70C14 < b) :
    (recordFault a req k s).rd b = s.rd b := by
  rw [recordFault, rd_bump_ne _ _ (by omega), rd_wb_ne _ _ _ (by omega), rd_wr_ne _ _ (by omega),
    rd_wr_ne _ _ (by omega)]

theorem recordFault_requester : (recordFault a q.toNat k s).rf 0x70C13 0 6 = q.toNat := by
  rw [State.rf, recordFault_src, fld_putBit_below _ _ (by omega) (by omega), fld_putBit_below _ _ (by omega) (by omega),
    fld_requester]

theorem recordFault_kind (req : Nat) : (recordFault a req k s).rb 0x70C13 18 = k := by
  rw [State.rb, recordFault_src, tst_putBit_ne _ _ (by omega), tst_putBit_self _ _ (by omega)]

theorem recordFault_valid (req : Nat) : (recordFault a req k s).rb 0x70C13 19 = true := by
  rw [State.rb, recordFault_src, tst_putBit_self _ _ (by omega)]

end Record

section Access
variable {q a : Nat} {w k : Bool} {s : State}

/-- A read that fails returns 0 and leaves the record (R88). -/
theorem busRead_of_fault (halive : s.dead = false) (hfault : reqFault q a false s = some k) :
    busRead q a s = (0, recordFault a q k s) := by simp [busRead, halive, hfault]

/-- An access that fails leaves the record in place of its effect (R88). -/
theorem withAccess_of_fault (eff : State → State) (halive : s.dead = false) (hfault : reqFault q a w s = some k) :
    withAccess q a w eff s = recordFault a q k s := by simp [withAccess, halive, hfault]

/-- A write that fails has no effect but the record (R88). -/
theorem runs_registerWrite_of_fault {q : Req} {a v : Word} (halive : s.dead = false)
    (hfault : reqFault q.toNat a.toNat true s = some k) (h0 : a ≠ 0x72001#20) (h1 : a ≠ 0x72002#20) :
    Runs (.registerWrite q a v) s (recordFault a.toNat q.toNat k s) :=
  (exec_registerWrite h0 h1).trans (congrArg _ (withAccess_of_fault _ halive hfault))

end Access

section Sequencer
variable {p : Nat} {a v : Word} {k : Bool} {s : State}

/-- No load or store of a sequencer is interrupted (R88). -/
theorem dataFault_of_cell (hp : isCell p = true) (w : Bool) : dataFault p a w s = none := by simp [dataFault, hp]

/-- A sequencer's requester code is the number of its cell (R100). -/
theorem procReq_of_cell (hp : isCell p = true) (n : Nat) : procReq p n s = p - 2 := by
  rw [procReq, if_pos (of_decide_eq_true hp)]

/-- A sequencer's read that fails in its turn of the bus is 0, with the record (R88). -/
theorem readWord_of_fault (hp : isCell p = true) (halive : (accessTurn p a.toNat s).dead = false)
    (hfault : reqFault (p - 2) a.toNat false (accessTurn p a.toNat s) = some k) :
    readWord p a s = (0, recordFault a.toNat (p - 2) k (accessTurn p a.toNat s)) := by
  simp only [readWord, procReq_of_cell hp]
  exact busRead_of_fault halive hfault

/-- A sequencer's store that fails is the record (R88). -/
theorem post_of_fault (hp : isCell p = true) (hfault : reqFault (p - 2) a.toNat true s = some k) :
    post p a v s = recordFault a.toNat (p - 2) k s := by simp [post, hp, hfault]

/-- A sequencer's load goes on with the word that it read (R88, R138). -/
theorem load_of_cell (hp : isCell p = true) (g : Word → State → Issue) :
    load p a g s = g (readWord p a s).1 (readWord p a s).2 := by rw [load, dataFault_of_cell hp]

/-- A sequencer's store goes on (R88, R138). -/
theorem store_of_cell (hp : isCell p = true) (g : State → Issue) : store p a v g s = g (post p a v s) := by
  rw [store, dataFault_of_cell hp]

/-- LD that executes and whose load goes on completes (R117, R138). -/
theorem runs_ld {p : ProcId} {f : ShortF} {t : State} (hready : Ready (.ld p f) s)
    (hload : loadBody p.1 f.rd (s.g p.1 f.rs + BitVec.ofNat 20 f.sub.toNat) s = .next t) :
    Runs (.ld p f) s (completed p 1 s t) := by
  obtain ⟨x, hx, hexec⟩ := hready
  cases hx
  exact run_next hexec _ hload

/-- ST that executes and whose store goes on completes (R117, R138). -/
theorem runs_st {p : ProcId} {f : ShortF} {t : State} (hready : Ready (.st p f) s)
    (hstore : store p.1 (s.g p.1 f.rs + BitVec.ofNat 20 f.sub.toNat) (s.g p.1 f.rd) .next s = .next t) :
    Runs (.st p f) s (completed p 1 s t) := by
  obtain ⟨x, hx, hexec⟩ := hready
  cases hx
  exact run_next hexec _ hstore

end Sequencer

/-- Settles O43: the record is read off register by register; a sequencer's load goes on with the 0 that its failed read returns,
and its store with the record alone. -/
theorem faultedAccessesAreRecorded : Obligations.FaultedAccessesAreRecorded := by
  unfold Obligations.FaultedAccessesAreRecorded
  refine ⟨?access, ?load, ?store, ?words⟩
  case access =>
    intro q a v w k s halive hfault
    refine ⟨recordFault a.toNat q.toNat k s, (recordFault_registersOnly ..).frame, ?addr, recordFault_requester ..,
      recordFault_kind .., recordFault_valid .., recordFault_count .., fun b => recordFault_rd_ne _ _ _ _, ?read, ?write⟩
    case addr => rw [recordFault_addr, BitVec.ofNat_toNat, BitVec.setWidth_eq]
    case read =>
      rintro rfl
      exact busRead_of_fault halive hfault
    case write =>
      rintro rfl
      exact runs_registerWrite_of_fault halive hfault
  case load =>
    rintro p f s _ _ k hp hready rfl rfl halive hfault hhold
    refine runs_ld hready ?_
    rw [loadBody, load_of_cell hp, readWord_of_fault hp halive hfault]
    exact putG_next _ hhold
  case store =>
    rintro p f s _ k hp hready rfl hfault
    refine runs_st hready ?_
    rw [store_of_cell hp, post_of_fault hp hfault]
  case words =>
    rintro p a v k s _ hp rfl
    exact ⟨dataFault_of_cell hp false, dataFault_of_cell hp true, readWord_of_fault hp, post_of_fault hp⟩

end Sys2Proof.Machine
end

section
/-! A read of memory that finds a parity error: what the record holds, and that it comes to the running Helm cores as an NMI
(R90, R91, R124). -/
namespace Sys2Proof.Machine

section Processors
variable (s : State) {h k : Nat} (f : Proc → Proc)

@[simp] theorem proc_modProc_self (hh : h < 34) : (s.modProc h f).proc h = f (s.proc h) := vget_vset_self _ _ _ hh

theorem proc_modProc_ne (hk : k ≠ h) : (s.modProc k f).proc h = s.proc h := vget_vset_ne _ _ _ hk

end Processors

section Nmi
variable {h k : Nat} {s : State}

/-- An NMI pends at a Helm core. -/
def nmiPended (p : Proc) : Proc := { p with nmiPend := true }

/-- A Helm core runs and is in no NMI handler: an NMI pends there (R124). -/
structure TakesNmi (h : Nat) (s : State) : Prop where
  core : h < 2
  running : (s.proc h).run = .running
  outside : tst (s.proc h).status 12 = false

/-- Between s and t core h has taken an NMI or nothing. -/
def NmiOrSame (h : Nat) (s t : State) : Prop := t.proc h = s.proc h ∨ t.proc h = nmiPended (s.proc h)

theorem NmiOrSame.trans {t u : State} (hst : NmiOrSame h s t) (htu : NmiOrSame h t u) : NmiOrSame h s u := by
  obtain hst | hst := hst <;> obtain htu | htu := htu <;> simp [NmiOrSame, htu, hst, nmiPended]

/-- An NMI leaves a core that takes one as ready to take the next. -/
theorem TakesNmi.of_nmiOrSame {t : State} (hs : TakesNmi h s) (hst : NmiOrSame h s t) : TakesNmi h t := by
  obtain ⟨hcore, hrun, hout⟩ := hs
  obtain hst | hst := hst <;> exact ⟨hcore, by rw [hst]; exact hrun, by rw [hst]; exact hout⟩

/-- At a core that takes NMIs an NMI pends, and there is no lockup (R124). -/
theorem nmiAt_of_takes (hs : TakesNmi h s) : nmiAt h s = (s.modProc h nmiPended, false) := by
  obtain ⟨-, hrun, hout⟩ := hs
  simp only [nmiAt, hrun, hout, Bool.false_and]
  rfl

/-- An NMI at a core changes that core alone. -/
theorem nmiAt_proc_ne (hk : k ≠ h) : (nmiAt k s).1.proc h = s.proc h := by
  unfold nmiAt
  dsimp only
  split
  · rfl
  · rfl
  · split <;> exact proc_modProc_ne _ _ hk

theorem nmiAt_nmiOrSame (hs : TakesNmi h s) (k : Nat) : NmiOrSame h s (nmiAt k s).1 := by
  by_cases hk : k = h
  · subst hk
    rw [nmiAt_of_takes hs]
    exact .inr (proc_modProc_self _ _ (by have := hs.core; omega))
  · exact .inl (nmiAt_proc_ne hk)

/-- Whichever core an NMI is raised at, a core that takes NMIs has taken one or nothing. -/
theorem raiseNmi_nmiOrSame (hs : TakesNmi h s) (k : Nat) : NmiOrSame h s (raiseNmi k s) := by
  unfold raiseNmi
  have hfirst := nmiAt_nmiOrSame hs k
  dsimp only
  split
  · exact hfirst.trans (nmiAt_nmiOrSame (hs.of_nmiOrSame hfirst) _)
  · exact hfirst

/-- An NMI raised at a core that takes it pends. -/
theorem raiseNmi_pends (hs : TakesNmi h s) : ((raiseNmi h s).proc h).nmiPend = true := by
  have hcore := hs.core
  simp [raiseNmi, nmiAt_of_takes hs, proc_modProc_self s nmiPended (h := h) (by omega), nmiPended]

/-- An NMI that pends at a core which takes NMIs stays. -/
theorem raiseNmi_keeps_pending (hs : TakesNmi h s) (hpend : (s.proc h).nmiPend = true) (k : Nat) :
    ((raiseNmi k s).proc h).nmiPend = true := by
  obtain hsame | hnmi := raiseNmi_nmiOrSame hs k
  · rw [hsame, hpend]
  · rw [hnmi]
    rfl

/-- An NMI at every core pends at each core that takes it, whatever the other core comes to (R91, R124). -/
theorem pendNmiAll_pends (hs : TakesNmi h s) : ((pendNmiAll s).proc h).nmiPend = true := by
  have hzero := hs.of_nmiOrSame (raiseNmi_nmiOrSame hs 0)
  obtain rfl | rfl : h = 0 ∨ h = 1 := by
    have := hs.core
    omega
  · exact raiseNmi_keeps_pending hzero (raiseNmi_pends hs) 1
  · exact raiseNmi_pends hzero

/-- An NMI goes to processors alone. -/
theorem nmiAt_frame (h : Nat) (s : State) : (nmiAt h s).1 = { s with procs := (nmiAt h s).1.procs } := by
  unfold nmiAt
  dsimp only
  split
  · rfl
  · rfl
  · split <;> rfl

theorem raiseNmi_frame (h : Nat) (s : State) : raiseNmi h s = { s with procs := (raiseNmi h s).procs } := by
  unfold raiseNmi
  dsimp only
  split
  · rw [nmiAt_frame, nmiAt_frame h s]
  · exact nmiAt_frame h s

theorem raiseNmiAll_frame (s : State) : raiseNmiAll s = { s with procs := (raiseNmiAll s).procs } := by
  unfold raiseNmiAll pendNmiAll
  split
  · rfl
  · rw [raiseNmi_frame, raiseNmi_frame 0 s]

end Nmi

section Record
variable (a : Nat) (s : State)

/-- The registers of a parity error (R91): its address, its requester with the valid bit, and the count. -/
def parityRecord (a req : Nat) (s : State) : State :=
  (((s.wr 0x70C15 (BitVec.ofNat 20 a)).wr 0x70C16 (putFld 0 0 6 req)).wb 0x70C16 19 true).bump 0x70C17

theorem recordParity_eq (req : Nat) : recordParity a req s = raiseNmiAll (parityRecord a req s) := rfl

theorem parityRecord_registersOnly (req : Nat) : RegistersOnly s (parityRecord a req s) := by
  unfold parityRecord
  exact ((((RegistersOnly.refl s).wr ..).wr ..).wb ..).bump ..

theorem parityRecord_addr (req : Nat) : (parityRecord a req s).rd 0x70C15 = BitVec.ofNat 20 a := by
  rw [parityRecord, rd_bump_ne _ _ (by omega), rd_wb_ne _ _ _ (by omega), rd_wr_ne _ _ (by omega), rd_wr_self]

theorem parityRecord_src (req : Nat) : (parityRecord a req s).rd 0x70C16 = putBit (putFld 0 0 6 req) 19 true := by
  rw [parityRecord, rd_bump_ne _ _ (by omega), rd_wb_self, rd_wr_self]

theorem parityRecord_count (req : Nat) : (parityRecord a req s).rd 0x70C17 = s.rd 0x70C17 + 1 := by
  rw [parityRecord, rd_bump_self, rd_wb_ne _ _ _ (by omega), rd_wr_ne _ _ (by omega), rd_wr_ne _ _ (by omega)]
  rfl

/-- The record of a parity error leaves every register outside it (R91). -/
theorem parityRecord_rd_ne (req : Nat) {b : Nat} (h : b < 0x70C15 ∨ 0x70C17 < b) :
    (parityRecord a req s).rd b = s.rd b := by
  rw [parityRecord, rd_bump_ne _ _ (by omega), rd_wb_ne _ _ _ (by omega), rd_wr_ne _ _ (by omega),
    rd_wr_ne _ _ (by omega)]

theorem parityRecord_proc (req h : Nat) : (parityRecord a req s).proc h = s.proc h := by
  rw [(parityRecord_registersOnly a s req).frame, State.proc, State.proc]

/-- The cores stand still after the record of a parity error where they did before it. -/
theorem helmStopped_parityRecord (req : Nat) : helmStopped (parityRecord a req s) = helmStopped s := by
  have hstate : (parityRecord a req s).pstate = s.pstate := by
    rw [State.pstate, State.rf, parityRecord_rd_ne _ _ _ (by omega), State.pstate, State.rf]
  simp only [helmStopped, hstate, State.blockStopped]
  rw [(parityRecord_registersOnly a s req).frame]

/-- The NMIs of a parity error leave its registers. -/
theorem recordParity_rd (req b : Nat) : (recordParity a req s).rd b = (parityRecord a req s).rd b := by
  rw [recordParity_eq, raiseNmiAll_frame, State.rd, State.rd]

/-- A parity error leaves memory (R91). -/
theorem recordParity_mem (req : Nat) : (recordParity a req s).mem = s.mem := by
  rw [recordParity_eq, raiseNmiAll_frame, (parityRecord_registersOnly a s req).frame]

/-- A parity error has an NMI pending at each Helm core that takes one, while the cores do not stand still (R91). -/
theorem recordParity_pends (req : Nat) {s : State} {h : Nat} (hon : helmStopped s = false) (hs : TakesNmi h s) :
    ((recordParity a req s).proc h).nmiPend = true := by
  rw [recordParity_eq, raiseNmiAll, helmStopped_parityRecord, hon]
  exact pendNmiAll_pends (hs.of_nmiOrSame (.inl (parityRecord_proc ..)))

/-- A written word has correct parity (R90). -/
theorem wrMem_parity (v : Word) : (s.wrMem a v).badParity.contains a = false := by simp

/-- An admitted read of memory whose parity is wrong returns the stored word and records the error (R90, R91). -/
theorem busRead_of_bad_parity {q : Req} {a : Nat} {s : State} (ha : a < 0x70000 ∨ 0x80000 ≤ a)
    (hbad : s.badParity.contains a = true) (hadm : Admitted q a false s) :
    busRead q.toNat a s = (s.rdMem a, recordParity a q.toNat s) := by
  rw [busRead_of_admitted hadm, busGet, if_pos ha, memGet, parityChecked, if_pos hbad]

end Record

/-- Settles O44: the read is the record of R91, whose registers come first and whose NMIs, raised at both cores in turn, leave
them and memory as they are. -/
theorem parityErrorsOnReads : Obligations.ParityErrorsOnReads := by
  unfold Obligations.ParityErrorsOnReads
  intro q a s ha hbad hadm
  refine ⟨recordParity a.toNat q.toNat s, busRead_of_bad_parity ha hbad hadm, recordParity_mem .., ?addr, ?requester, ?valid,
    ?count, ?nmi, fun v => wrMem_parity ..⟩
  case addr => rw [recordParity_rd, parityRecord_addr, BitVec.ofNat_toNat, BitVec.setWidth_eq]
  case requester =>
    rw [State.rf, recordParity_rd, parityRecord_src, fld_putBit_below _ _ (by omega) (by omega), fld_requester]
  case valid => rw [State.rb, recordParity_rd, parityRecord_src, tst_putBit_self _ _ (by omega)]
  case count => rw [recordParity_rd, parityRecord_count]
  case nmi => exact fun hon h hcore hrun hout => recordParity_pends _ _ hon ⟨hcore, hrun, hout⟩

end Sys2Proof.Machine
end

section
/-! The claim table under the claim commands: what the effects of a change of owner leave of it, and how each command answers
(R97 to R100). -/
namespace Sys2Proof.Machine

/-- What every pass over a list leaves alone, the whole leaves alone. -/
theorem foldl_keeps {α β : Type} (view : State → β) {f : State → α → State} (hf : ∀ t x, view (f t x) = view t)
    (l : List α) (s : State) : view (l.foldl f s) = view s := by
  induction l generalizing s with
  | nil => rfl
  | cons x l ih => rw [List.foldl_cons, ih, hf]

section Registers
variable (s : State)

@[simp] theorem wb_claims (a i : Nat) (b : Bool) : (s.wb a i b).claims = s.claims := by simp [State.wb]
@[simp] theorem wf_claims (a lo n v : Nat) : (s.wf a lo n v).claims = s.claims := by simp [State.wf]
@[simp] theorem bump_claims (a n : Nat) : (s.bump a n).claims = s.claims := by simp [State.bump]
@[simp] theorem ctrAdd_claims (i n : Nat) : (ctrAdd i n s).claims = s.claims := by simp [ctrAdd]

@[simp] theorem conflict_claims (idx : Option Nat) : (conflict idx s).claims = s.claims := by
  cases idx <;> simp [conflict]

end Registers

section Duty
variable (w : Nat) (s : State)

@[simp] theorem dropPulse_claims : (dropPulse w s).claims = s.claims := by simp [dropPulse]
@[simp] theorem lateEdge_claims : (lateEdge w s).claims = s.claims := by simp [lateEdge]
@[simp] theorem dropBoth_claims : (dropBoth w s).claims = s.claims := by simp [dropBoth]
@[simp] theorem showDuty_claims (d : Nat) (full : Bool) : (showDuty w d full s).claims = s.claims := by simp [showDuty]

@[simp] theorem keepEdges_claims : (keepEdges w s).claims = s.claims := by
  unfold keepEdges
  split <;> simp

@[simp] theorem flagLate_claims (a b : Bool) : (flagLate w a b s).claims = s.claims := by
  cases a <;> cases b <;> simp [flagLate]

/-- Placing the edges of a period again is a matter of its channel and its registers (R215, R216). -/
@[simp] theorem placeAgain_claims (d t : Nat) : (placeAgain w d t s).claims = s.claims := by
  unfold placeAgain
  dsimp only
  repeat' split
  all_goals simp

@[simp] theorem dutyEffect_claims (t : Nat) (u : Word) : (dutyEffect w t u s).claims = s.claims := by
  unfold dutyEffect
  dsimp only
  split <;> simp

@[simp] theorem settle_claims : (settle w s).claims = s.claims := by
  unfold settle
  dsimp only
  rw [foldl_keeps State.claims fun t (l : Nat × Word) => dutyEffect_claims w t l.1 l.2, modChan_claims]

@[simp] theorem sendDuty_claims (u : Word) : (sendDuty w u s).claims = s.claims := by simp [sendDuty]

/-- A channel's first duty from a new owner is its own matter (R209). -/
@[simp] theorem dutySource_claims : (dutySource w s).claims = s.claims := by
  unfold dutySource
  dsimp only
  split
  · simp
  · split <;> simp

end Duty

section SafeState
variable (w : Nat) (s : State)

@[simp] theorem dropTriggers_claims : (dropTriggers w s).claims = s.claims := by
  unfold dropTriggers
  exact forAll_keeps State.claims (fun i t => modEntryS_claims t i _) 64 s

@[simp] theorem undoEdges_claims : (undoEdges w s).claims = s.claims := by
  unfold undoEdges
  split
  · rfl
  · dsimp only
    rw [dropTriggers_claims, foldl_keeps State.claims (fun t n => modComp_claims t n _), wr_claims, wf_claims, wr_claims,
      wf_claims, setCtr_claims, setCtr_claims, setCtr_claims, modChan_claims]

@[simp] theorem endBlanking_claims : (endBlanking w s).claims = s.claims := by
  unfold endBlanking
  exact foldl_keeps State.claims (fun t n => by rw [at__claims, modComp_claims]) _ s

@[simp] theorem countHigh_claims (v : Nat) : (countHigh w v s).claims = s.claims := by simp [countHigh]

@[simp] theorem safeOutputs_claims : (safeOutputs w s).claims = s.claims := by simp [safeOutputs]

/-- A safe-state request is its channel's own matter (R224). -/
@[simp] theorem safeRequest_claims : (safeRequest w s).claims = s.claims := by
  unfold safeRequest
  split
  · rfl
  · dsimp only
    split <;> simp

end SafeState

section ChangeOfOwner
variable (s : State)

@[simp] theorem chanCfgErr_claims (w : Nat) : (chanCfgErr w s).claims = s.claims := by simp [chanCfgErr]

@[simp] theorem cmpOff_claims (n : Nat) : (cmpOff n s).claims = s.claims := by
  rw [cmpOff, modComp_claims, wb_claims]

@[simp] theorem cellCfgErr_claims (c : Nat) : (cellCfgErr c s).claims = s.claims := by simp [cellCfgErr]

@[simp] theorem chansRecheck_claims (before : State) : (chansRecheck before s).claims = s.claims := by
  unfold chansRecheck
  refine forAll_keeps State.claims (fun w t => ?_) 32 s
  split <;> simp

@[simp] theorem almTest_claims (c : Nat) (commit : Bool) : (almTest c commit s).claims = s.claims := by
  unfold almTest
  dsimp only
  split <;> split <;> simp

@[simp] theorem almRetest_claims (j : Nat) : (almRetest j s).claims = s.claims := by
  unfold almRetest
  refine forAll_keeps State.claims (fun k t => ?_) 8 s
  dsimp only
  split <;> simp

/-- Of the table, a change of owner changes the one entry, whatever it does to channels, comparators and cells (R99). -/
theorem changeOwner_claims (cls idx code : Nat) :
    (changeOwner cls idx code s).claims = (s.setOwner cls idx code).claims := by
  unfold changeOwner
  split
  · dsimp only
    split <;> split <;> simp
  · dsimp only
    split <;> simp
  · simp
  · rfl

end ChangeOfOwner

section Commands
variable {s : State} {cls idx : Nat}

/-- The entry of a resource holds its new owner, and every other entry is as it was (R97). -/
theorem owner_changeOwner (code : Nat) {c i : Nat} (hidx : idx < 512) (hi : i < 512) :
    (changeOwner cls idx code s).owner c i = if c = cls ∧ i = idx then code else s.owner c i := by
  rw [State.owner, changeOwner_claims, setOwner_claims]
  split
  · next h =>
    obtain ⟨rfl, rfl⟩ := h
    exact lookup_update_self
  · next h => exact lookup_update_ne (by omega)

/-- The owner of a resource after a command of the table (R98). -/
def ownerAfter (op cls idx code : Nat) (s : State) : Nat :=
  if claimStatus op cls idx code s ≠ 0 then s.owner cls idx
  else if op = 1 then code else if op = 2 then 0 else s.owner cls idx

/-- A command changes the owner of its resource alone (R98). -/
theorem owner_claimCommand (op code : Nat) {c i : Nat} (hidx : idx < 512) (hi : i < 512) :
    (claimCommand op cls idx code s).2.owner c i =
      if c = cls ∧ i = idx then ownerAfter op cls idx code s else s.owner c i := by
  have hsame (h : ownerAfter op cls idx code s = s.owner cls idx) :
      s.owner c i = if c = cls ∧ i = idx then ownerAfter op cls idx code s else s.owner c i := by
    split
    · next hci => rw [h, hci.1, hci.2]
    · rfl
  unfold claimCommand
  dsimp only
  split
  · next hst => exact hsame (if_pos hst)
  · next hst =>
    split
    · next hop =>
      have hafter : ownerAfter op cls idx code s = code := by rw [ownerAfter, if_neg hst, if_pos hop]
      split
      · next howner => exact hsame (hafter.trans howner.symm)
      · rw [hafter]
        exact owner_changeOwner code hidx hi
    · next hop =>
      split
      · next hop2 =>
        have hafter : ownerAfter op cls idx code s = 0 := by rw [ownerAfter, if_neg hst, if_neg hop, if_pos hop2]
        rw [hafter]
        exact owner_changeOwner 0 hidx hi
      · next hop2 => exact hsame (by rw [ownerAfter, if_neg hst, if_neg hop, if_neg hop2])

/-- The owner after a claim (R98). -/
theorem ownerAfter_claim (code : Nat) :
    ownerAfter 1 cls idx code s = if claimStatus 1 cls idx code s = 0 then code else s.owner cls idx := ite_not ..

/-- The owner after a release (R98). -/
theorem ownerAfter_release (code : Nat) :
    ownerAfter 2 cls idx code s = if claimStatus 2 cls idx code s = 0 then 0 else s.owner cls idx := ite_not ..

/-- A query leaves the table (R98). -/
theorem claimBy_query_claims (h code : Nat) : (claimBy h 0 cls idx code s).2.claims = s.claims := by
  simp [claimBy, claimCommand]

/-- A legal command word is taken as it is written (R100). -/
theorem claimLegal_of_legal {v : Word} (hop : fld v 18 2 ≤ 2) (hcls : fld v 15 3 ≤ 4) (hcode : ownerKnown (fld v 0 6) = true) :
    claimLegal v = v := by
  have hnot : ¬ fld v 18 2 = 3 := by omega
  have hnle : ¬ 4 < fld v 15 3 := by omega
  simp [claimLegal, hnot, hnle, hcode]

/-- A legal command word of a Helm core is a command of the table on the fields of the word (R98). -/
theorem claimWrite_of_helm {h : HelmId} {q op : Nat} {v : Word} (hq : q = 0x20 + h.1) (hop : op ≤ 2) (hcls : fld v 15 3 ≤ 4)
    (hcode : ownerKnown (fld v 0 6) = true) :
    claimWrite q (putFld v 18 2 op) s = (claimBy h.1 op (fld v 15 3) (fld v 6 9) (fld v 0 6) s).2 := by
  have hcore : (!isHelm0 q && !isHelm1 q) = false := by
    have := h.2
    simp only [isHelm0, isHelm1, Bool.and_eq_false_iff, Bool.not_eq_false', decide_eq_true_eq]
    omega
  have hfop : fld (putFld v 18 2 op) 18 2 = op := by rw [fld_putFld_self v op (by omega)]; omega
  have hfcls : fld (putFld v 18 2 op) 15 3 = fld v 15 3 := fld_putFld_below v op (by omega) (by omega)
  have hfidx : fld (putFld v 18 2 op) 6 9 = fld v 6 9 := fld_putFld_below v op (by omega) (by omega)
  have hfcode : fld (putFld v 18 2 op) 0 6 = fld v 0 6 := fld_putFld_below v op (by omega) (by omega)
  have hlegal : claimLegal (putFld v 18 2 op) = putFld v 18 2 op :=
    claimLegal_of_legal (by omega) (by omega) (by rw [hfcode, hcode])
  rw [claimWrite, hcore, if_neg Bool.false_ne_true, claimDo, hlegal, hfop, hfcls, hfidx, hfcode, hq,
    Nat.add_sub_cancel_left]
  simp

/-- Recording the result of a command leaves the table as the command made it (R98). -/
theorem owner_claimBy (h op code c i : Nat) :
    (claimBy h op cls idx code s).2.owner c i = (claimCommand op cls idx code s).2.owner c i := rfl

/-- BUS_CLAIM_RESULT of the core: the status, and the owner after the command but for an index out of range (R98, R100). -/
theorem result_claimBy {h : Nat} (hh : h < 2) (op code : Nat) :
    vget 0 (claimBy h op cls idx code s).2.bus.result h =
      BitVec.ofNat 20 (claimStatus op cls idx code s * 65536 +
        if claimStatus op cls idx code s = 4 then 0 else (claimBy h op cls idx code s).2.owner cls idx) :=
  vget_vset_self _ _ _ hh

/-- What a claim or a release of a Helm core comes to: its status, the one owner that it changes, and the core's result (R98). -/
theorem claimBy_follows_table {h : Nat} (hh : h < 2) (op code : Nat) (hidx : idx < 512) {t : State}
    (ht : t = (claimBy h op cls idx code s).2) :
    t.owner cls idx = ownerAfter op cls idx code s ∧
      (∀ c i, i < 512 → ¬ (c = cls ∧ i = idx) → t.owner c i = s.owner c i) ∧
      vget 0 t.bus.result h = BitVec.ofNat 20 (claimStatus op cls idx code s * 65536 +
        if claimStatus op cls idx code s = 4 then 0 else t.owner cls idx) := by
  subst ht
  refine ⟨?_, fun c i hi hother => ?_, result_claimBy hh op code⟩
  · rw [owner_claimBy, owner_claimCommand op code hidx hidx, if_pos ⟨rfl, rfl⟩]
  · rw [owner_claimBy, owner_claimCommand op code hidx hi, if_neg hother]

/-- The command of any other requester changes nothing (R98). -/
theorem claimWrite_of_other {q : Req} (h0 : q ≠ 0x20#6) (h1 : q ≠ 0x21#6) (v : Word) : claimWrite q.toNat v s = s := by
  have hcore : (!isHelm0 q.toNat && !isHelm1 q.toNat) = true := by
    simp only [isHelm0, isHelm1, Bool.and_eq_true, Bool.not_eq_true', decide_eq_false_iff_not]
    exact ⟨fun h => h0 (BitVec.eq_of_toNat_eq h), fun h => h1 (BitVec.eq_of_toNat_eq h)⟩
  rw [claimWrite, if_pos hcore]

end Commands

/-- Settles O45: each command is one access whose effect is a command of the table, which changes at most the one owner; a command
of another requester is discarded. -/
theorem claimCommandsFollowTheTable : Obligations.ClaimCommandsFollowTheTable := by
  unfold Obligations.ClaimCommandsFollowTheTable
  refine ⟨?helm, ?other⟩
  case helm =>
    rintro h q v s _ _ _ _ hq hadm rfl hcls rfl rfl hcode rfl
    have hidx : fld v 6 9 < 512 := Nat.mod_lt _ (by omega)
    have hcommand (op : Nat) (hop : op ≤ 2) := claimWrite_of_helm (s := s) hq hop hcls hcode
    refine ⟨⟨_, claimStatus 1 (fld v 15 3) (fld v 6 9) (fld v 0 6) s, runs_of_admitted hadm rfl, rfl, ?_⟩,
      ⟨_, claimStatus 2 (fld v 15 3) (fld v 6 9) (fld v 0 6) s, runs_of_admitted hadm rfl, rfl, ?_⟩,
      ⟨_, claimStatus 0 (fld v 15 3) (fld v 6 9) (fld v 0 6) s, runs_of_admitted hadm rfl, rfl, ?_⟩⟩
    · obtain ⟨howner, hothers, hresult⟩ := claimBy_follows_table h.2 1 (fld v 0 6) hidx (hcommand 1 (by omega))
      exact ⟨howner.trans (ownerAfter_claim _), hothers, hresult⟩
    · obtain ⟨howner, hothers, hresult⟩ := claimBy_follows_table h.2 2 (fld v 0 6) hidx (hcommand 2 (by omega))
      exact ⟨howner.trans (ownerAfter_release _), hothers, hresult⟩
    · obtain ⟨-, -, hresult⟩ := claimBy_follows_table h.2 0 (fld v 0 6) hidx (hcommand 0 (by omega))
      have hclaims := (congrArg State.claims (hcommand 0 (by omega))).trans (claimBy_query_claims ..)
      exact ⟨hclaims, by rwa [State.owner, hclaims] at hresult⟩
  case other =>
    intro q v s h0 h1 hadm
    have hruns {i : Instr} {w : Word} (hexec : exec i s = .next (withAccess q.toNat 0x70C00 true (claimWrite q.toNat w) s)) :
        Runs i s s := by
      have hrun := runs_of_admitted hadm hexec
      rwa [claimWrite_of_other h0 h1] at hrun
    exact ⟨hruns rfl, hruns rfl, hruns rfl⟩

end Sys2Proof.Machine
end

section
/-! The state after reset is well formed: the base case of `stepKeepsCanonicalForms`. -/
namespace Sys2Proof.Machine

/-- Settles O37: the maps of the state after reset are empty but for two registers, which are in order and differ from their
reset values. -/
theorem resetIsWellFormed : Obligations.ResetIsWellFormed := ⟨reset_wf, rfl⟩

end Sys2Proof.Machine
end

section
/-! A Bearing instruction through its form: what it runs, and what it comes to where it executes (R112, R130, R131, R138). -/
namespace Sys2Proof.Machine
/-- Instruction i on processor p has len words and runs body; its encoding is a defined one where legal is true, and it accesses
memory where mem is true (R112, R130, R131). -/
def Encodes (i : Instr) (p : ProcId) (len : Nat) (legal mem : Bool) (body : State → Issue) : Prop :=
  ∃ x, form i = some x ∧ x.proc = p ∧ x.len = len ∧ x.legal = legal ∧ x.mem = mem ∧ ∀ s, exec i s = runForm x body s

theorem encodes_short {i : Instr} {op : Nat} {p : ProcId} {f : ShortF} {legal mem : Bool} {body : State → Issue}
    (hform : form i = shortForm op p f legal mem) (hexec : ∀ s, exec i s = runShort op p f legal mem body s) :
    Encodes i p 1 legal mem body :=
  ⟨_, hform, rfl, rfl, rfl, rfl, hexec⟩

theorem encodes_group {i : Instr} {op sub lim : Nat} {p : ProcId} {f : ShortF} {legal mem : Bool} {body : State → Issue}
    (hform : form i = groupForm op p f sub lim legal mem)
    (hexec : ∀ s, exec i s = runGroup op p f sub lim legal mem body s) : Encodes i p 1 legal mem body :=
  ⟨_, hform, rfl, rfl, rfl, rfl, fun s => (hexec s).trans (runGroup_eq ..)⟩

theorem encodes_long {i : Instr} {op : Nat} {p : ProcId} {f : LongF} {legal mem : Bool} {body : State → Issue}
    (hform : form i = longForm op p f legal mem) (hexec : ∀ s, exec i s = runLong op p f legal mem body s) :
    Encodes i p 2 legal mem body :=
  ⟨_, hform, rfl, rfl, rfl, rfl, hexec⟩

/-- An exception on a Helm core waits for its posted stores: until they are done nothing happens (R138). -/
theorem runForm_deferred {x : Form} {s : State} (h : Executes x s) (body : State → Issue) (hp : isCell x.proc.1 = false)
    (hplain : plainIssue (body s) = false) (hstored : (s.proc x.proc.1).posted ≠ []) : runForm x body s = .next s := by
  have hcond : (isCell x.proc.1 || decide (x.cond = 0)) = true := h.condOk
  unfold runForm
  rw [if_pos h.own, runInstr_may h.may _ _ _ _ _ h.free, h.legal, hcond, hp, if_neg Bool.false_ne_true,
    helmIssue_eq h.may hp (issuesHere_of_coded h.coded) h.quiet h.fetched h.clean, h.coded]
  simp [helmDecide, hplain, hstored]

section Outcomes
variable {i : Instr} {p : ProcId} {len : Nat} {legal mem : Bool} {body : State → Issue} {s t : State}

/-- The form of an instruction that executes. -/
theorem executes_of_ready (hi : Encodes i p len legal mem body) (hr : Ready i s) :
    ∃ x, Executes x s ∧ x.proc = p ∧ x.len = len ∧ x.legal = legal ∧ x.mem = mem ∧ exec i s = runForm x body s := by
  obtain ⟨x, hform, hproc, hlen, hlegal, hmem, hexec⟩ := hi
  obtain ⟨y, hy, hx⟩ := hr
  cases hform.symm.trans hy
  exact ⟨x, hx, hproc, hlen, hlegal, hmem, hexec s⟩

theorem legal_of_ready (hi : Encodes i p len legal mem body) (hr : Ready i s) : legal = true := by
  obtain ⟨x, hx, -, -, rfl, -, -⟩ := executes_of_ready hi hr
  exact hx.toIssues.legal

/-- No store is posted where an instruction that accesses memory executes (R138). -/
theorem stored_of_ready (hi : Encodes i p len legal true body) (hr : Ready i s) : (s.proc p.1).posted = [] := by
  obtain ⟨x, hx, rfl, -, -, hmem, -⟩ := executes_of_ready hi hr
  exact hx.free (.inl hmem)

/-- An instruction that executes comes to its issue; an exception on a Helm core needs its posted stores done (R138). -/
theorem runs_finish (hi : Encodes i p len legal mem body) (hr : Ready i s)
    (hb : isCell p.1 = true ∨ plainIssue (body s) = true ∨ (s.proc p.1).posted = []) :
    Runs i s (finish p len s (body s)) := by
  obtain ⟨x, hx, rfl, rfl, -, -, hexec⟩ := executes_of_ready hi hr
  exact hexec.trans (runForm_finish hx body hb)

theorem runs_next (hi : Encodes i p len legal mem body) (hr : Ready i s) (hb : body s = .next t) :
    Runs i s (completed p len s t) := by
  have h := runs_finish hi hr (.inr (.inl (by rw [hb]; rfl)))
  rwa [hb, finish_next] at h

theorem runs_goto {pc : Word} (hi : Encodes i p len legal mem body) (hr : Ready i s) (hb : body s = .goto pc t) :
    Runs i s (resumed p pc s t) := by
  have h := runs_finish hi hr (.inr (.inl (by rw [hb]; rfl)))
  rwa [hb, finish_goto] at h

theorem runs_hold {r : RunCond} (hi : Encodes i p len legal mem body) (hr : Ready i s) (hb : body s = .hold r t) :
    Runs i s (waits p r s t) := by
  have h := runs_finish hi hr (.inr (.inl (by rw [hb]; rfl)))
  rwa [hb, finish_hold] at h

theorem runs_stack (hi : Encodes i p len legal mem body) (hr : Ready i s) (hb : body s = .stack)
    (hstored : isCell p.1 = false → (s.proc p.1).posted = []) : Runs i s (stackRaised p s) := by
  have h := runs_finish hi hr ((Bool.eq_false_or_eq_true (isCell p.1)).imp_right fun hp => .inr (hstored hp))
  rwa [hb, finish_stack] at h

theorem runs_deferred (hi : Encodes i p len legal mem body) (hr : Ready i s) (hp : isCell p.1 = false)
    (hplain : plainIssue (body s) = false) (hstored : (s.proc p.1).posted ≠ []) : Runs i s s := by
  obtain ⟨x, hx, rfl, rfl, -, -, hexec⟩ := executes_of_ready hi hr
  exact hexec.trans (runForm_deferred hx body hp hplain hstored)

end Outcomes

end Sys2Proof.Machine
end

section
/-! A processor of a state: what changes of it come to, and what is read of it after an instruction (R102, R124). -/
namespace Sys2Proof.Machine

section Processor
variable (s : State) {p : Nat} (f g : Proc → Proc)

/-- Two changes of one processor are one change. -/
theorem modProc_modProc (hp : p < 34) : (s.modProc p f).modProc p g = s.modProc p fun k => g (f k) := by
  have hvec (v : Vector Proc 34) (x y : Proc) : vset (vset v p x) p y = vset v p y := by simp [vset]
  have hproc := proc_modProc_self s f hp
  rw [State.modProc, hproc, modProc_procs, hvec]
  rfl

/-- How a processor goes on at pc after the instruction at its place (R124). -/
def resumedProc (cell : Bool) (place pc : Word) (k : Proc) : Proc :=
  { k with pc := pc, nmiFirst := if cell then k.nmiFirst else if k.nmiFirst = some place then none else k.nmiFirst }

theorem resumed_eq (p : ProcId) (pc : Word) (s t : State) :
    resumed p pc s t = t.modProc p.1 (resumedProc (isCell p.1) (s.pcOf p.1) pc) := by
  unfold resumed
  split
  next hp => simp only [hp]; rfl
  next hp =>
    simp only [hp]
    exact modProc_modProc t _ _ p.2

/-- A processor with a register result written. -/
def writtenProc (cell : Bool) (rd : BitVec 4) (v : Word) (fl : Word → Word) (k : Proc) : Proc :=
  { k with g := vset k.g rd.toNat v, status := if cell then fl k.status else k.status }

theorem setFlags_setG (p : ProcId) (rd : BitVec 4) (v : Word) (fl : Word → Word) (s : State) :
    setFlags p.1 fl (s.setG p.1 rd v) = s.modProc p.1 (writtenProc (isCell p.1) rd v fl) := by
  unfold setFlags
  split
  next hp =>
    simp only [hp]
    exact modProc_modProc s _ _ p.2
  next hp => simp only [hp]; rfl

theorem g_setG_self (p : ProcId) (i : BitVec 4) (v : Word) : (s.setG p.1 i v).g p.1 i = v := by
  rw [State.g, State.setG, proc_modProc_self _ _ p.2]
  exact vget_vset_self _ _ _ i.isLt

theorem vget_vset_register_ne {i r : BitVec 4} (g : Vector Word 16) (v : Word) (h : r ≠ i) :
    vget 0 (vset g i.toNat v) r.toNat = vget 0 g r.toNat :=
  vget_vset_ne _ _ _ (BitVec.toNat_ne_iff_ne.mpr h.symm)

end Processor

section Completed
variable (p : ProcId) (len : Nat) (s t : State)

/-! What is read after an instruction of s that left t: going on changes the PC and ends R124's wait. -/

theorem proc_completed : (completed p len s t).proc p.1 =
    resumedProc (isCell p.1) (s.pcOf p.1) (s.pcOf p.1 + BitVec.ofNat 20 len) (t.proc p.1) := by
  rw [completed, resumed_eq, proc_modProc_self _ _ p.2]

theorem proc_completed_ne {q : Nat} (hq : q ≠ p.1) : (completed p len s t).proc q = t.proc q := by
  rw [completed, resumed_eq, proc_modProc_ne _ _ hq.symm]

theorem g_completed (r : BitVec 4) : (completed p len s t).g p.1 r = t.g p.1 r := by
  rw [State.g, proc_completed]
  rfl

theorem rdMem_completed (b : Nat) : (completed p len s t).rdMem b = t.rdMem b := by
  rw [completed, resumed_eq]
  rfl

end Completed

end Sys2Proof.Machine
end

section
/-! Register results: which value and which flags each instruction with a destination gives, and what it comes to (R103, R130,
R131, R133 to R135). -/
namespace Sys2Proof.Machine

/-- What a register result leaves in the flags (R133, R135). -/
inductive FlagEffect where
  | none
  | sum (a b : Word)
  | difference (a b : Word)
  | value (r : Word)
  | negated (x : Word)

/-- STATUS of a cell after a register result. -/
def FlagEffect.status : FlagEffect → Word → Word
  | .none => fun st => st
  | .sum a b => addFlags a b
  | .difference a b => subFlags a b
  | .value r => zn r
  | .negated x => negFlags x

/-- A register result: its processor, the words of its instruction, its register, its value and its flags. -/
structure RegResult where
  proc : ProcId
  len : Nat
  rd : BitVec 4
  value : Word
  flags : FlagEffect

/-- The result of a short-form operation. -/
def shortResult (p : ProcId) (f : ShortF) (value : Word) (flags : FlagEffect) : Option RegResult :=
  some ⟨p, 1, f.rd, value, flags⟩

/-- The result of a long-form operation. -/
def longResult (p : ProcId) (f : LongF) (value : Word) (flags : FlagEffect) : Option RegResult :=
  some ⟨p, 2, f.rd, value, flags⟩

/-- A result with the flags of its value. -/
def shortValue (p : ProcId) (f : ShortF) (v : Word) : Option RegResult := shortResult p f v (.value v)

/-- See shortValue. -/
def longValue (p : ProcId) (f : LongF) (v : Word) : Option RegResult := longResult p f v (.value v)

/-- The register result of an instruction that has one (R103, R130, R131, R133 to R135). -/
def regResult (i : Instr) (s : State) : Option RegResult :=
  match i with
  | .mov p f => shortResult p f (s.g p.1 f.rs) .none
  | .add p f => shortResult p f (s.g p.1 f.rd + s.g p.1 f.rs) (.sum (s.g p.1 f.rd) (s.g p.1 f.rs))
  | .sub p f => shortResult p f (s.g p.1 f.rd - s.g p.1 f.rs) (.difference (s.g p.1 f.rd) (s.g p.1 f.rs))
  | .and p f => shortValue p f (s.g p.1 f.rd &&& s.g p.1 f.rs)
  | .or p f => shortValue p f (s.g p.1 f.rd ||| s.g p.1 f.rs)
  | .xor p f => shortValue p f (s.g p.1 f.rd ^^^ s.g p.1 f.rs)
  | .not p f => shortValue p f (~~~ s.g p.1 f.rs)
  | .neg p f => shortResult p f (negValue (isCell p.1) (s.g p.1 f.rs)) (.negated (s.g p.1 f.rs))
  | .addi p f => shortResult p f (s.g p.1 f.rd + BitVec.ofNat 20 f.sub.toNat) (.sum (s.g p.1 f.rd) (BitVec.ofNat 20 f.sub.toNat))
  | .subi p f =>
    shortResult p f (s.g p.1 f.rd - BitVec.ofNat 20 f.sub.toNat) (.difference (s.g p.1 f.rd) (BitVec.ofNat 20 f.sub.toNat))
  | .shl p f => shortValue p f (shl (s.g p.1 f.rd) (shiftCount (s.g p.1 f.rs)))
  | .shr p f => shortValue p f (shr (s.g p.1 f.rd) (shiftCount (s.g p.1 f.rs)))
  | .sar p f => shortValue p f (sar (s.g p.1 f.rd) (shiftCount (s.g p.1 f.rs)))
  | .mfs p f => shortResult p f (srRead p.1 f.rs.toNat s) .none
  | .add3 p f => longResult p f (s.g p.1 f.rs + s.g p.1 (rtOf f.w2)) (.sum (s.g p.1 f.rs) (s.g p.1 (rtOf f.w2)))
  | .sub3 p f => longResult p f (s.g p.1 f.rs - s.g p.1 (rtOf f.w2)) (.difference (s.g p.1 f.rs) (s.g p.1 (rtOf f.w2)))
  | .and3 p f => longValue p f (s.g p.1 f.rs &&& s.g p.1 (rtOf f.w2))
  | .or3 p f => longValue p f (s.g p.1 f.rs ||| s.g p.1 (rtOf f.w2))
  | .xor3 p f => longValue p f (s.g p.1 f.rs ^^^ s.g p.1 (rtOf f.w2))
  | .shl3 p f => longValue p f (shl (s.g p.1 f.rs) (shiftCount (s.g p.1 (rtOf f.w2))))
  | .shr3 p f => longValue p f (shr (s.g p.1 f.rs) (shiftCount (s.g p.1 (rtOf f.w2))))
  | .sar3 p f => longValue p f (sar (s.g p.1 f.rs) (shiftCount (s.g p.1 (rtOf f.w2))))
  | .addi16 p f => longResult p f (s.g p.1 f.rs + simm16 f.w2) (.sum (s.g p.1 f.rs) (simm16 f.w2))
  | .andi p f => longValue p f (s.g p.1 f.rs &&& imm16 f.w2)
  | .ori p f => longValue p f (s.g p.1 f.rs ||| imm16 f.w2)
  | .xori p f => longValue p f (s.g p.1 f.rs ^^^ imm16 f.w2)
  | .shli p f => longValue p f (shl (s.g p.1 f.rs) (shiftCount (imm16 f.w2)))
  | .shri p f => longValue p f (shr (s.g p.1 f.rs) (shiftCount (imm16 f.w2)))
  | .sari p f => longValue p f (sar (s.g p.1 f.rs) (shiftCount (imm16 f.w2)))
  | .ldi p f => longResult p f f.w2 .none
  | .seq p f => longResult p f (asWord (decide (s.g p.1 f.rs = s.g p.1 (rtOf f.w2)))) .none
  | .sne p f => longResult p f (asWord (decide (s.g p.1 f.rs ≠ s.g p.1 (rtOf f.w2)))) .none
  | .slt p f => longResult p f (asWord (decide ((s.g p.1 f.rs).toInt < (s.g p.1 (rtOf f.w2)).toInt))) .none
  | .sltu p f => longResult p f (asWord (decide ((s.g p.1 f.rs).toNat < (s.g p.1 (rtOf f.w2)).toNat))) .none
  | .carry p f =>
    longResult p f (asWord (decide (2 ^ 20 ≤ (s.g p.1 f.rs).toNat + (s.g p.1 (rtOf f.w2)).toNat))) .none
  | .snegov p f => longResult p f (asWord (decide (s.g p.1 f.rs = 0x80000#20))) .none
  | _ => none

/-- A register write without flags is a result that leaves them. -/
theorem putG_next_eq_aluResult (p : Nat) (rd : BitVec 4) (v : Word) (s : State) :
    putG p rd v .next s = aluResult p rd v FlagEffect.none.status s :=
  congrArg (putG p rd v · s) (funext fun t => congrArg Issue.next (setFlags_id p t).symm)

/-- Instruction i computes result r in s. -/
def Computes (i : Instr) (r : RegResult) (s : State) : Prop :=
  ∃ legal mem body, Encodes i r.proc r.len legal mem body ∧ body s = aluResult r.proc.1 r.rd r.value r.flags.status s

section Computes
variable {i : Instr} {r : RegResult} {s : State} {legal mem : Bool} {body : State → Issue}

theorem computes_flags (hi : Encodes i r.proc r.len legal mem body)
    (hbody : body s = aluResult r.proc.1 r.rd r.value r.flags.status s) : Computes i r s := ⟨_, _, _, hi, hbody⟩

theorem computes_plain {p : ProcId} {len : Nat} {rd : BitVec 4} {v : Word} (hi : Encodes i p len legal mem body)
    (hbody : body s = putG p.1 rd v .next s) : Computes i ⟨p, len, rd, v, .none⟩ s :=
  ⟨_, _, _, hi, hbody.trans (putG_next_eq_aluResult ..)⟩
end Computes

/-- The table of `regResult` is what the rows of the model compute. -/
theorem computes_of_regResult {i : Instr} {r : RegResult} {s : State} (h : regResult i s = some r) : Computes i r s := by
  unfold regResult at h
  split at h <;> cases h
  -- MOV, MFS, LDI and SNEGOV write their register and no flags.
  case h_1 => exact computes_plain (encodes_short rfl fun _ => rfl) rfl
  case h_14 => exact computes_plain (encodes_group rfl fun _ => rfl) rfl
  case h_30 | h_36 => exact computes_plain (encodes_long rfl fun _ => rfl) rfl
  -- The shift group, the other short forms, and the other long forms.
  case h_11 | h_12 | h_13 => exact computes_flags (encodes_group rfl fun _ => rfl) rfl
  case h_2 | h_3 | h_4 | h_5 | h_6 | h_7 | h_8 | h_9 | h_10 => exact computes_flags (encodes_short rfl fun _ => rfl) rfl
  all_goals exact computes_flags (encodes_long rfl fun _ => rfl) rfl

section Results
variable {i : Instr} {s : State}

theorem aluResult_of_mayHold {p : ProcId} {rd : BitVec 4} {v : Word} (fl : Word → Word) (h : mayHold p rd v s) :
    aluResult p.1 rd v fl s = .next (setFlags p.1 fl (s.setG p.1 rd v)) := putG_next _ h

/-- A register write that the stack limit stops raises STACK (R111). -/
theorem putG_of_not_mayHold {p : ProcId} {rd : BitVec 4} {v : Word} (k : State → Issue) (h : ¬ mayHold p rd v s) :
    putG p.1 rd v k s = .stack := by
  obtain ⟨hrd, hlow⟩ := not_not.mp h
  simp [putG, hrd, hlow]

theorem aluResult_of_not_mayHold {p : ProcId} {rd : BitVec 4} {v : Word} (fl : Word → Word) (h : ¬ mayHold p rd v s) :
    aluResult p.1 rd v fl s = .stack := putG_of_not_mayHold _ h

/-- A register result that its register may hold is written, st does the flags, and the next instruction follows. -/
theorem gives_of_regResult {p : ProcId} {len : Nat} {rd : BitVec 4} {v : Word} {fl : FlagEffect} {st : State → State}
    (h : regResult i s = some ⟨p, len, rd, v, fl⟩) (hst : setFlags p.1 fl.status = st) : Gives i p len rd v st s := by
  obtain ⟨legal, mem, body, hi, hbody⟩ := computes_of_regResult h
  exact fun hr hhold => hst ▸ runs_next hi hr (hbody.trans (aluResult_of_mayHold _ hhold))

theorem setFlags_none (p : Nat) : setFlags p FlagEffect.none.status = id := funext (setFlags_id p)

/-- A result for g15 below SPLIM raises STACK (R111). -/
theorem stacks_of_regResult {p : ProcId} {len : Nat} {rd : BitVec 4} {v : Word} {fl : FlagEffect}
    (h : regResult i s = some ⟨p, len, rd, v, fl⟩) (hrd : rd = 15#4) : Stacks i p v s := by
  obtain ⟨legal, mem, body, hi, hbody⟩ := computes_of_regResult h
  exact fun hr hlow => runs_stack hi hr (hbody.trans (aluResult_of_not_mayHold _ (not_not_intro ⟨hrd, hlow⟩)))

end Results

/-- An immediate count of 0 to 19 is a shift count (R131, R134). -/
theorem shiftCount_imm16 {w : Word} (h : fld w 0 16 ≤ 19) : shiftCount (imm16 w) = fld w 0 16 := by
  rw [shiftCount, imm16, fld_ofNat (by omega)]
  omega

/-- An immediate shift that executes has a count of 0 to 19. -/
theorem gives_immediate_shift {i : Instr} {p : ProcId} {f : LongF} {body : State → Issue} {s : State}
    (shift : Word → Nat → Word)
    (hi : Encodes i p 2 (decide (rtOf f.w2 = 0) && decide (fld f.w2 0 16 ≤ 19)) false body)
    (h : regResult i s = longValue p f (shift (s.g p.1 f.rs) (shiftCount (imm16 f.w2)))) :
    Gives i p 2 f.rd (shift (s.g p.1 f.rs) (fld f.w2 0 16)) (setFlags p.1 (zn (shift (s.g p.1 f.rs) (fld f.w2 0 16)))) s := by
  intro hr
  have hlegal := legal_of_ready hi hr
  rw [Bool.and_eq_true, decide_eq_true_eq, decide_eq_true_eq] at hlegal
  rw [← shiftCount_imm16 hlegal.2]
  exact gives_of_regResult h rfl hr

/-- Settles O18: each conjunct is the row of `regResult`; CMP, TST and CMPI write flags only. -/
theorem registerResultsOfBearing : Obligations.RegisterResultsOfBearing := by
  unfold Obligations.RegisterResultsOfBearing
  refine ⟨?short, ?long⟩
  case short =>
    rintro p f s _ _ _ rfl rfl rfl
    exact ⟨gives_of_regResult rfl (setFlags_none _),
      gives_of_regResult rfl rfl, gives_of_regResult rfl rfl, gives_of_regResult rfl rfl, gives_of_regResult rfl rfl,
      gives_of_regResult rfl rfl, gives_of_regResult rfl rfl, gives_of_regResult rfl rfl, gives_of_regResult rfl rfl,
      gives_of_regResult rfl rfl, gives_of_regResult rfl rfl, gives_of_regResult rfl rfl, gives_of_regResult rfl rfl,
      gives_of_regResult rfl (setFlags_none _),
      fun hr => runs_next (encodes_short rfl fun _ => rfl) hr rfl, fun hr => runs_next (encodes_short rfl fun _ => rfl) hr rfl⟩
  case long =>
    rintro p f s _ _ _ _ _ rfl rfl rfl rfl rfl
    refine ⟨gives_of_regResult rfl rfl, gives_of_regResult rfl rfl, gives_of_regResult rfl rfl, gives_of_regResult rfl rfl,
      gives_of_regResult rfl rfl, gives_of_regResult rfl rfl, gives_of_regResult rfl rfl, gives_of_regResult rfl rfl,
      gives_of_regResult rfl rfl, gives_of_regResult rfl rfl, gives_of_regResult rfl rfl, gives_of_regResult rfl rfl,
      ?shli, ?shri, ?sari,
      gives_of_regResult rfl (setFlags_none _), gives_of_regResult rfl (setFlags_none _),
      gives_of_regResult rfl (setFlags_none _), gives_of_regResult rfl (setFlags_none _),
      gives_of_regResult rfl (setFlags_none _), gives_of_regResult rfl (setFlags_none _),
      gives_of_regResult rfl (setFlags_none _), fun hr => runs_next (encodes_long rfl fun _ => rfl) hr rfl⟩
    case shli => exact gives_immediate_shift shl (encodes_long rfl fun _ => rfl) rfl
    case shri => exact gives_immediate_shift shr (encodes_long rfl fun _ => rfl) rfl
    case sari => exact gives_immediate_shift sar (encodes_long rfl fun _ => rfl) rfl

end Sys2Proof.Machine
end

section
/-! Frame of the register results: an instruction with a result writes its register, its PC and its flags (R105, R130, R131,
R133). -/
namespace Sys2Proof.Machine

/-- Every instruction with a destination has a register result, for that register (R130, R131). -/
theorem regResult_of_destination {i : Instr} {p : ProcId} {rd : BitVec 4} (h : destination i = some (p, rd)) (s : State) :
    ∃ len v fl, regResult i s = some ⟨p, len, rd, v, fl⟩ := by
  unfold destination at h
  split at h <;> cases h <;> exact ⟨_, _, _, rfl⟩

/-- The flags of a register result are Z, N, C and V: no other bit changes (R133). -/
theorem tst_flagEffect (fl : FlagEffect) (st : Word) {k : Nat} (hk : 4 ≤ k) : tst (fl.status st) k = tst st k := by
  have hzn (r st : Word) : tst (zn r st) k = tst st k := by
    rw [zn, tst_putBit_ne _ _ (by omega), tst_putBit_ne _ _ (by omega)]
  cases fl with
  | none => rfl
  | value r => exact hzn r st
  | sum a b => exact (tst_putBit_ne _ _ (by omega)).trans ((tst_putBit_ne _ _ (by omega)).trans (hzn ..))
  | difference a b => exact (tst_putBit_ne _ _ (by omega)).trans ((tst_putBit_ne _ _ (by omega)).trans (hzn ..))
  | negated x => exact (tst_putBit_ne _ _ (by omega)).trans (hzn ..)

/-- What an instruction with a register result comes to: STACK, no effect while it waits to raise it, or its result. -/
theorem runs_of_regResult {i : Instr} {p : ProcId} {len : Nat} {rd : BitVec 4} {v : Word} {fl : FlagEffect} {s t : State}
    (h : regResult i s = some ⟨p, len, rd, v, fl⟩) (hr : Ready i s) (ht : Runs i s t) :
    (rd = 15#4 ∧ t = stackRaised p s) ∨ (rd = 15#4 ∧ t = s) ∨
      t = completed p len s (setFlags p.1 fl.status (s.setG p.1 rd v)) := by
  by_cases hhold : mayHold p rd v s
  · exact .inr (.inr (ht.unique (gives_of_regResult h rfl hr hhold)))
  · obtain ⟨hrd, hlow⟩ := not_not.mp hhold
    by_cases hstored : isCell p.1 = false → (s.proc p.1).posted = []
    · exact .inl ⟨hrd, ht.unique (stacks_of_regResult h hrd hr hlow hstored)⟩
    · obtain ⟨hp, hposted⟩ := Classical.not_imp.mp hstored
      obtain ⟨legal, mem, body, hi, hbody⟩ := computes_of_regResult h
      have hstack := hbody.trans (aluResult_of_not_mayHold _ hhold)
      exact .inr (.inl ⟨hrd, ht.unique (runs_deferred hi hr hp (by rw [hstack]; rfl) hposted)⟩)

/-- Settles O33: where no STACK comes in between, all that an instruction with a register result has done is one change of its
processor. -/
theorem registerOperationsChangeOneRegister : Obligations.RegisterOperationsChangeOneRegister := by
  unfold Obligations.RegisterOperationsChangeOneRegister
  intro i p rd s t hd hr ht
  obtain ⟨len, v, fl, hresult⟩ := regResult_of_destination hd s
  refine (runs_of_regResult hresult hr ht).imp_right (Or.imp_right fun hwritten => ?_)
  rw [completed, resumed_eq, setFlags_setG, modProc_modProc _ _ _ p.2] at hwritten
  have hproc := congrArg (State.proc · p.1) hwritten
  simp only [proc_modProc_self _ _ p.2] at hproc
  have hothers {q : Nat} (hq : q ≠ p.1) : t.proc q = s.proc q := hwritten ▸ proc_modProc_ne _ _ hq.symm
  have hregs {r : BitVec 4} (hne : r ≠ rd) : t.g p.1 r = s.g p.1 r := by
    rw [State.g, hproc]
    exact vget_vset_register_ne _ _ hne
  refine ⟨hwritten ▸ rfl, fun q hq => hothers hq, fun r hne => hregs hne, ?_⟩
  rw [hproc]
  refine ⟨rfl, rfl, rfl, rfl, rfl, rfl, rfl, rfl, rfl, rfl, rfl, fun hp => ?helm, fun k hk => ?cell⟩
  case helm => simp [resumedProc, writtenProc, hp]
  case cell =>
    cases hp : isCell p.1
    · rfl
    · exact tst_flagEffect fl _ hk

end Sys2Proof.Machine
end

section
/-! The stack limit (R111): a write of g15 below SPLIM comes to STACK. The base-update modes of R117. -/
namespace Sys2Proof.Machine

section BaseUpdate
variable {p : Nat} {f : ShortF} {s : State}

/-! The four base-update modes (R117): post-increment and pre-decrement, of a word and of a pair. -/

theorem upd_of_sub_zero (h : f.sub = 0#3) : updWords f = 1 ∧ updAddr p f s = (s.g p f.rs, s.g p f.rs + 1) := by
  simp [updAddr, updWords, h]

theorem upd_of_sub_one (h : f.sub = 1#3) : updWords f = 2 ∧ updAddr p f s = (s.g p f.rs, s.g p f.rs + 2) := by
  simp [updAddr, updWords, h]

theorem upd_of_sub_two (h : f.sub = 2#3) : updWords f = 1 ∧ updAddr p f s = (s.g p f.rs - 1, s.g p f.rs - 1) := by
  simp [updAddr, updWords, h]

theorem upd_of_sub_three (h : f.sub = 3#3) : updWords f = 2 ∧ updAddr p f s = (s.g p f.rs - 2, s.g p f.rs - 2) := by
  simp [updAddr, updWords, h]

/-- The base of a one-word load keeps its update unless it is the destination (R118). -/
theorem updLost_of_word (h : updWords f = 1) : updLost f = decide (f.rd = f.rs) := by simp [updLost, h]

/-- The base of a pair load keeps its update unless it is of the pair (R118). -/
theorem updLost_of_pair (h : updWords f = 2) : updLost f = (decide (f.rd = f.rs) || decide (f.rd + 1 = f.rs)) := by
  simp [updLost, h]

/-- A pair of a defined base-update form begins at an even register (R102). -/
theorem evenReg_of_updLegal (h : updWords f = 2) (hlegal : updLegal f = true) : evenReg f.rd = true := by
  simp only [updLegal, h, Bool.and_eq_true] at hlegal
  simpa using hlegal.2

end BaseUpdate

section StackLimit
variable {i : Instr} {p : ProcId} {s : State} {v : Word}

/-- An instruction whose body comes to STACK where v is below SPLIM. -/
theorem stacks_of_body {len : Nat} {legal mem : Bool} {body : State → Issue} (hi : Encodes i p len legal mem body)
    (hbody : legal = true → belowLimit p.1 v s = true → body s = .stack) : Stacks i p v s :=
  fun hr hlow => runs_stack hi hr (hbody (legal_of_ready hi hr) hlow)

/-- A store whose base update takes g15 below SPLIM. -/
theorem stacks_stUpdate {f : ShortF} (hrs : f.rs = 15#4) (hv : (updAddr p.1 f s).2 = v) : Stacks (.stUpdate p f) p v s :=
  stacks_of_body (encodes_short rfl fun _ => rfl) fun _ hlow =>
    putG_of_not_mayHold _ (not_not_intro ⟨hrs, hv ▸ hlow⟩)

/-- A load whose base update takes g15 below SPLIM, and is not lost. -/
theorem stacks_ldUpdate {f : ShortF} (hrs : f.rs = 15#4) (hv : (updAddr p.1 f s).2 = v)
    (hkept : updLegal f = true → updLost f = false) : Stacks (.ldUpdate p f) p v s :=
  stacks_of_body (encodes_short rfl fun _ => rfl) fun hlegal hlow =>
    (if_neg (Bool.eq_false_iff.mp (hkept hlegal))).trans (putG_of_not_mayHold _ (not_not_intro ⟨hrs, hv ▸ hlow⟩))

/-- A one-word load with base g15 into another register. -/
theorem stacks_ldUpdate_word {f : ShortF} (hrs : f.rs = 15#4) (hwords : updWords f = 1) (hv : (updAddr p.1 f s).2 = v)
    (hrd : f.rd ≠ 15#4) : Stacks (.ldUpdate p f) p v s :=
  stacks_ldUpdate hrs hv fun _ => by simp [updLost_of_word hwords, hrs, hrd]

/-- A pair load with base g15 into a pair other than g14:g15. -/
theorem stacks_ldUpdate_pair {f : ShortF} (hrs : f.rs = 15#4) (hwords : updWords f = 2) (hv : (updAddr p.1 f s).2 = v)
    (hrd : f.rd ≠ 14#4) : Stacks (.ldUpdate p f) p v s := by
  refine stacks_ldUpdate hrs hv fun hlegal => ?_
  have heven := evenReg_of_updLegal hwords hlegal
  have hodd : f.rd ≠ 15#4 := by
    intro h
    simp [h, evenReg] at heven
  have hnext : f.rd + 1#4 ≠ 15#4 := by bv_omega
  rw [updLost_of_pair hwords, hrs]
  simp [hodd, hnext]

end StackLimit

/-- Settles O31: a result for g15, a push, a pop and a base update of g15 each come to STACK where its new value is below
SPLIM. -/
theorem stackLimitStopsWritesOfSp : Obligations.StackLimitStopsWritesOfSp := by
  unfold Obligations.StackLimitStopsWritesOfSp
  refine ⟨?short, ?long, ?unlimited⟩
  case short =>
    intro p f s
    refine ⟨fun hrd => ?results, ?callr, ?ret, fun hrs => ?updates⟩
    case results =>
      exact ⟨stacks_of_regResult rfl hrd, stacks_of_regResult rfl hrd, stacks_of_regResult rfl hrd, stacks_of_regResult rfl hrd,
        stacks_of_regResult rfl hrd, stacks_of_regResult rfl hrd, stacks_of_regResult rfl hrd, stacks_of_regResult rfl hrd,
        stacks_of_regResult rfl hrd, stacks_of_regResult rfl hrd⟩
    case callr => exact stacks_of_body (encodes_group rfl fun _ => rfl) fun _ hlow => if_pos hlow
    case ret => exact stacks_of_body (encodes_group rfl fun _ => rfl) fun _ hlow => if_pos hlow
    case updates =>
      have hsp : s.g p.1 f.rs = s.sp p.1 := congrArg (s.g p.1) hrs
      rw [← hsp]
      refine ⟨fun hsub => ?_, fun hsub => ?_, fun hsub => ?_, fun hsub => ?_⟩
      · obtain ⟨hwords, haddr⟩ := upd_of_sub_zero (p := p.1) (s := s) hsub
        exact ⟨stacks_stUpdate hrs (by rw [haddr]), stacks_ldUpdate_word hrs hwords (by rw [haddr])⟩
      · obtain ⟨hwords, haddr⟩ := upd_of_sub_one (p := p.1) (s := s) hsub
        exact ⟨stacks_stUpdate hrs (by rw [haddr]), stacks_ldUpdate_pair hrs hwords (by rw [haddr])⟩
      · obtain ⟨hwords, haddr⟩ := upd_of_sub_two (p := p.1) (s := s) hsub
        exact ⟨stacks_stUpdate hrs (by rw [haddr]), stacks_ldUpdate_word hrs hwords (by rw [haddr])⟩
      · obtain ⟨hwords, haddr⟩ := upd_of_sub_three (p := p.1) (s := s) hsub
        exact ⟨stacks_stUpdate hrs (by rw [haddr]), stacks_ldUpdate_pair hrs hwords (by rw [haddr])⟩
  case long =>
    intro p f s
    refine ⟨fun hrd => ?results, ?call⟩
    case results =>
      exact ⟨stacks_of_regResult rfl hrd, stacks_of_regResult rfl hrd, stacks_of_regResult rfl hrd,
        stacks_of_regResult rfl hrd⟩
    case call => exact stacks_of_body (encodes_long rfl fun _ => rfl) fun _ hlow => if_pos hlow
  case unlimited =>
    intro p v s hlimit
    simp [belowLimit, hlimit]

end Sys2Proof.Machine
end

section
/-! Loads and stores: one access from the state after the base update (R117, R118, R123, R138). -/
namespace Sys2Proof.Machine

section Accesses
variable {i : Instr} {p : ProcId} {len : Nat} {legal mem : Bool} {body : State → Issue}
  {a v lo hi : Word} {rd : BitVec 4} {s u : State}

/-! An instruction whose body is one access, from the state u after its base update (R117, R138). -/

theorem puts_of_body (he : Encodes i p len legal mem body) (hbody : body s = store p.1 a v .next u) : Puts i p len a v u s := by
  intro hr hnone
  refine runs_next he hr (hbody.trans ?_)
  rw [store, hnone]

theorem putsPair_of_body (he : Encodes i p len legal mem body) (hbody : body s = storePair p.1 a lo hi .next u) :
    PutsPair i p len a lo hi u s := by
  intro hr hlow hhigh
  refine runs_next he hr (hbody.trans ?_)
  rw [storePair, hlow, hhigh]

theorem loads_of_body (he : Encodes i p len legal mem body) (hbody : body s = loadBody p.1 rd a u) : Loads i p len rd a u s := by
  intro hr hnone hhold
  refine runs_next he hr (hbody.trans ?_)
  rw [loadBody, load, hnone]
  exact putG_next _ hhold

/-- A pair is written to an even register and the next: the low word never to g15 (R102). -/
theorem putPair_next {t : State} (heven : evenReg rd = true) (hhold : mayHold p (rd + 1) hi t) :
    putPair p.1 rd lo hi .next t = .next ((t.setG p.1 rd lo).setG p.1 (rd + 1) hi) := by
  have hlow : mayHold p rd lo t := by
    rintro ⟨rfl, -⟩
    cases heven
  have hlimit : belowLimit p.1 hi (t.setG p.1 rd lo) = belowLimit p.1 hi t := by
    rw [belowLimit, State.setG, proc_modProc_self _ _ p.2, belowLimit]
  have hhigh : mayHold p (rd + 1) hi (t.setG p.1 rd lo) := by rwa [mayHold, hlimit]
  rw [putPair, putG_next _ hlow, putG_next _ hhigh]

theorem loadsPair_of_body (he : Encodes i p len legal mem body) (heven : legal = true → evenReg rd = true)
    (hbody : body s = loadPairBody p.1 rd a u) : LoadsPair i p len rd a u s := by
  intro hr hlow hhigh hhold
  refine runs_next he hr (hbody.trans ?_)
  rw [loadPairBody, loadPair, hlow, hhigh]
  exact putPair_next (heven (legal_of_ready he hr)) hhold

/-- A Helm core's access that faults: DARK or BUSERR, with no store in the way (R87, R123, R138). -/
theorem faultsAt_of_body {write : Bool} (he : Encodes i p len legal true body)
    (hbody : ∀ k, dataFault p.1 a write s = some k → body s = .access a.toNat k) : FaultsAt i p a write s := by
  intro k hr hp hfault
  have h := runs_finish he hr (.inr (.inr (stored_of_ready he hr)))
  rwa [hbody k hfault, finish, hp, if_neg Bool.false_ne_true] at h

theorem loadBody_of_fault {k : Bool} (p : Nat) (hfault : dataFault p a false s = some k) :
    loadBody p rd a s = .access a.toNat k := by
  rw [loadBody, load, hfault]

theorem store_of_fault {k : Bool} (p : Nat) (hfault : dataFault p a true s = some k) (g : State → Issue) :
    store p a v g s = .access a.toNat k := by
  rw [store, hfault]

end Accesses

section BaseUpdates
variable {p : ProcId} {f : ShortF} {s : State} {a v : Word}

theorem loadUpdate_kept (haddr : updAddr p.1 f s = (a, v)) (hkept : updLost f = false) (hhold : mayHold p f.rs v s) :
    loadUpdate p.1 f s =
      (if updWords f = 2 then loadPairBody p.1 f.rd a else loadBody p.1 f.rd a) (s.setG p.1 f.rs v) := by
  rw [loadUpdate, haddr, hkept]
  exact putG_next _ hhold

theorem loadUpdate_lost (haddr : updAddr p.1 f s = (a, v)) (hlost : updLost f = true) :
    loadUpdate p.1 f s = (if updWords f = 2 then loadPairBody p.1 f.rd a else loadBody p.1 f.rd a) s := by
  rw [loadUpdate, haddr, hlost]
  rfl

/-- LD with base update into another register than its base (R117). -/
theorem loads_ldUpdate_kept (hmode : updWords f = 1 ∧ updAddr p.1 f s = (a, v)) (hrd : f.rd ≠ f.rs)
    (hhold : mayHold p f.rs v s) : Loads (.ldUpdate p f) p 1 f.rd a (s.setG p.1 f.rs v) s := by
  obtain ⟨hwords, haddr⟩ := hmode
  have hkept : updLost f = false := by simp [updLost_of_word hwords, hrd]
  refine loads_of_body (encodes_short rfl fun _ => rfl) ((loadUpdate_kept haddr hkept hhold).trans ?_)
  rw [hwords, if_neg (by decide)]

/-- LD with base update into its base, whose update is lost (R118). -/
theorem loads_ldUpdate_lost (hmode : updWords f = 1 ∧ updAddr p.1 f s = (a, v)) (hrd : f.rd = f.rs) :
    Loads (.ldUpdate p f) p 1 f.rd a s s := by
  obtain ⟨hwords, haddr⟩ := hmode
  have hlost : updLost f = true := by simp [updLost_of_word hwords, hrd]
  refine loads_of_body (encodes_short rfl fun _ => rfl) ((loadUpdate_lost haddr hlost).trans ?_)
  rw [hwords, if_neg (by decide)]

/-- LDP with base update into registers other than its base (R117). -/
theorem loadsPair_ldUpdate_kept (hmode : updWords f = 2 ∧ updAddr p.1 f s = (a, v)) (hlo : f.rd ≠ f.rs)
    (hhi : f.rd + 1 ≠ f.rs) (hhold : mayHold p f.rs v s) : LoadsPair (.ldUpdate p f) p 1 f.rd a (s.setG p.1 f.rs v) s := by
  obtain ⟨hwords, haddr⟩ := hmode
  have hkept : updLost f = false := by rw [updLost_of_pair hwords, decide_eq_false hlo, decide_eq_false hhi, Bool.or_false]
  refine loadsPair_of_body (encodes_short rfl fun _ => rfl) (evenReg_of_updLegal hwords)
    ((loadUpdate_kept haddr hkept hhold).trans ?_)
  rw [hwords, if_pos rfl]

/-- LDP with base update into its base, whose update is lost (R118). -/
theorem loadsPair_ldUpdate_lost (hmode : updWords f = 2 ∧ updAddr p.1 f s = (a, v)) (hrd : f.rd = f.rs ∨ f.rd + 1 = f.rs) :
    LoadsPair (.ldUpdate p f) p 1 f.rd a s s := by
  obtain ⟨hwords, haddr⟩ := hmode
  have hlost : updLost f = true := by rw [updLost_of_pair hwords, ← Bool.decide_or, decide_eq_true hrd]
  refine loadsPair_of_body (encodes_short rfl fun _ => rfl) (evenReg_of_updLegal hwords) ((loadUpdate_lost haddr hlost).trans ?_)
  rw [hwords, if_pos rfl]

theorem storeUpdate_kept (haddr : updAddr p.1 f s = (a, v)) (hhold : mayHold p f.rs v s) :
    storeUpdate p.1 f s =
      (if updWords f = 2 then storePair p.1 a (s.g p.1 f.rd) (s.g p.1 (f.rd + 1)) .next else store p.1 a (s.g p.1 f.rd) .next)
        (s.setG p.1 f.rs v) := by
  rw [storeUpdate, haddr]
  exact putG_next _ hhold

/-- ST with base update; its datum is read before the update (R118). -/
theorem puts_stUpdate (hmode : updWords f = 1 ∧ updAddr p.1 f s = (a, v)) (hhold : mayHold p f.rs v s) :
    Puts (.stUpdate p f) p 1 a (s.g p.1 f.rd) (s.setG p.1 f.rs v) s := by
  obtain ⟨hwords, haddr⟩ := hmode
  refine puts_of_body (encodes_short rfl fun _ => rfl) ((storeUpdate_kept haddr hhold).trans ?_)
  rw [hwords, if_neg (by decide)]

/-- STP with base update; its data are read before the update (R118). -/
theorem putsPair_stUpdate (hmode : updWords f = 2 ∧ updAddr p.1 f s = (a, v)) (hhold : mayHold p f.rs v s) :
    PutsPair (.stUpdate p f) p 1 a (s.g p.1 f.rd) (s.g p.1 (f.rd + 1)) (s.setG p.1 f.rs v) s := by
  obtain ⟨hwords, haddr⟩ := hmode
  refine putsPair_of_body (encodes_short rfl fun _ => rfl) ((storeUpdate_kept haddr hhold).trans ?_)
  rw [hwords, if_pos rfl]

end BaseUpdates

/-- An indexed address: the base and the index times the scale (R117). -/
theorem indexed_eq (p : Nat) (base : BitVec 4) (w : Word) (s : State) :
    indexed p base w s = s.g p base + BitVec.ofNat 20 ((s.g p (rtOf w)).toNat * 2 ^ (w.toNat % 4)) := by
  rw [indexed, fld, pow_zero, Nat.div_one, show 2 ^ 2 = 4 from rfl]

/-- Settles O23: each form is one load from the state after its base update. -/
theorem loadsComplete : Obligations.LoadsComplete := by
  unfold Obligations.LoadsComplete
  refine ⟨?short, ?long⟩
  case short =>
    rintro p f s _ rfl
    exact ⟨loads_of_body (encodes_short rfl fun _ => rfl) rfl,
      faultsAt_of_body (encodes_short rfl fun _ => rfl) fun _ => loadBody_of_fault _,
      fun hsub => loads_ldUpdate_kept (upd_of_sub_zero hsub), fun hsub => loads_ldUpdate_kept (upd_of_sub_two hsub),
      fun hsub => loads_ldUpdate_lost (upd_of_sub_zero hsub), fun hsub => loads_ldUpdate_lost (upd_of_sub_two hsub),
      fun hsub => loadsPair_ldUpdate_kept (upd_of_sub_one hsub), fun hsub => loadsPair_ldUpdate_kept (upd_of_sub_three hsub),
      fun hsub => loadsPair_ldUpdate_lost (upd_of_sub_one hsub), fun hsub => loadsPair_ldUpdate_lost (upd_of_sub_three hsub)⟩
  case long =>
    rintro p f s _ rfl
    exact ⟨loads_of_body (encodes_long rfl fun _ => rfl) rfl,
      faultsAt_of_body (encodes_long rfl fun _ => rfl) fun _ => loadBody_of_fault _,
      loads_of_body (encodes_long rfl fun _ => rfl) rfl,
      faultsAt_of_body (encodes_long rfl fun _ => rfl) fun _ => loadBody_of_fault _,
      loadsPair_of_body (encodes_long rfl fun _ => rfl) id rfl,
      loadsPair_of_body (encodes_long rfl fun _ => rfl) (fun hlegal => (Bool.and_eq_true _ _ ▸ hlegal).2) rfl,
      fun _ => indexed_eq ..⟩

/-- Settles O24: each form is one store from the state after its base update. -/
theorem storesComplete : Obligations.StoresComplete := by
  unfold Obligations.StoresComplete
  refine ⟨?short, ?long⟩
  case short =>
    rintro p f s _ _ _ rfl rfl rfl
    exact ⟨puts_of_body (encodes_short rfl fun _ => rfl) rfl,
      faultsAt_of_body (encodes_short rfl fun _ => rfl) fun _ hfault => store_of_fault _ hfault _,
      fun hsub => puts_stUpdate (upd_of_sub_zero hsub), fun hsub => putsPair_stUpdate (upd_of_sub_one hsub),
      fun hsub => puts_stUpdate (upd_of_sub_two hsub), fun hsub => putsPair_stUpdate (upd_of_sub_three hsub)⟩
  case long =>
    rintro p f s _ _ _ rfl rfl rfl
    exact ⟨puts_of_body (encodes_long rfl fun _ => rfl) rfl,
      faultsAt_of_body (encodes_long rfl fun _ => rfl) fun _ hfault => store_of_fault _ hfault _,
      puts_of_body (encodes_long rfl fun _ => rfl) rfl,
      faultsAt_of_body (encodes_long rfl fun _ => rfl) fun _ hfault => store_of_fault _ hfault _,
      putsPair_of_body (encodes_long rfl fun _ => rfl) rfl, putsPair_of_body (encodes_long rfl fun _ => rfl) rfl⟩

end Sys2Proof.Machine
end

section
/-! Encodings and conditions: what is undefined raises UNDEF, and a cell's condition gates its instruction (R107, R114 to R116,
R129, R132). -/
namespace Sys2Proof.Machine

/-- An instruction that is taken up undefined raises UNDEF (R129, R132). -/
theorem runs_undef {i : Instr} {x : Form} {s : State} (hform : form i = some x) (hreached : Reached x s)
    (hundef : x.defined = false ∨ coded x.proc.1 x.words s = false) : Runs i s (undefRaised x.proc s) := by
  obtain ⟨body, hexec⟩ := exec_form hform s
  exact hexec.trans (runForm_undef body hreached hundef)

/-- Settles O28: whichever row comes, its form meets the test of the runner. -/
theorem undefinedEncodingsRaiseUndef : Obligations.UndefinedEncodingsRaiseUndef :=
  fun _ _ _ hform hreached hundef => runs_undef hform hreached hundef

/-- A condition other than AL is none of the Helm dialect (R114). -/
theorem not_defined_of_cond {x : Form} (hp : isCell x.proc.1 = false) (hcond : x.cond ≠ 0) : x.defined = false := by
  rw [Form.defined, Form.condOk, hp, decide_eq_false hcond]
  rfl

theorem not_defined_of_not_legal {x : Form} (h : x.legal = false) : x.defined = false := by simp [Form.defined, h]

/-- An instruction of the other dialect halts a sequencer (R107, R129, R132). -/
theorem runs_seqFault_of_not_legal {i : Instr} {x : Form} {p : ProcId} {s : State} (hform : form i = some x)
    (hreached : Reached x s) (hproc : x.proc = p) (hp : isCell p.1 = true) (hlegal : x.legal = false) :
    Runs i s (seqFault (p.1 - 2) 1 s) := by
  have hruns := runs_undef hform hreached (.inl (not_defined_of_not_legal hlegal))
  rwa [hproc, undefRaised, hp, if_pos rfl] at hruns

/-- Settles O29: neither encoding is a defined one of its dialect. -/
theorem helmTakesAlAndCellsHaveNoDivider : Obligations.HelmTakesAlAndCellsHaveNoDivider := by
  unfold Obligations.HelmTakesAlAndCellsHaveNoDivider
  refine ⟨fun i x s hform hp hcond hreached => ?al, fun p f s x hp =>
    ⟨fun hform hreached => ?div, fun hform hreached => ?divu⟩⟩
  case al =>
    have hruns := runs_undef hform hreached (.inl (not_defined_of_cond hp hcond))
    rwa [undefRaised, hp, if_neg Bool.false_ne_true] at hruns
  case div =>
    have hx := Option.some.inj hform
    exact runs_seqFault_of_not_legal hform hreached (hx ▸ rfl) hp (by simp [← hx, hp])
  case divu =>
    have hx := Option.some.inj hform
    exact runs_seqFault_of_not_legal hform hreached (hx ▸ rfl) hp (by simp [← hx, hp])

/-- Settles O30: the table of R115, and an instruction that issues on a cell skips or executes by its condition. -/
theorem cellConditionsGateInstructions : Obligations.CellConditionsGateInstructions := by
  unfold Obligations.CellConditionsGateInstructions
  refine ⟨fun st => ⟨rfl, rfl, rfl, rfl, rfl, rfl, rfl, rfl⟩, fun i x s hform hp hissues =>
    ⟨fun hfails => ?skips, fun hholds => ?executes⟩⟩
  case skips =>
    obtain ⟨body, hexec⟩ := exec_form hform s
    exact hexec.trans (runForm_skips hissues body hp hfails)
  case executes => exact ⟨hissues, fun _ => hholds, fun hhelm => absurd (hp.symm.trans hhelm) (by decide)⟩

end Sys2Proof.Machine
end

section
/-! VBASE (R104): a word whose low seven bits are 0, whatever is written to it. -/
namespace Sys2Proof.Machine

/-- A word with its low seven bits cleared is the multiple of 128 below it. -/
theorem toNat_and_vbaseMask (v : Word) : (v &&& 0xFFF80#20).toNat = 128 * (v.toNat / 128) := by
  have hmask (i : Fin 20) : (0xFFF80#20).getLsbD i.1 = decide (7 ≤ i.1) := by
    revert i
    decide
  have hcleared : v &&& 0xFFF80#20 = (v >>> 7) <<< 7 := by
    apply BitVec.eq_of_getLsbD_eq
    intro i hi
    rw [BitVec.getLsbD_and, hmask ⟨i, hi⟩, BitVec.getLsbD_shiftLeft, BitVec.getLsbD_ushiftRight]
    by_cases h : 7 ≤ i
    · simp [hi, h, show ¬ i < 7 by omega]
    · simp [h, show i < 7 by omega]
  have := v.isLt
  rw [hcleared, BitVec.toNat_shiftLeft, BitVec.toNat_ushiftRight, Nat.shiftRight_eq_div_pow, Nat.shiftLeft_eq]
  omega

theorem vbase_toNat (s : State) (p : Nat) : (s.vbaseOf p).toNat = 128 * ((s.proc p).vbase.toNat / 128) := toNat_and_vbaseMask _

theorem and_vbaseMask_idem (v : Word) : v &&& 0xFFF80#20 &&& 0xFFF80#20 = v &&& 0xFFF80#20 := by
  rw [BitVec.and_assoc, BitVec.and_self]

/-- Settles O27: VBASE reads through its mask, so its low bits are 0 whatever is stored, and a vector below 128 adds no carry. -/
theorem vbaseKeepsLowBitsZero : Obligations.VbaseKeepsLowBitsZero := by
  unfold Obligations.VbaseKeepsLowBitsZero
  intro p f s hp
  have hbase := vbase_toNat s p.1
  have hmultiple : (s.vbaseOf p.1).toNat % 128 = 0 := by omega
  refine ⟨hmultiple, fun hrs hr hhold => ?mfs, fun hrd hr => ?mts, fun v hv => ?vector⟩
  case mfs =>
    have hread : srRead p.1 f.rs.toNat s = s.vbaseOf p.1 := by rw [hrs]; rfl
    have hgives : Gives (.mfs p f) p 1 f.rd (srRead p.1 f.rs.toNat s) id s := gives_of_regResult rfl (setFlags_none _)
    rw [hread] at hgives
    have hg := (g_completed p 1 s (s.setG p.1 f.rd (s.vbaseOf p.1)) f.rd).trans (g_setG_self ..)
    exact ⟨_, hgives hr hhold, by rw [id, hg, hmultiple], hg⟩
  case mts =>
    have hwrite : srWrite p.1 f.rd.toNat (s.g p.1 f.rs) s =
        s.modProc p.1 fun k => { k with vbase := s.g p.1 f.rs &&& 0xFFF80#20 } := by
      rw [hrd]
      rfl
    refine ⟨_, runs_next (encodes_group rfl fun _ => rfl) hr (congrArg Issue.next hwrite), ?_, ?_⟩
    all_goals rw [State.vbaseOf, proc_completed, proc_modProc_self _ _ p.2]
    · exact and_vbaseMask_idem _
    · rw [resumedProc, and_vbaseMask_idem, toNat_and_vbaseMask]
      omega
  case vector =>
    have := (s.proc p.1).vbase.isLt
    rw [BitVec.toNat_add, BitVec.toNat_ofNat]
    omega

end Sys2Proof.Machine
end

section
/-! Control transfer, special registers, events, waits and traps (R103, R119, R122, R139 to R142). -/
namespace Sys2Proof.Machine

section Stack
variable {p : Nat} {s : State}

/-- A push that SPLIM does not stop and that does not fault (R139). -/
theorem push_next {v : Word} (k : State → Issue) (hroom : belowLimit p (s.sp p - 1) s = false)
    (hnone : dataFault p (s.sp p - 1) true s = none) :
    push p v k s = k ((post p (s.sp p - 1) v s).setG p 15 (s.sp p - 1)) := by
  simp only [push, hroom, store, hnone, Bool.false_eq_true, if_false]

/-- A pop that SPLIM does not stop and that does not fault (R139). -/
theorem pop_next (k : Word → State → Issue) (hroom : belowLimit p (s.sp p + 1) s = false)
    (hnone : dataFault p (s.sp p) false s = none) :
    pop p k s = k (readWord p (s.sp p) s).1 ((readWord p (s.sp p) s).2.setG p 15 (s.sp p + 1)) := by
  simp only [pop, hroom, load, hnone, Bool.false_eq_true, if_false]

end Stack

/-- Master time has reached a target of 40 bits where it is less than half the range past it (R142). -/
theorem timeReached_eq {n : Nat} (hn : n < 2 ^ 40) (s : State) :
    timeReached n s = decide ((s.mt + 2 ^ 40 - n) % 2 ^ 40 < 2 ^ 39) := by
  rw [timeReached]
  congr 2
  omega

/-- The target of a WAITT in a pair of registers (R142). -/
theorem ofWords_pair (a b : Word) : ofWords [a, b] = a.toNat + 2 ^ 20 * b.toNat := by simp [ofWords]

theorem waittBody_eq {p : Nat} {rs : BitVec 4} {s : State} {n : Nat}
    (hn : n = (s.g p rs).toNat + 2 ^ 20 * (s.g p (rs + 1)).toNat) :
    waittBody p rs s = if (s.mt + 2 ^ 40 - n) % 2 ^ 40 < 2 ^ 39 then .next s else .hold (.waitTime n) s := by
  have hbound : n < 2 ^ 40 := by
    have := (s.g p rs).isLt
    have := (s.g p (rs + 1)).isLt
    omega
  simp only [waittBody, ofWords_pair, ← hn, timeReached_eq hbound, decide_eq_true_eq]

/-- TRAP takes its exception with the PC after it, and counts as executed (R119). -/
theorem runs_trap {p : ProcId} {f : ShortF} {s : State} (hr : Ready (.trap p f) s) (hstored : (s.proc p.1).posted = []) :
    Runs (.trap p f) s (takeException p.1 (8 + f.rs.toNat) 0 (s.pcOf p.1 + 1) (executed p.1 (s.pcOf p.1) s)) := by
  have he : Encodes (.trap p f) p 1 _ _ _ := encodes_group rfl fun _ => rfl
  have hlegal := legal_of_ready he hr
  have hp : isCell p.1 = false := by simp only [Bool.and_eq_true, Bool.not_eq_true'] at hlegal; exact hlegal.1
  have hpc : s.pcOf p.1 + 1 ≠ s.pcOf p.1 := by bv_omega
  have hruns := runs_finish he hr (.inr (.inr hstored))
  rwa [finish, hp, if_neg Bool.false_ne_true, helmFinish, if_neg hpc] at hruns

theorem runs_wfeComplete {p : ProcId} {s : State} (hon : waitsOn p.1 s = true) (hrun : (s.proc p.1).run = .waitEvent)
    (hevent : eventBit p.1 s = true) : Runs (.wfeComplete p) s (endWaiting p.1 (clearEvent p.1 s)) :=
  runs_of_happens (g := waitsOn p.1 s && decide ((s.proc p.1).run = .waitEvent) && eventBit p.1 s)
    (eff := fun s => endWaiting p.1 (clearEvent p.1 s)) (by simp [hon, hrun, hevent]) rfl

theorem runs_waittComplete {p : ProcId} {s : State} {n : Nat} (hon : waitsOn p.1 s = true) (hrun : (s.proc p.1).run = .waitTime n)
    (hreached : timeReached n s = true) : Runs (.waittComplete p) s (endWaiting p.1 s) :=
  runs_of_happens (g := waitsOn p.1 s && waitOver p.1 s) (by simp [hon, waitOver, hrun, hreached]) rfl

/-- Settles O25: each instruction comes to one issue, which is read off its body. -/
theorem controlAndWaitsComplete : Obligations.ControlAndWaitsComplete := by
  unfold Obligations.ControlAndWaitsComplete
  refine ⟨?short, ?long⟩
  case short =>
    rintro p f s _ _ rfl rfl
    refine ⟨fun hr => runs_goto (encodes_group rfl fun _ => rfl) hr rfl, ?callr, ?ret, ?reti,
      fun hr => runs_next (encodes_group rfl fun _ => rfl) hr rfl, fun hr => runs_next (encodes_group rfl fun _ => rfl) hr rfl,
      fun hr => runs_next (encodes_group rfl fun _ => rfl) hr rfl,
      fun hr hevent => runs_next (encodes_group rfl fun _ => rfl) hr (if_pos hevent),
      fun hr hnone => runs_hold (encodes_group rfl fun _ => rfl) hr (if_neg (Bool.eq_false_iff.mp hnone)),
      fun n hn => ⟨fun hr hreached => ?reached, fun hr hahead => ?ahead⟩, runs_trap, runs_wfeComplete,
      fun n => runs_waittComplete⟩
    case callr =>
      rintro hr hroom hnone _ rfl
      exact runs_goto (encodes_group rfl fun _ => rfl) hr (push_next _ hroom hnone)
    case ret =>
      rintro hr hroom hnone _ rfl
      exact runs_goto (encodes_group rfl fun _ => rfl) hr (pop_next _ hroom hnone)
    case reti =>
      rintro hr hroom hnone _ _ rfl rfl hroom' hnone' _ rfl
      exact runs_goto (encodes_group rfl fun _ => rfl) hr ((pop_next _ hroom hnone).trans (pop_next _ hroom' hnone'))
    case reached =>
      exact runs_next (encodes_group rfl fun _ => rfl) hr ((waittBody_eq hn).trans (if_pos hreached))
    case ahead =>
      exact runs_hold (encodes_group rfl fun _ => rfl) hr ((waittBody_eq hn).trans (if_neg (Nat.not_lt.mpr hahead)))
  case long =>
    rintro p f s _ _ rfl rfl
    refine ⟨fun hr => runs_goto (encodes_long rfl fun _ => rfl) hr rfl,
      fun hr hroom hnone => runs_goto (encodes_long rfl fun _ => rfl) hr (push_next _ hroom hnone),
      fun hr hzero => runs_goto (encodes_long rfl fun _ => rfl) hr (if_pos (decide_eq_true hzero)),
      fun hr hnonzero => runs_next (encodes_long rfl fun _ => rfl) hr (if_neg ?_),
      fun hr hnonzero => runs_goto (encodes_long rfl fun _ => rfl) hr (if_pos (decide_eq_true hnonzero)),
      fun hr hzero => runs_next (encodes_long rfl fun _ => rfl) hr (if_neg ?_)⟩
    · simpa using hnonzero
    · simpa using hzero

end Sys2Proof.Machine
end

section
/-! POSTED_STORE_COMPLETE where a second store follows: the turret's arbiter serves that one at once (R93, R138). -/
namespace Sys2Proof.Machine

/-- A store that its turret's arbiter alone grants is performed as it comes to the front (R93). -/
theorem nextPosted_posted {p : Nat} (hp : p < 34) {s : State} {x : Posted} {r : List Posted}
    (hposted : (s.proc p).posted = x :: r) (hown : turretOnly p x.addr.toNat = true) (hwaits : x.performed = false) :
    ((nextPosted p s).proc p).posted = { x with performed := true } :: r := by
  rw [nextPosted, hposted]
  simp only [hown, hwaits, Bool.not_false, Bool.and_self, if_true]
  rw [proc_modProc_self _ _ hp]

/-- POSTED_STORE_COMPLETE of a store that its grant has performed (R138). -/
theorem runs_postedStoreComplete {p : ProcId} {s : State} {x : Posted} {r : List Posted} (hposted : (s.proc p.1).posted = x :: r)
    (hdone : x.performed = true) (hfree : submitHeld (procReq p.1 x.addr.toNat s) x.addr.toNat s = false) :
    Runs (.postedStoreComplete p) s (nextPosted p.1 (s.modProc p.1 fun k => { k with posted := r })) := by
  change execPostedStoreComplete p s = _
  simp only [execPostedStoreComplete, hposted, happens, hdone, hfree, Bool.not_false, Bool.and_self, if_true]

/-- C0's sequencer after an STP to its own cell memory: the low word performed, the high word to come. -/
def pairPosted : State :=
  State.reset.modProc 2 fun k => { k with posted := [⟨0x40000#20, 1, true⟩, ⟨0x40001#20, 2, false⟩] }

theorem pairPosted_posted : (pairPosted.proc 2).posted = [⟨0x40000#20, 1, true⟩, ⟨0x40001#20, 2, false⟩] :=
  congrArg Proc.posted (proc_modProc_self _ _ (by decide))

/-- Refutes O26: the completion of the first store of a pair also performs the second, where it goes to the cell's own memory. -/
theorem not_interruptsAndStoresAreTaken : ¬ Obligations.InterruptsAndStoresAreTaken := by
  unfold Obligations.InterruptsAndStoresAreTaken
  intro h
  obtain ⟨-, -, hstore⟩ := h 0 2 pairPosted
  have hleft : ((pairPosted.modProc 2 fun k => { k with posted := [⟨0x40001#20, 2, false⟩] }).proc 2).posted =
      [⟨0x40001#20, 2, false⟩] := congrArg Proc.posted (proc_modProc_self _ _ (by decide))
  have hclaimed := hstore _ _ pairPosted_posted rfl rfl
  have hperformed := (runs_postedStoreComplete (p := 2) pairPosted_posted rfl rfl).unique hclaimed
  have hsecond := nextPosted_posted (by decide) hleft (by decide) rfl
  cases hleft.symm.trans ((congrArg (fun t => (t.proc 2).posted) hperformed).symm.trans hsecond)

end Sys2Proof.Machine
end

section
/-! The multiply and divide groups: what issues, the quotients of R137, and how results are written (R105, R106, R136, R137). -/
namespace Sys2Proof.Machine

section Quotients
variable (a b : Word)

/-- A signed operation that BitVec defines by its integer value. -/
theorem ofI_of_toInt {x : Word} {n : Int} (h : x.toInt = n.bmod (2 ^ 20)) : ofI n = x := by
  apply BitVec.eq_of_toInt_eq
  rw [ofI, BitVec.toInt_ofInt, h]

theorem ofI_tdiv : ofI (Int.tdiv a.toInt b.toInt) = a.sdiv b := ofI_of_toInt (BitVec.toInt_sdiv a b)

theorem ofI_tmod : ofI (Int.tmod a.toInt b.toInt) = a.srem b := by
  rw [ofI, ← BitVec.toInt_srem, BitVec.ofInt_toInt]

theorem divide_unsigned {b : Word} (hb : b ≠ 0) : divide false a b = .quotient (a / b) (a % b) false false := by
  have hdiv : BitVec.ofNat 20 (a.toNat / b.toNat) = a / b := by rw [← BitVec.toNat_udiv, BitVec.ofNat_toNat, BitVec.setWidth_eq]
  have hmod : BitVec.ofNat 20 (a.toNat % b.toNat) = a % b := by rw [← BitVec.toNat_umod, BitVec.ofNat_toNat, BitVec.setWidth_eq]
  rw [divide, if_neg hb, if_pos (by decide), hdiv, hmod]

theorem divide_signed {b : Word} (hb : b ≠ 0) (hcorner : ¬ (a = 0x80000#20 ∧ b = 0xFFFFF#20)) :
    divide true a b = .quotient (a.sdiv b) (a.srem b) false false := by
  rw [divide, if_neg hb, if_neg (by decide), if_neg hcorner, ofI_tdiv, ofI_tmod]

/-- A quotient by 0 has the sign of the dividend (R137). -/
theorem divide_signed_zero :
    divide true a 0 = .quotient (if 0 ≤ a.toInt then 0x7FFFF#20 else 0x80000#20) a true false := by
  have hsign : tst a 19 = decide (a.toInt < 0) := by
    rw [tst, ← BitVec.msb_eq_toInt, BitVec.msb_eq_getLsbD_last]
    rfl
  by_cases h : a.toInt < 0
  · simp [divide, hsign, h, Int.not_le.mpr h]
  · simp [divide, hsign, h, Int.not_lt.mp h]

end Quotients

section Accumulator
variable {p : ProcId} {ord : Nat} {s : State}

/-- MH:ML of its two words. -/
theorem accOf_words {k : Proc} {v : BitVec 40} (hhi : k.mh = wordOf v.toNat 1) (hlo : k.ml = wordOf v.toNat 0) : accOf k = v := by
  have := v.isLt
  apply BitVec.eq_of_toNat_eq
  simp only [accOf, hhi, hlo, wordOf, BitVec.toNat_ofNat]
  omega

/-- Before anything of the cycle has written MH:ML, they are as the cycle began (R106). -/
theorem accCyc_of_none {p : Nat} (h : ∀ x ∈ s.cyc.accs, x.p ≠ p) :
    accCyc p s = { p := p, prev := accOf (s.proc p), hi := 0, lo := 0 } := by
  have hnone : s.cyc.accs.find? (fun x => decide (x.p = p)) = none := by simpa using h
  rw [accCyc, hnone]
  rfl

/-- A result for both words writes each unless one later in program order has (R106). -/
theorem proc_accPut (hi lo : Word) : (accPut p.1 ord (some hi) (some lo) s).proc p.1 =
    { s.proc p.1 with
        mh := if (accCyc p.1 s).hi ≤ ord then hi else (s.proc p.1).mh,
        ml := if (accCyc p.1 s).lo ≤ ord then lo else (s.proc p.1).ml } := by
  have hproc := proc_modProc_self s (fun k => { k with
    mh := if (accCyc p.1 s).hi ≤ ord then hi else k.mh, ml := if (accCyc p.1 s).lo ≤ ord then lo else k.ml }) p.2
  rw [← hproc]
  simp [accPut, State.proc, State.modProc]

theorem proc_statusSet (m : Word) : (statusSet p.1 m s).proc p.1 = { s.proc p.1 with status := (s.proc p.1).status ||| m } :=
  proc_modProc_self s (fun k => { k with status := k.status ||| m }) p.2

theorem proc_writeDue_product (v : BitVec 40) : (writeDue p.1 ord (.product v) s).proc p.1 =
    { s.proc p.1 with
        mh := if (accCyc p.1 s).hi ≤ ord then wordOf v.toNat 1 else (s.proc p.1).mh,
        ml := if (accCyc p.1 s).lo ≤ ord then wordOf v.toNat 0 else (s.proc p.1).ml } := proc_accPut ..

theorem writeDue_accumulate (v : BitVec 40) :
    writeDue p.1 ord (.accumulate v) s = writeDue p.1 ord (.product ((accCyc p.1 s).prev + v)) s := rfl

theorem proc_writeDue_quotient (q r : Word) (dz ovf : Bool) : (writeDue p.1 ord (.quotient q r dz ovf) s).proc p.1 =
    { s.proc p.1 with
        mh := if (accCyc p.1 s).hi ≤ ord then r else (s.proc p.1).mh,
        ml := if (accCyc p.1 s).lo ≤ ord then q else (s.proc p.1).ml,
        status := (s.proc p.1).status ||| putBit (putBit 0 5 dz) 4 ovf } := by
  rw [writeDue, proc_statusSet, proc_accPut]

theorem accOf_writeDue_product (hhi : (accCyc p.1 s).hi ≤ ord) (hlo : (accCyc p.1 s).lo ≤ ord) (v : BitVec 40) :
    accOf ((writeDue p.1 ord (.product v) s).proc p.1) = v := by
  rw [proc_writeDue_product, if_pos hhi, if_pos hlo]
  exact accOf_words rfl rfl

/-- A result leaves the words that one later in program order has written in its cycle (R106). -/
theorem writeDue_later (d : DueResult) :
    (ord < (accCyc p.1 s).hi → ((writeDue p.1 ord d s).proc p.1).mh = (s.proc p.1).mh) ∧
      (ord < (accCyc p.1 s).lo → ((writeDue p.1 ord d s).proc p.1).ml = (s.proc p.1).ml) := by
  cases d with
  | product v =>
    rw [proc_writeDue_product]
    exact ⟨fun h => if_neg (Nat.not_le.mpr h), fun h => if_neg (Nat.not_le.mpr h)⟩
  | accumulate v =>
    rw [writeDue_accumulate, proc_writeDue_product]
    exact ⟨fun h => if_neg (Nat.not_le.mpr h), fun h => if_neg (Nat.not_le.mpr h)⟩
  | quotient q r dz ovf =>
    rw [proc_writeDue_quotient]
    exact ⟨fun h => if_neg (Nat.not_le.mpr h), fun h => if_neg (Nat.not_le.mpr h)⟩

theorem tst_or (v w : Word) (i : Nat) : tst (v ||| w) i = (tst v i || tst w i) := by
  rw [tst, BitVec.toNat_or, Nat.testBit_or, tst, tst]

end Accumulator

section Issue
variable {p : ProcId} {f : ShortF} {s : State}

theorem divBody_issues {signed : Bool} (h : ¬ (s.g p.1 f.rs = 0 ∧ tst (s.proc p.1).status 6 = true)) :
    divBody signed p.1 f s = .next (issueDue p.1 (divide signed (s.g p.1 f.rd) (s.g p.1 f.rs)) s) := if_neg h

/-- A division by 0 with dzt set does not issue: its trap has the division itself as its stacked PC (R119, R137). -/
theorem runs_divBody_traps {i : Instr} {mem signed : Bool} (he : Encodes i p 1 (!isCell p.1) mem (divBody signed p.1 f))
    (hzero : s.g p.1 f.rs = 0) (hdzt : tst (s.proc p.1).status 6 = true) (hstored : (s.proc p.1).posted = []) (hr : Ready i s) :
    Runs i s (takeException p.1 23 0 (s.pcOf p.1) (s.modProc p.1 fun k => { k with status := putBit k.status 5 true })) := by
  have hp : isCell p.1 = false := by simpa using legal_of_ready he hr
  have hruns := runs_finish he hr (.inr (.inr hstored))
  rwa [divBody, if_pos ⟨hzero, hdzt⟩, finish, hp, if_neg Bool.false_ne_true, helmFinish, if_pos rfl] at hruns

/-- The oldest due result of a kind is written, and is due no more (R105). -/
theorem dueWrite_of_first {kind : DueResult → Bool} {ord : Nat} {d : DueResult}
    (h : (s.proc p.1).due.find? (fun x => kind x.2) = some (ord, d)) :
    dueWrite kind p.1 s = writeDue p.1 ord d (s.modProc p.1 fun k => { k with due := dropDue kind k.due }) := by
  rw [dueWrite, h]

end Issue

/-- Settles O22: an instruction of the groups queues its result or traps, and the oldest due result of a kind is written by its
place in program order. -/
theorem multiplyAndDivideComplete : Obligations.MultiplyAndDivideComplete := by
  unfold Obligations.MultiplyAndDivideComplete
  refine ⟨?issue, ?quotients, ?writes, ?accumulator⟩
  case issue =>
    rintro p f s _ _ queued rfl rfl hqueued
    obtain rfl : queued = fun d => issueDue p.1 d s := funext hqueued
    refine ⟨fun hr => runs_next (encodes_group rfl fun _ => rfl) hr rfl,
      fun hr => runs_next (encodes_group rfl fun _ => rfl) hr rfl, fun hr => runs_next (encodes_group rfl fun _ => rfl) hr rfl,
      fun hissues => ⟨fun hr => ?_, fun hr => ?_⟩, ?traps⟩
    · exact runs_next (encodes_group rfl fun _ => rfl) hr (divBody_issues hissues)
    · exact runs_next (encodes_group rfl fun _ => rfl) hr (divBody_issues hissues)
    case traps =>
      rintro hzero hdzt hstored _ rfl
      exact ⟨runs_divBody_traps (encodes_group rfl fun _ => rfl) hzero hdzt hstored,
        runs_divBody_traps (encodes_group rfl fun _ => rfl) hzero hdzt hstored⟩
  case quotients =>
    intro a b
    exact ⟨divide_unsigned a, rfl, divide_signed_zero a, rfl, divide_signed a⟩
  case writes =>
    exact fun p s ord d => ⟨fun h => congrArg _ (dueWrite_of_first (kind := isMul) h),
      fun h => congrArg _ (dueWrite_of_first (kind := fun x => !isMul x) h)⟩
  case accumulator =>
    rintro p s ord _ v q r dz ovf w rfl hw
    obtain rfl : w = fun d => (writeDue p.1 ord d s).proc p.1 := funext hw
    refine ⟨fun hnone => ?began, fun hhi hlo => ?stands, writeDue_later, ?dz, ?ovf⟩
    case began =>
      rw [accCyc_of_none hnone]
      exact ⟨rfl, rfl, rfl⟩
    case stands =>
      refine ⟨accOf_writeDue_product hhi hlo v, accOf_writeDue_product hhi hlo _, ?_⟩
      simp only [proc_writeDue_quotient, hhi, hlo, if_true, and_self]
    case dz =>
      simp only [proc_writeDue_quotient]
      rw [tst_or, tst_putBit_ne _ _ (by omega), tst_putBit_self _ _ (by omega)]
    case ovf =>
      simp only [proc_writeDue_quotient]
      rw [tst_or, tst_putBit_self _ _ (by omega)]

end Sys2Proof.Machine
end

section
/-! Frame of the stores: a posted store touches its own words of memory, and of its processor the posted stores (R117, R118, R138,
R165). -/
namespace Sys2Proof.Machine

section Memory
variable {q a : Nat} {v : Word} {s : State}

theorem memPut_procs : (memPut a v s).procs = s.procs := by
  unfold memPut keepBin
  split
  · split
    · rfl
    · split <;> rfl
  · rfl

/-- A write of a memory word leaves the others (R201). -/
theorem rdMem_memPut_ne {b : Nat} (h : b ≠ a) : (memPut a v s).rdMem b = s.rdMem b := by
  unfold memPut keepBin
  split
  · split
    · rfl
    · split <;> exact rdMem_wrMem_ne _ _ h
  · exact rdMem_wrMem_ne _ _ h

theorem busPut_of_memory (h : a < 0x70000) : busPut q a v s = memPut a v s := if_pos (.inl h)

end Memory

/-- Between s and t processor p has stored words at addresses of own, and nothing else has become of memory or of a processor but
its posted stores; a Helm core's are performed in their grants (R138). -/
structure StoresOnly (p : Nat) (own : Nat → Prop) (s t : State) : Prop where
  mem : ∀ b, ¬ own b → t.rdMem b = s.rdMem b
  helm : isCell p = false → ∀ b, t.rdMem b = s.rdMem b
  others : ∀ q, q ≠ p → t.proc q = s.proc q
  kept : ∃ l, t.proc p = { s.proc p with posted := l }

section StoresOnly
variable {p : ProcId} {own : Nat → Prop} {a v : Word} {s t u : State}

theorem StoresOnly.trans (hst : StoresOnly p.1 own s t) (htu : StoresOnly p.1 own t u) : StoresOnly p.1 own s u where
  mem b hb := (htu.mem b hb).trans (hst.mem b hb)
  helm hp b := (htu.helm hp b).trans (hst.helm hp b)
  others q hq := (htu.others q hq).trans (hst.others q hq)
  kept := by
    obtain ⟨l, hl⟩ := hst.kept
    obtain ⟨l', hl'⟩ := htu.kept
    exact ⟨l', by rw [hl', hl]⟩

/-- The state of the grant that a sequencer's store may have at once (R93, R165). -/
theorem storesOnly_grant (hp : isCell p.1 = true) (hreach : turretOnly p.1 a.toNat = true) (hown : own a.toNat) :
    StoresOnly p.1 own s (busPut (p.1 - 2) a.toNat v (turretServe (p.1 - 2) s)) := by
  have hmemory : a.toNat < 0x70000 := by
    simp only [turretOnly, Bool.and_eq_true, decide_eq_true_eq] at hreach
    exact hreach.2
  have hproc (q : Nat) : (memPut a.toNat v (turretServe (p.1 - 2) s)).proc q = s.proc q := by
    rw [State.proc, memPut_procs]
    rfl
  rw [busPut_of_memory hmemory]
  refine ⟨fun b hb => ?_, fun hhelm => absurd (hp.symm.trans hhelm) (by decide), fun q _ => hproc q, ⟨_, hproc p.1⟩⟩
  exact rdMem_memPut_ne fun hba => hb (hba ▸ hown)

/-- A posted store waits at its processor. -/
theorem storesOnly_posted (f : List Posted → List Posted) :
    StoresOnly p.1 own s (s.modProc p.1 fun k => { k with posted := f k.posted }) where
  mem _ _ := rfl
  helm _ _ := rfl
  others _ hq := proc_modProc_ne _ _ hq.symm
  kept := ⟨_, proc_modProc_self _ _ p.2⟩

/-- The record of a failed access is none of memory or of a processor (R88). -/
theorem RegistersOnly.storesOnly (h : RegistersOnly s t) : StoresOnly p.1 own s t := by
  rw [h.frame]
  exact ⟨fun _ _ => rfl, fun _ _ => rfl, fun _ _ => rfl, ⟨_, rfl⟩⟩

/-- A store that is posted is recorded as failed, performed at once, or waits for its grant (R88, R138, R166). -/
theorem storesOnly_post (hown : own a.toNat) : StoresOnly p.1 own s (post p.1 a v s) := by
  unfold post
  split
  case h_1 k _ => exact (recordFault_registersOnly a.toNat k s (p.1 - 2)).storesOnly
  case h_2 =>
    dsimp only
    split
    next hgrant =>
      have hreach := (Bool.and_eq_true_iff.mp hgrant).1
      have hp : isCell p.1 = true := by
        simp only [turretOnly, Bool.and_eq_true] at hreach
        exact hreach.1.1
      exact (storesOnly_grant hp hreach hown).trans (storesOnly_posted fun l => l ++ _)
    next => exact storesOnly_posted fun l => l ++ _

end StoresOnly

/-- The state after the base update of a store (R117). -/
def State.withBase (s : State) (p : ProcId) : Option (BitVec 4 × Word) → State
  | some (r, v) => s.setG p.1 r v
  | none => s

section Base
variable (s : State) (p : ProcId) (base : Option (BitVec 4 × Word))

theorem rdMem_withBase (b : Nat) : (s.withBase p base).rdMem b = s.rdMem b := by cases base <;> rfl

theorem proc_withBase_ne {q : Nat} (hq : q ≠ p.1) : (s.withBase p base).proc q = s.proc q := by
  cases base with
  | none => rfl
  | some x => exact proc_modProc_ne _ _ hq.symm

theorem proc_withBase : ∃ g, (s.withBase p base).proc p.1 = { s.proc p.1 with g := g } := by
  cases base with
  | none => exact ⟨_, rfl⟩
  | some x => exact ⟨_, proc_modProc_self _ _ p.2⟩

theorem g_withBase_base (r : BitVec 4) (v : Word) : (s.withBase p (some (r, v))).g p.1 r = v := g_setG_self ..

theorem g_withBase_ne {base : Option (BitVec 4 × Word)} {r : BitVec 4} (h : ∀ v, base ≠ some (r, v)) :
    (s.withBase p base).g p.1 r = s.g p.1 r := by
  cases base with
  | none => rfl
  | some x =>
    have hne : r ≠ x.1 := fun hr => h x.2 (hr ▸ rfl)
    rw [State.withBase, State.g, State.setG, proc_modProc_self _ _ p.2]
    exact vget_vset_register_ne _ _ hne

/-- Whether a store faults does not turn on its base update (R123). -/
theorem dataFault_withBase (b : Word) (w : Bool) : dataFault p.1 b w (s.withBase p base) = dataFault p.1 b w s := by
  cases base <;> rfl

end Base

/-- The words that a store of n words from a on covers. -/
def storeWords (a : Word) (n : Nat) (b : Nat) : Prop := ∃ k, k < n ∧ b = (a + BitVec.ofNat 20 k).toNat

section Stores
variable {i : Instr} {p : ProcId} {a : Word} {s : State}

theorem storeWords_first (a : Word) {n : Nat} (h : 0 < n) : storeWords a n a.toNat := ⟨0, h, by simp⟩

theorem storeWords_second (a : Word) : storeWords a 2 (a + 1).toNat := ⟨1, by omega, rfl⟩

/-- A store of i that issues and neither faults nor raises STACK: the words of it from a on are stored after its base update. -/
def StoreRuns (i : Instr) (p : ProcId) (a : Word) (n : Nat) (s : State) : Prop :=
  ∃ len t, Runs i s (completed p len s t) ∧ StoresOnly p.1 (storeWords a n) (s.withBase p (storeBase i s)) t

theorem storeRuns_of_puts {len : Nat} {v : Word} (hputs : Puts i p len a v (s.withBase p (storeBase i s)) s) (hr : Ready i s)
    (hnone : ∀ k, k < 1 → dataFault p.1 (a + BitVec.ofNat 20 k) true s = none) : StoreRuns i p a 1 s := by
  have hfirst : dataFault p.1 a true s = none := by simpa using hnone 0 (by omega)
  exact ⟨len, _, hputs hr ((dataFault_withBase ..).trans hfirst), storesOnly_post (storeWords_first a (by omega))⟩

theorem storeRuns_of_putsPair {len : Nat} {lo hi : Word} (hputs : PutsPair i p len a lo hi (s.withBase p (storeBase i s)) s)
    (hr : Ready i s) (hnone : ∀ k, k < 2 → dataFault p.1 (a + BitVec.ofNat 20 k) true s = none) : StoreRuns i p a 2 s := by
  have hfirst : dataFault p.1 a true s = none := by simpa using hnone 0 (by omega)
  have hsecond : dataFault p.1 (a + 1) true s = none := hnone 1 (by omega)
  exact ⟨len, _, hputs hr ((dataFault_withBase ..).trans hfirst) ((dataFault_withBase ..).trans hsecond),
    (storesOnly_post (storeWords_first a (by omega))).trans (storesOnly_post (storeWords_second a))⟩

/-- Every store form stores its words (R117, R118, R131). -/
theorem storeRuns {n : Nat} (htarget : storeTarget i s = some (p, a, n)) (hr : Ready i s)
    (hnone : ∀ k, k < n → dataFault p.1 (a + BitVec.ofNat 20 k) true s = none)
    (hbase : ∀ r v, storeBase i s = some (r, v) → mayHold p r v s) : StoreRuns i p a n s := by
  unfold storeTarget at htarget
  split at htarget <;> cases htarget
  case h_1 => exact storeRuns_of_puts (puts_of_body (encodes_short rfl fun _ => rfl) rfl) hr hnone
  case h_2 f =>
    have hhold : mayHold p f.rs (updAddr p.1 f s).2 s := hbase _ _ rfl
    obtain hwords | hwords : updWords f = 1 ∨ updWords f = 2 := by
      unfold updWords
      split
      · exact .inr rfl
      · exact .inl rfl
    · rw [hwords] at hnone ⊢
      exact storeRuns_of_puts (puts_stUpdate ⟨hwords, rfl⟩ hhold) hr hnone
    · rw [hwords] at hnone ⊢
      exact storeRuns_of_putsPair (putsPair_stUpdate ⟨hwords, rfl⟩ hhold) hr hnone
  case h_3 => exact storeRuns_of_puts (puts_of_body (encodes_long rfl fun _ => rfl) rfl) hr hnone
  case h_4 => exact storeRuns_of_putsPair (putsPair_of_body (encodes_long rfl fun _ => rfl) rfl) hr hnone
  case h_5 => exact storeRuns_of_puts (puts_of_body (encodes_long rfl fun _ => rfl) rfl) hr hnone
  case h_6 => exact storeRuns_of_putsPair (putsPair_of_body (encodes_long rfl fun _ => rfl) rfl) hr hnone

end Stores

/-- Settles O34: the words are stored after the base update, and then the processor goes on. -/
theorem storesChangeOnlyTheirWords : Obligations.StoresChangeOnlyTheirWords := by
  unfold Obligations.StoresChangeOnlyTheirWords
  intro i p a n s t htarget hr hnone hbase ht
  obtain ⟨len, u, hruns, hstores⟩ := storeRuns htarget hr hnone hbase
  obtain rfl := ht.unique hruns
  obtain ⟨l, hkept⟩ := hstores.kept
  obtain ⟨g, hproc⟩ := proc_withBase s p (storeBase i s)
  have hg (r : BitVec 4) : (completed p len s u).g p.1 r = (s.withBase p (storeBase i s)).g p.1 r := by
    rw [g_completed, State.g, hkept, State.g]
  refine ⟨fun b hb => ?words, fun hp b => ?helm, fun r hne => ?registers, fun r v hsome => ?base,
    fun q hq => ?others, ?special⟩
  case words =>
    have hout : ¬ storeWords a n b := fun ⟨k, hk, hword⟩ => hb k hk hword
    rw [rdMem_completed, hstores.mem b hout, rdMem_withBase]
  case helm => rw [rdMem_completed, hstores.helm hp, rdMem_withBase]
  case registers => rw [hg, g_withBase_ne s p hne]
  case base => rw [hg, hsome, g_withBase_base]
  case others => rw [proc_completed_ne _ _ _ _ hq, hstores.others q hq, proc_withBase_ne _ _ _ hq]
  case special =>
    rw [proc_completed, hkept, hproc]
    exact ⟨rfl, rfl, rfl, rfl, rfl, rfl, rfl⟩

end Sys2Proof.Machine
end

section
/-! Entry to an exception whose stack lies in memory (R119, R120): its grants, its pushes, its STATUS and its vector. -/
namespace Sys2Proof.Machine

/-- A field of a word bit by bit, after it is set (R6). -/
theorem tst_putFld (w : Word) {lo n i : Nat} (v : Nat) (hi : i < 20) :
    tst (putFld w lo n v) i = if lo ≤ i ∧ i < lo + n then v.testBit (i - lo) else tst w i := by
  have hlow : w.toNat % 2 ^ lo < 2 ^ lo := Nat.mod_lt _ (Nat.two_pow_pos lo)
  have hfield : v % 2 ^ n < 2 ^ n := Nat.mod_lt _ (Nat.two_pow_pos n)
  rw [tst, putFld_eq, BitVec.toNat_ofNat, Nat.testBit_mod_two_pow, decide_eq_true hi, Bool.true_and,
    Nat.testBit_two_pow_mul_add _ hlow, Nat.testBit_two_pow_mul_add _ hfield]
  split
  next hbelow => rw [if_neg (by omega), Nat.testBit_mod_two_pow, decide_eq_true hbelow, Bool.true_and, tst]
  next habove =>
    split
    next hin => rw [if_pos (by omega), Nat.testBit_mod_two_pow, decide_eq_true hin, Bool.true_and]
    next hout =>
      rw [if_neg (by omega), Nat.testBit_div_two_pow, Nat.testBit_div_two_pow, tst]
      congr 1
      omega

/-- STATUS on entry, bit by bit (R120). -/
theorem tst_entryStatus {v level i : Nat} (st : Word) (hv : v ≠ 4) (hi : i < 20) : tst (entryStatus v level st) i =
    (if 32 ≤ v then (if 8 ≤ i ∧ i < 12 then (level + 1).testBit (i - 8) else tst st i)
     else if i = 7 then false else if v = 1 ∧ i = 12 then true else tst st i) := by
  have hie (w : Word) : tst (putBit w 7 false) i = if i = 7 then false else tst w i := by
    split
    next h => rw [h, tst_putBit_self _ _ (by omega)]
    next h => exact tst_putBit_ne _ _ h
  unfold entryStatus
  split
  next => exact tst_putFld st _ hi
  next =>
    split
    next hnmi =>
      rw [hie]
      by_cases h : i = 12
      · simp [hnmi, h, tst_putBit_self]
      · simp [h, tst_putBit_ne]
    next hnmi =>
      rw [hie]
      simp [hnmi]

/-- Memory answers, and no other requester has anything for the bus. -/
structure QuietBus (s : State) : Prop where
  answers : s.dom 4 = true
  alive : s.dead = false
  noStore : ∀ r, storeWaits r s = false
  noDma : dmaReady s = false

section Bus
variable {h : Nat} {s : State}

/-- A change of a processor beside its posted stores. -/
theorem QuietBus.modProc (hs : QuietBus s) {p : Nat} (hp : p < 34) {f : Proc → Proc} (hf : ∀ k, (f k).posted = k.posted) :
    QuietBus (s.modProc p f) where
  answers := hs.answers
  alive := hs.alive
  noDma := hs.noDma
  noStore r := by
    have hposted : ((s.modProc p f).proc r).posted = (s.proc r).posted := by
      by_cases hr : p = r
      · rw [← hr, proc_modProc_self _ _ hp, hf]
      · rw [proc_modProc_ne _ _ hr]
    rw [← hs.noStore r, storeWaits, storeWaits, hposted]

theorem QuietBus.mapBus (hs : QuietBus s) (f : Bus → Bus) : QuietBus (s.mapBus f) :=
  ⟨hs.answers, hs.alive, hs.noStore, hs.noDma⟩

theorem QuietBus.wrMem (hs : QuietBus s) (a : Nat) (v : Word) : QuietBus (s.wrMem a v) :=
  ⟨hs.answers, hs.alive, hs.noStore, hs.noDma⟩

/-- A Helm core alone asks for the bus: its own position of the rotation is the only one with a request (R93, R94). -/
theorem posWaits_alone (hs : QuietBus s) (hh : h < 2) (k : Nat) : posWaits h k s = decide (k = 4 + h) := by
  have hasks (r : Nat) : asks h r s = decide (r = h) := by rw [asks, hs.noStore, Bool.or_false]
  unfold posWaits
  split
  next hk =>
    have hcells : cellsWaiting h k s = 0 := by
      simp only [cellsWaiting, hasks, seqProc]
      simp
      omega
    rw [hcells]
    simp
    omega
  next =>
    split
    next hk => simp only [hasks, hk, decide_eq_decide]; omega
    next =>
      split
      next hk => simp only [hasks, hk, decide_eq_decide]; omega
      next =>
        split
        next hk => simp only [decide_eq_decide]; omega
        next => rw [hs.noDma, eq_comm, decide_eq_false_iff_not]; omega

theorem grantAt_alone (hs : QuietBus s) (hh : h < 2) : grantAt h (4 + h) s = (true, s) := by
  obtain rfl | rfl : h = 0 ∨ h = 1 := by omega
  · simp [grantAt, grantTo, hs.noStore]
  · simp [grantAt, grantTo, hs.noStore]

/-- The rotation reaches the only position with a request (R93). -/
theorem rotate_alone (hs : QuietBus s) (hh : h < 2) : ∃ f, rotate h s = (true, s.mapBus f) := by
  have hpos : ∃ k, ((List.range 8).map fun k => (s.bus.pos + 1 + k) % 8).find? (fun k => posWaits h k s) = some k := by
    rw [← Option.isSome_iff_exists, List.find?_isSome]
    refine ⟨4 + h, List.mem_map.mpr ⟨(4 + h + 7 * (s.bus.pos + 1)) % 8, List.mem_range.mpr (by omega), by omega⟩, ?_⟩
    rw [posWaits_alone hs hh, decide_eq_true rfl]
  obtain ⟨k, hfind⟩ := hpos
  have hk : k = 4 + h := by
    have := List.find?_some hfind
    simpa [posWaits_alone hs hh] using this
  rw [rotate, hfind, hk]
  exact ⟨_, grantAt_alone (hs.mapBus _) hh⟩

/-- The grant of a Helm core that alone asks for the bus changes the arbiter alone (R93). -/
theorem busTurn_alone (hs : QuietBus s) (hh : h < 2) : ∃ f, busTurn h s = s.mapBus f := by
  have hgrant : ∃ f, arbiterGrant h s = (true, s.mapBus f) := by
    unfold arbiterGrant
    split
    next hcond =>
      rw [posWaits_alone hs hh, Bool.and_eq_true, decide_eq_true_eq, decide_eq_true_eq] at hcond
      rw [hcond.2]
      exact ⟨_, grantAt_alone (hs.mapBus _) hh⟩
    next => exact rotate_alone hs hh
  obtain ⟨f, hf⟩ := hgrant
  exact ⟨f, by rw [busTurn, grantsUntil, hf]; rfl⟩

end Bus

section Pushes
variable {h : HelmId} {s : State} {q a : Nat}

theorem domainOf_ram (ha : a < 0x38000) : domainOf a = 4 := if_pos ha

theorem answers_ram (hs : QuietBus s) (ha : a < 0x38000) : s.answers a = true := by
  simp [State.answers, domainOf_ram ha, hs.answers]

/-- Boot ROM and RAM can be read, RAM can be written (R85, R87). -/
theorem accessFault_ram {w : Bool} (hs : QuietBus s) (ha : a < 0x38000) (hw : w = true → a < 0x30000) :
    s.accessFault a w = none := by
  rw [State.accessFault, if_neg (by omega), if_neg fun ⟨hwrite, hrom, _⟩ => absurd (hw hwrite) (by omega), answers_ram hs ha,
    if_pos rfl]

/-- A Helm core's access fails by its address alone (R87). -/
theorem reqFault_helm (w : Bool) (a b : Nat) (s t : State) : reqFault (procReq h.1 b t) a w s = s.accessFault a w := by
  have hcode : procReq h.1 b t = 0x23 ∨ procReq h.1 b t = 0x20 + h.1 := by
    rw [procReq, if_neg (by omega)]
    split
    · exact .inl rfl
    · exact .inr rfl
  rw [reqFault, if_neg (by omega), if_neg (by omega)]

theorem busWrite_ram (hs : QuietBus s) (ha : a < 0x30000) (v : Word) : busWrite (procReq h.1 a s) a v s = s.wrMem a v := by
  rw [busWrite_eq_withAccess (by omega) (by omega), withAccess, hs.alive, reqFault_helm,
    accessFault_ram hs (by omega) fun _ => ha, if_neg Bool.false_ne_true]
  dsimp only
  rw [busPut, if_pos (by omega), memPut, if_neg (by omega)]

/-- A Helm core's read of a word with correct parity, once its grant has come (R90, R93). -/
theorem readWord_ram (hs : QuietBus s) {e : Word} (he : e.toNat < 0x38000) (hparity : s.badParity.contains e.toNat = false) :
    ∃ f, readWord h.1 e s = (s.rdMem e.toNat, s.mapBus f) := by
  obtain ⟨f, hf⟩ := busTurn_alone hs h.2
  have hturn : accessTurn h.1 e.toNat s = s.mapBus f := by
    rw [accessTurn, if_neg, hf]
    simp [turretOnly, isCell]
    omega
  have hs' := hs.mapBus f
  refine ⟨f, ?_⟩
  simp only [readWord, hturn]
  rw [busRead, hs'.alive, if_neg Bool.false_ne_true, reqFault_helm, accessFault_ram hs' he (by simp)]
  dsimp only
  rw [busGet, if_pos (by omega), memGet, parityChecked, mapBus_badParity, hparity, if_neg Bool.false_ne_true]
  rfl

/-- Core h has pushed v between s and t: the word below its stack pointer holds it, and its stack pointer is there (R120). -/
structure Pushed (h : Nat) (v : Word) (s t : State) : Prop where
  quiet : QuietBus t
  mem : ∀ k, t.rdMem k = if k = (s.sp h - 1).toNat then v else s.rdMem k
  proc : t.proc h = { s.proc h with g := vset (s.proc h).g 15 (s.sp h - 1) }
  parity : ∀ e, s.badParity.contains e = false → t.badParity.contains e = false

theorem entryPush_ram (hs : QuietBus s) (v : Word) (ha : (s.sp h.1 - 1).toNat < 0x30000) :
    ∃ t, entryPush h.1 v s = (t, false) ∧ Pushed h.1 v s t := by
  obtain ⟨f, hf⟩ := busTurn_alone hs h.2
  have hs' := hs.mapBus f
  have hp : h.1 < 34 := by omega
  refine ⟨((s.mapBus f).wrMem (s.sp h.1 - 1).toNat v).setG h.1 15 (s.sp h.1 - 1), ?_, ?quiet, fun k => ?mem, ?proc,
    fun e he => ?parity⟩
  · simp only [entryPush, accessFault_ram hs (w := true) (by omega) fun _ => ha, hf]
    rw [busWrite_ram hs' ha]
  case quiet => exact (hs'.wrMem _ _).modProc hp fun _ => rfl
  case mem =>
    split
    next hk => rw [hk]; exact rdMem_wrMem_self (s.mapBus f) _ _
    next hk => exact rdMem_wrMem_ne (s.mapBus f) _ hk
  case proc => exact proc_modProc_self _ _ hp
  case parity =>
    rw [State.setG, modProc_badParity, wrMem_badParity, mapBus_badParity]
    simp only [List.contains_eq_mem, decide_eq_false_iff_not, List.mem_filter, not_and] at he ⊢
    exact fun hmem => absurd hmem he

/-- From NMI entry on, the first instruction of its handler is to come at w (R124). -/
def awaitHandler (v : Nat) (w : Word) (p : Proc) : Proc := { p with nmiFirst := if v = 1 then some w else p.nmiFirst }

/-- The handler at w follows (R120). -/
def enterHandler (v : Nat) (w : Word) (p : Proc) : Proc := { awaitHandler v w p with pc := w }

/-- The handler's first instruction follows at the word of the vector table (R120). -/
theorem entryVector_ram (hs : QuietBus s) {v : Nat} {e : Word} (hvector : e = s.vbaseOf h.1 + BitVec.ofNat 20 v)
    (he : e.toNat < 0x38000) (hparity : s.badParity.contains e.toNat = false) (hrun : (s.proc h.1).run = .running) :
    ∃ t, entryVector h.1 v s = (t, false) ∧ (∀ k, t.rdMem k = s.rdMem k) ∧
      t.proc h.1 = enterHandler v (s.rdMem e.toNat) (awaitHandler v e (s.proc h.1)) := by
  have hp : h.1 < 34 := by omega
  obtain ⟨f, hf⟩ := readWord_ram (h := h) (hs.modProc hp (f := awaitHandler v e) fun _ => rfl) he hparity
  have hproc : (((s.modProc h.1 (awaitHandler v e)).mapBus f).proc h.1) = awaitHandler v e (s.proc h.1) :=
    proc_modProc_self s _ hp
  have hread : readWord h.1 e (s.modProc h.1 fun p => { p with nmiFirst := if v = 1 then some e else p.nmiFirst }) =
      (s.rdMem e.toNat, (s.modProc h.1 (awaitHandler v e)).mapBus f) := hf
  refine ⟨((s.modProc h.1 (awaitHandler v e)).mapBus f).modProc h.1 (enterHandler v (s.rdMem e.toNat)), ?_, fun k => rfl,
    (proc_modProc_self _ _ hp).trans (congrArg _ hproc)⟩
  have hgo : (((s.modProc h.1 (awaitHandler v e)).mapBus f).proc h.1).run ≠ .lockup := by
    rw [hproc, awaitHandler, hrun]
    decide
  simp only [entryVector, ← hvector, accessFault_ram hs he (w := false) (by simp), hread, if_neg hgo]
  rfl

end Pushes

/-- The stack pointer after a first push. -/
theorem Pushed.sp {h : HelmId} {v : Word} {s t : State} (hpushed : Pushed h.1 v s t) : t.sp h.1 = s.sp h.1 - 1 := by
  rw [State.sp, State.g, hpushed.proc]
  exact vget_vset_self _ _ _ (by decide)

/-- What entry to exception v leaves of a core: two words pushed, the STATUS of R120, and the handler at w. -/
def enteredProc (v level : Nat) (sp e w : Word) (p : Proc) : Proc :=
  enterHandler v w (awaitHandler v e
    { p with run := .running, g := vset (vset p.g 15 (sp - 1)) 15 (sp - 2), status := entryStatus v level p.status })

/-- Entry to an exception other than STACK, with its stack and its vector in memory (R120). -/
theorem enterOnce_ram {h : HelmId} {v level : Nat} {pc e : Word} {s : State} (hs : QuietBus s)
    (ha : (s.sp h.1 - 1).toNat < 0x30000) (hb : (s.sp h.1 - 2).toNat < 0x30000)
    (hvector : e = s.vbaseOf h.1 + BitVec.ofNat 20 v) (he : e.toNat < 0x38000) (hparity : s.badParity.contains e.toNat = false) :
    ∃ t, enterOnce h.1 v level pc s = (t, false) ∧
      (∀ k, t.rdMem k = if k = (s.sp h.1 - 2).toNat then (s.proc h.1).status
        else if k = (s.sp h.1 - 1).toNat then pc else s.rdMem k) ∧
      t.proc h.1 = enteredProc v level (s.sp h.1) e (t.rdMem e.toNat) (s.proc h.1) := by
  have hp : h.1 < 34 := by omega
  have hproc0 := proc_modProc_self s (fun k => { k with run := .running }) hp
  have hsp0 : (s.modProc h.1 fun k => { k with run := .running }).sp h.1 = s.sp h.1 := by
    rw [State.sp, State.g, hproc0]
    rfl
  have hquiet0 := hs.modProc hp (f := fun k => { k with run := .running }) fun _ => rfl
  obtain ⟨t1, hpush1, hpushed1⟩ := entryPush_ram hquiet0 pc (hsp0 ▸ ha)
  have hsp1 : t1.sp h.1 - 1 = s.sp h.1 - 2 := by
    rw [hpushed1.sp, hsp0]
    bv_omega
  obtain ⟨t2, hpush2, hpushed2⟩ := entryPush_ram hpushed1.quiet (s.proc h.1).status (hsp1 ▸ hb)
  have hproc2 : (t2.modProc h.1 fun k => { k with status := entryStatus v level k.status }).proc h.1 =
      { s.proc h.1 with
        run := .running, g := vset (vset (s.proc h.1).g 15 (s.sp h.1 - 1)) 15 (s.sp h.1 - 2),
        status := entryStatus v level (s.proc h.1).status } := by
    rw [proc_modProc_self _ _ hp, hpushed2.proc, hpushed1.proc, hproc0, hsp1, hsp0]
  obtain ⟨t, hentry, hmem, hproc⟩ := entryVector_ram (h := h) (v := v) (e := e)
    (hpushed2.quiet.modProc hp (f := fun k => { k with status := entryStatus v level k.status }) fun _ => rfl)
    (by rw [hvector, State.vbaseOf, State.vbaseOf, hproc2]) he (hpushed2.parity _ (hpushed1.parity _ hparity)) (by rw [hproc2])
  refine ⟨t, ?_, fun k => ?mem, ?proc⟩
  · simp only [enterOnce, hpush1, hpush2, Bool.false_eq_true, if_false]
    exact hentry
  case mem =>
    rw [hmem]
    refine (hpushed2.mem k).trans ?_
    rw [hpushed1.mem, hsp1, hsp0]
    rfl
  case proc =>
    rw [hmem, enteredProc, ← hproc2]
    exact hproc

/-- Settles O32: entry pushes twice, and STACK does not follow. -/
theorem exceptionEntrySavesAndGoes : Obligations.ExceptionEntrySavesAndGoes := by
  unfold Obligations.ExceptionEntrySavesAndGoes
  rintro h v level pc s a b e _ hv4 _ _ rfl rfl rfl ha hb he hparity hdom hlimit halive hstores hdma _ rfl
  have hquiet : QuietBus s := ⟨hdom, halive, hstores, hdma⟩
  obtain ⟨t, hentry, hmem, hproc⟩ := enterOnce_ram (level := level) (pc := pc) hquiet ha hb rfl he hparity
  have htake : takeException h.1 v level pc s = t := by
    simp only [takeException, if_neg hv4, hlimit, hentry, Bool.false_and, Bool.false_eq_true, if_false]
  rw [htake]
  refine ⟨hmem, ?sp, fun r hr => ?registers, ?pc, by rw [hproc]; rfl, fun i hi => ?status⟩
  case sp =>
    rw [State.sp, State.g, hproc]
    exact vget_vset_self _ _ _ (by decide)
  case registers =>
    rw [State.g, hproc]
    exact (vget_vset_register_ne (i := 15) _ _ hr).trans (vget_vset_register_ne (i := 15) _ _ hr)
  case pc =>
    rw [State.pcOf, hproc]
    rfl
  case status =>
    rw [hproc]
    exact tst_entryStatus _ hv4 hi

end Sys2Proof.Machine
end

section
/-! The cell flags bit by bit (R109, R133, R135): which bit of STATUS each flag function sets, and what it leaves. -/
namespace Sys2Proof.Machine

/-- N is the sign of a word, its bit 19 (R133). -/
theorem tst_sign (w : Word) : tst w 19 = w.msb := (BitVec.msb_eq_getLsbD_last w).symm

section Bits
variable {i : Nat} (hi : i < 20)
include hi

theorem tst_putBit (w : Word) (j : Nat) (b : Bool) : tst (putBit w j b) i = if i = j then b else tst w i := by
  split
  next h => exact h ▸ tst_putBit_self w b hi
  next h => exact tst_putBit_ne w b h

theorem tst_zn (r st : Word) :
    tst (zn r st) i = if i = 0 then decide (r = 0) else if i = 1 then r.msb else tst st i := by
  rw [zn, tst_putBit hi, tst_putBit hi, tst_sign]
  match i with
  | 0 | 1 | _ + 2 => simp

/-- C and V are set above Z and N. -/
theorem tst_znCarryOverflow (r st : Word) (c v : Bool) : tst (putBit (putBit (zn r st) 2 c) 3 v) i =
    if i = 0 then decide (r = 0) else if i = 1 then r.msb else if i = 2 then c else if i = 3 then v else tst st i := by
  rw [tst_putBit hi, tst_putBit hi, tst_zn hi]
  match i with
  | 0 | 1 | 2 | 3 | _ + 4 => simp

theorem tst_znOverflow (r st : Word) (v : Bool) : tst (putBit (zn r st) 3 v) i =
    if i = 0 then decide (r = 0) else if i = 1 then r.msb else if i = 3 then v else tst st i := by
  rw [tst_putBit hi, tst_zn hi]
  match i with
  | 0 | 1 | 2 | 3 | _ + 4 => simp

end Bits

/-- The overflow test of `BitVec` with its bounds as numerals, as the flag functions write it. -/
theorem saddOverflow_word (a b : Word) : BitVec.saddOverflow a b =
    (decide (a.toInt + b.toInt < -524288) || decide (524287 < a.toInt + b.toInt)) := Bool.or_comm ..

/-- See `saddOverflow_word`. -/
theorem ssubOverflow_word (a b : Word) : BitVec.ssubOverflow a b =
    (decide (a.toInt - b.toInt < -524288) || decide (524287 < a.toInt - b.toInt)) := Bool.or_comm ..

/-- Settles O19: each flag function sets its bits one above the other, and a bit read is the last one set there. -/
theorem flagBitsOfResults : Obligations.FlagBitsOfResults := by
  unfold Obligations.FlagBitsOfResults
  intro a b r st i hi
  refine ⟨?sum, ?difference, tst_zn hi r st, tst_znOverflow hi _ st _⟩
  case sum =>
    rw [saddOverflow_word]
    exact tst_znCarryOverflow hi ..
  case difference =>
    rw [ssubOverflow_word]
    exact tst_znCarryOverflow hi ..

end Sys2Proof.Machine
end

section
/-! Shifts by their counts (R134): the count of a register and of an immediate, and the arithmetic shift. -/
namespace Sys2Proof.Machine

/-- A register count is taken modulo 32. -/
theorem shiftCount_eq_mod (c : Word) : shiftCount c = c.toNat % 32 :=
  congrArg (· % 32) (Nat.div_one c.toNat)

/-- An arithmetic shift right divides by a power of 2, rounding down. -/
theorem ofI_div_two_pow (x : Word) (k : Nat) : ofI (x.toInt / 2 ^ k) = x.sshiftRight k := by
  rw [ofI, BitVec.sshiftRight, Int.shiftRight_eq_div_pow, Nat.cast_pow, Nat.cast_ofNat]

theorem sar_eq_sshiftRight (x : Word) (k : Nat) :
    sar x k = if k ≤ 19 then x.sshiftRight k else if x.msb then 0xFFFFF#20 else 0 := by
  rw [sar, ofI_div_two_pow, tst_sign]

section Forms
variable {i : Instr} {p : ProcId} {len : Nat} {rd : BitVec 4} {x c : Word} {k : Nat} {s : State} (shift : Word → Nat → Word)

/-- A shift by a register count gives its result and Z and N of it. -/
theorem gives_register_shift (hk : k = c.toNat % 32)
    (h : regResult i s = some ⟨p, len, rd, shift x (shiftCount c), .value (shift x (shiftCount c))⟩) :
    Gives i p len rd (shift x k) (setFlags p.1 (zn (shift x k))) s := by
  rw [hk, ← shiftCount_eq_mod]
  exact gives_of_regResult h rfl

/-- The three forms of one shift: a count in rs, a count in rt, and an immediate count. -/
theorem gives_shift_forms {short : ShortF → Instr} {long immediate : LongF → Instr} {body : LongF → State → Issue}
    (hshort : ∀ f, regResult (short f) s = shortValue p f (shift (s.g p.1 f.rd) (shiftCount (s.g p.1 f.rs))))
    (hlong : ∀ f, regResult (long f) s = longValue p f (shift (s.g p.1 f.rs) (shiftCount (s.g p.1 (rtOf f.w2)))))
    (hencodes : ∀ f, Encodes (immediate f) p 2 (decide (rtOf f.w2 = 0) && decide (fld f.w2 0 16 ≤ 19)) false (body f))
    (himmediate : ∀ f, regResult (immediate f) s = longValue p f (shift (s.g p.1 f.rs) (shiftCount (imm16 f.w2)))) :
    (∀ f : ShortF, x = s.g p.1 f.rd → k = (s.g p.1 f.rs).toNat % 32 →
      Gives (short f) p 1 f.rd (shift x k) (setFlags p.1 (zn (shift x k))) s) ∧
    (∀ f : LongF, x = s.g p.1 f.rs → k = (s.g p.1 (rtOf f.w2)).toNat % 32 →
      Gives (long f) p 2 f.rd (shift x k) (setFlags p.1 (zn (shift x k))) s) ∧
    (∀ f : LongF, x = s.g p.1 f.rs → k = fld f.w2 0 16 →
      Gives (immediate f) p 2 f.rd (shift x k) (setFlags p.1 (zn (shift x k))) s) := by
  refine ⟨fun f hx hk => ?short, fun f hx hk => ?long, fun f hx hk => ?immediate⟩ <;> subst hx
  case short => exact gives_register_shift shift hk (hshort f)
  case long => exact gives_register_shift shift hk (hlong f)
  case immediate => exact hk ▸ gives_immediate_shift shift (hencodes f) (himmediate f)

end Forms

/-- Settles O20: each result is the model's shift, whose count is that of the register or of the immediate. -/
theorem shiftsFollowTheirCounts : Obligations.ShiftsFollowTheirCounts := by
  unfold Obligations.ShiftsFollowTheirCounts
  intro p s r x k
  refine ⟨fun hr => ?shl, fun hr => ?shr, fun hr => ?sar⟩
  case shl =>
    obtain rfl : r = shl := hr
    exact gives_shift_forms shl (fun _ => rfl) (fun _ => rfl) (fun _ => encodes_long rfl fun _ => rfl) fun _ => rfl
  case shr =>
    obtain rfl : r = shr := hr
    exact gives_shift_forms shr (fun _ => rfl) (fun _ => rfl) (fun _ => encodes_long rfl fun _ => rfl) fun _ => rfl
  case sar =>
    obtain rfl : r = sar := hr.trans (funext₂ sar_eq_sshiftRight).symm
    exact gives_shift_forms sar (fun _ => rfl) (fun _ => rfl) (fun _ => encodes_long rfl fun _ => rfl) fun _ => rfl

end Sys2Proof.Machine
end

section
/-! NEG in each dialect (R135): its value, and what its register and STATUS read after it. -/
namespace Sys2Proof.Machine

section Result
variable (p : ProcId) (len : Nat) (rd : BitVec 4) (v : Word) (fl : Word → Word) (s : State)

/-- The processor of a register result after it. -/
theorem proc_completed_result : (completed p len s (setFlags p.1 fl (s.setG p.1 rd v))).proc p.1 =
    resumedProc (isCell p.1) (s.pcOf p.1) (s.pcOf p.1 + BitVec.ofNat 20 len)
      (writtenProc (isCell p.1) rd v fl (s.proc p.1)) := by
  rw [proc_completed, setFlags_setG, proc_modProc_self _ _ p.2]

theorem g_completed_result : (completed p len s (setFlags p.1 fl (s.setG p.1 rd v))).g p.1 rd = v := by
  rw [State.g, proc_completed_result]
  exact vget_vset_self _ _ _ rd.isLt

theorem status_completed_result : ((completed p len s (setFlags p.1 fl (s.setG p.1 rd v))).proc p.1).status =
    if isCell p.1 then fl (s.proc p.1).status else (s.proc p.1).status := by
  rw [proc_completed_result]
  rfl

end Result

section Value
variable {x : Word}

theorem negValue_min (cell : Bool) : negValue cell 0x80000#20 = if cell then 0x7FFFF#20 else 0x80000#20 := by
  cases cell <;> rfl

theorem negValue_of_ne (cell : Bool) (h : x ≠ 0x80000#20) : negValue cell x = 0 - x := by
  rw [negValue, decide_eq_false h, Bool.and_false, if_neg Bool.false_ne_true]

theorem tst_negFlags_overflow (x st : Word) : tst (negFlags x st) 3 = decide (x = 0x80000#20) :=
  tst_putBit_self _ _ (by decide)

end Value

/-- Settles O21: NEG that its register may hold comes to its value and, on a cell, its flags, which are read off. -/
theorem negSaturatesOnCells : Obligations.NegSaturatesOnCells := by
  unfold Obligations.NegSaturatesOnCells
  intro p f s t hr hhold ht
  have hgives : Gives (.neg p f) p 1 f.rd (negValue (isCell p.1) (s.g p.1 f.rs))
    (setFlags p.1 (negFlags (s.g p.1 f.rs))) s := gives_of_regResult rfl rfl
  obtain rfl := ht.unique (hgives hr hhold)
  rw [g_completed_result, status_completed_result]
  refine ⟨fun hp => ⟨?helm, if_neg (Bool.eq_false_iff.mp hp)⟩, fun hp hx => ?least, fun hp hx => ?other⟩
  case helm =>
    split
    next hx => rw [hp, hx, negValue_min, if_neg Bool.false_ne_true]
    next hx => exact negValue_of_ne _ hx
  case least =>
    rw [if_pos hp, hp, tst_negFlags_overflow, hx]
    exact ⟨negValue_min true, decide_eq_true rfl⟩
  case other =>
    rw [if_pos hp, tst_negFlags_overflow, ← BitVec.zero_sub]
    exact ⟨negValue_of_ne _ hx, decide_eq_false hx⟩

end Sys2Proof.Machine
end

section
/-! The commands of the cells, the position interfaces and the vector units: an event of the fabric comes while the fabric
works and its own condition holds, and a register command is one access. -/
namespace Sys2Proof.Machine

section FabricCommands
variable {i : Instr} {s : State}

/-- An event of the fabric that has a condition of its own comes where both hold. -/
theorem runs_of_fabric {g : Bool} {eff : State → State} (hfab : s.fabric = true) (hg : g = true)
    (hexec : exec i s = happens (s.fabric && g) eff s) : Runs i s (eff s) :=
  runs_of_happens (Bool.and_eq_true_iff.mpr ⟨hfab, hg⟩) hexec

/-- An admitted write to a cell's register has its effect for a Helm core, the host or a sequencer only (R168). -/
theorem runs_of_cellAccess {q : Req} {c : CellId} {o : Nat} {eff : State → State} (h : Admitted q (cellBase c.1 + o) true s)
    (hexec : exec i s = cellAccess q c o eff s) : Runs i s (if cellWriter q.toNat then eff s else s) :=
  runs_of_admitted (eff := fun s => if cellWriter q.toNat then eff s else s) h hexec

/-- An admitted write to CELL_SEQ_CTRL has its effect for a Helm core or the host only (R164). -/
theorem runs_of_seqCtrlAccess {q : Req} {c : CellId} {v : Word} (h : Admitted q (cellBase c.1 + 7) true s)
    (hexec : exec i s = .next (withAccess q.toNat (cellBase c.1 + 7) true
      (fun s => if isSystem q.toNat then seqCtrlWrite c.1 v s else s) s)) :
    Runs i s (if isSystem q.toNat then seqCtrlWrite c.1 v s else s) :=
  runs_of_admitted (eff := fun s => if isSystem q.toNat then seqCtrlWrite c.1 v s else s) h hexec

/-- A running sequencer that has been asked to stop halts once no store of its own is posted (R164). -/
theorem runs_sequencerHalt {c : CellId} (hrun : (s.proc (seqProc c.1)).run = .running)
    (hstop : (s.proc (seqProc c.1)).stopReq = true) (hposted : (s.proc (seqProc c.1)).posted.isEmpty = true) :
    Runs (.sequencerHalt c) s (seqHalt c.1 s) :=
  runs_of_happens (by rw [hrun, hstop, hposted]; rfl) rfl

end FabricCommands

/-- Settles O5: each event of a cell is gated on the fabric and on what it completes, and each register command is one access
whose effect is kept for the requesters that may write the register. -/
theorem cellCommandsComplete : Obligations.CellCommandsComplete := by
  unfold Obligations.CellCommandsComplete
  intro s
  refine ⟨?fastPathComplete, ?forwardJobEnd, ?cellEnable, ?cellDisable, ?cellStandby, ?periodBoundary, ?commit, ?commitAck,
    ?commitCheckComplete, ?bankCopyComplete, ?stagingWrite, ?sequencerStart, ?sequencerStop, ?sequencerHalt⟩
  case fastPathComplete => exact fun c hfab hrunning => runs_of_fabric hfab hrunning rfl
  case forwardJobEnd => exact fun t hfab => runs_of_happens hfab rfl
  case cellEnable =>
    exact fun q c h => runs_of_cellAccess (o := 0)
      (eff := fun s => cellCtrlWrite c.1 (putBit (s.rd (cellBase c.1)) 0 true) s) h rfl
  case cellDisable =>
    exact fun q c h => runs_of_cellAccess (o := 0)
      (eff := fun s => cellCtrlWrite c.1 (putBit (s.rd (cellBase c.1)) 0 false) s) h rfl
  case cellStandby => exact fun q c v h => runs_of_cellAccess h rfl
  case periodBoundary => exact fun w hfab hboundary => runs_of_fabric hfab hboundary rfl
  case commit => exact fun q c h => runs_of_cellAccess h rfl
  case commitAck => exact fun q c h => runs_of_cellAccess h rfl
  case commitCheckComplete => exact fun c hfab hchecking => runs_of_fabric hfab hchecking rfl
  case bankCopyComplete => exact fun c hfab hcopying => runs_of_fabric hfab hcopying rfl
  case stagingWrite =>
    exact fun q c w v h => runs_of_cellAccess (o := 0x100 + w.1) (Nat.add_assoc _ _ _ ▸ h) rfl
  case sequencerStart => exact fun q c h => runs_of_seqCtrlAccess h rfl
  case sequencerStop => exact fun q c h => runs_of_seqCtrlAccess h rfl
  case sequencerHalt => exact fun c hrun hstop hposted => runs_sequencerHalt hrun hstop hposted

/-- Settles O8: the jobs of a vector unit and the end of a frame come while the fabric works, edges, timeouts, starts of frames
and emulation steps where they are due besides, and the two register commands are one access each. -/
theorem positionAndVectorCommandsComplete : Obligations.PositionAndVectorCommandsComplete := by
  unfold Obligations.PositionAndVectorCommandsComplete
  intro s
  refine ⟨?forwardJobStart, ?inverseJobStart, ?inverseJobEnd, ?positionEdge, ?speedTimeout, ?ssiFrameStart, ?ssiFrameEnd,
    ?turnsClear, ?posCtrlWrite, ?emuStep⟩
  case forwardJobStart => exact fun t hfab => runs_of_happens hfab rfl
  case inverseJobStart => exact fun t hfab => runs_of_happens hfab rfl
  case inverseJobEnd => exact fun t hfab => runs_of_happens hfab rfl
  case positionEdge => exact fun n lv hfab hpasses => runs_of_fabric hfab hpasses rfl
  case speedTimeout =>
    exact fun n hfab htimeout => runs_of_fabric (eff := fun s => s.at_ (s.mt + 1) (.slow n.1 s.mt)) hfab htimeout rfl
  case ssiFrameStart => exact fun n qnb hfab hdue => runs_of_fabric hfab hdue rfl
  case ssiFrameEnd => exact fun n data hfab => runs_of_happens hfab rfl
  case turnsClear => exact fun q n v h => runs_of_admitted h rfl
  case posCtrlWrite => exact fun q n v h => runs_of_admitted h rfl
  case emuStep => exact fun m hfab hon hready => runs_of_happens (by rw [hfab, hon, hready]; rfl) rfl

end Sys2Proof.Machine
end

section
/-! The reserved offsets of a cell's block: no register row covers them, so a read of one is 0 and a write to one does nothing. -/
namespace Sys2Proof.Machine

/-- Offset o of a cell's block is reserved (R170). -/
def reservedOffset (o : Nat) : Prop := (0x14 ≤ o ∧ o ≤ 0x1F) ∨ (0x2A ≤ o ∧ o ≤ 0xFF)

section ReservedCell
variable {q o : Nat} {c : CellId} {v : Word} {s : State}

theorem reservedOffset.lt (ho : reservedOffset o) : o < 0x200 := by
  unfold reservedOffset at ho
  omega

/-- The rows of the cells' block cover the addresses of their registers only (R168, R170). -/
theorem regRow_cell_reserved (ho : reservedOffset o) : regRow (cellBase c.1 + o) = none := by
  have hc := c.isLt
  unfold reservedOffset at ho
  generalize ha : cellBase c.1 + o = a
  unfold cellBase at ha
  have hblock : blockRows a = cellRows := by
    unfold blockRows
    repeat rw [if_neg (by omega)]
    rw [if_pos (by omega)]
  rw [regRow, hblock, cellRows, List.find?_eq_none]
  simp only [List.forall_mem_cons, List.not_mem_nil, false_implies, implies_true, and_true, RegRow.covers, Bool.and_eq_true,
    decide_eq_true_eq, Nat.div_one]
  omega

/-- An address in a cell's block lies among the cells' blocks, and it gives the cell and the offset (R86, R168). -/
theorem cell_address (ho : o < 0x200) : 0x78000 ≤ cellBase c.1 + o ∧ cellBase c.1 + o < 0x7C000 ∧
    (cellBase c.1 + o - 0x78000) / 0x200 = c.1 ∧ (cellBase c.1 + o - 0x78000) % 0x200 = o := by
  have hc := c.isLt
  unfold cellBase
  omega

/-- A read in a cell's block is a read of that cell's register (R86, R168). -/
theorem busGet_cell (ho : o < 0x200) : busGet q (cellBase c.1 + o) s = cellGet q c.1 o s := by
  obtain ⟨hlo, hhi, hcell, hoffset⟩ := cell_address (c := c) ho
  rw [busGet, if_neg (by omega), regGet]
  repeat rw [if_neg (by omega)]
  rw [if_pos ⟨hlo, hhi⟩, hcell, hoffset]

/-- A write in a cell's block is a write to that cell's register, for the requesters that may write one (R86, R168). -/
theorem busPut_cell (ho : o < 0x200) :
    busPut q (cellBase c.1 + o) v s = if cellWriter q then cellRegWrite c.1 o v s else s := by
  obtain ⟨hlo, hhi, hcell, hoffset⟩ := cell_address (c := c) ho
  rw [busPut, if_neg (by omega), regWrite]
  repeat rw [if_neg (by omega)]
  rw [if_pos hhi, hcell, hoffset]

/-- A reserved offset of a cell's block has no meaning of its own in a read (R170). -/
theorem cellGet_reserved (ho : reservedOffset o) : cellGet q c.1 o s = (0, s) := by
  have hplain : plainRead (cellBase c.1 + o) s = 0 := plainRead_of_regRow_none (regRow_cell_reserved ho)
  unfold reservedOffset at ho
  unfold cellGet
  repeat rw [if_neg (by omega)]
  rw [hplain]

/-- A reserved offset of a cell's block has no meaning of its own in a write (R170). -/
theorem cellRegWrite_reserved (ho : reservedOffset o) : cellRegWrite c.1 o v s = s := by
  have hplain : plainWrite (cellBase c.1 + o) v s = s := plainWrite_of_regRow_none (regRow_cell_reserved ho)
  unfold reservedOffset at ho
  unfold cellRegWrite
  repeat rw [if_neg (by omega)]
  exact hplain

/-- A reserved offset of a cell's block reads 0, and the read does nothing else (R170). -/
theorem busGet_cell_reserved (ho : reservedOffset o) : busGet q (cellBase c.1 + o) s = (0, s) := by
  rw [busGet_cell ho.lt, cellGet_reserved ho]

/-- A write to a reserved offset of a cell's block does nothing, whoever makes it (R170). -/
theorem busPut_cell_reserved (ho : reservedOffset o) : busPut q (cellBase c.1 + o) v s = s := by
  rw [busPut_cell ho.lt, cellRegWrite_reserved ho, ite_self]

/-- A read that would return 0 where it is carried out returns 0 (R88). -/
theorem busRead_fst_of_busGet_zero {a : Nat} (hget : busGet q a s = (0, s)) : (busRead q a s).1 = 0 := by
  obtain hzero | hcarried := busRead_fst q a s
  · exact hzero
  · rw [hcarried, hget]

end ReservedCell

/-- Settles O42: no register row covers the offsets, and the cells' block gives none of them a meaning of its own. -/
theorem reservedCellOffsets : Obligations.ReservedCellOffsets := by
  unfold Obligations.ReservedCellOffsets
  intro c o q a v s (ho : reservedOffset o) ha
  have hget : busGet q.toNat a.toNat s = (0, s) := ha ▸ busGet_cell_reserved ho
  have hput : busPut q.toNat a.toNat v s = s := ha ▸ busPut_cell_reserved ho
  refine ⟨?value, ?read, ?write⟩
  case value => exact busRead_fst_of_busGet_zero hget
  case read => exact fun h => by rw [busRead_of_admitted h, hget]
  case write =>
    intro h
    have habove : 0x78000 ≤ a.toNat := ha ▸ (cell_address ho.lt).1
    have hsubmit : a ≠ 0x72001#20 ∧ a ≠ 0x72002#20 := by constructor <;> (rintro rfl; simp at habove)
    have hruns := runs_of_admitted h (exec_registerWrite (v := v) hsubmit.1 hsubmit.2)
    rwa [hput] at hruns

end Sys2Proof.Machine
end

section
/-! The cell law (R171 to R178, R181, R191): what its rounding does to an order, the limits in force, and the fields of a fast path
that depend on them. -/
namespace Sys2Proof.Machine

/-- Rounding half up keeps an order (R172). -/
theorem roundShift_mono {x y : Int} (h : x ≤ y) (n : Nat) : roundShift x n ≤ roundShift y n := by
  unfold roundShift
  split
  case isTrue => exact h
  case isFalse => exact Int.ediv_le_ediv (by positivity) (Int.add_le_add_right h _)

/-- What has no digits below the rounding point is not changed by rounding (R172). -/
@[simp] theorem roundShift_mul_pow (x : Int) (n : Nat) : roundShift (x * 2 ^ n) n = x := by
  unfold roundShift
  split
  case isTrue h => simp [h]
  case isFalse h =>
    have hhalf : (2 : Int) ^ (n - 1) < 2 ^ n := pow_lt_pow_right₀ (by decide) (by omega)
    rw [Int.add_comm, Int.add_mul_ediv_right _ _ (by positivity), Int.ediv_eq_zero_of_lt (by positivity) hhalf, Int.zero_add]

section Law
variable (c t θ : Nat) (job : Option (Nat × Nat)) (y ref a : Int) (s : State)

/-- A limit of the active bank as it is in force: scaled while the scaled action of a reference loss applies (R49, R191). -/
def limitInForce (x : Int) : Int :=
  if (s.cell c).scaled then roundShift (x * fld (s.live c 0x1D) 0 19) 19 else x

theorem limitInForce_mono {x z : Int} (h : x ≤ z) : limitInForce c s x ≤ limitInForce c s z := by
  unfold limitInForce
  split
  case isTrue => exact roundShift_mono (Int.mul_le_mul_of_nonneg_right h (by positivity)) 19
  case isFalse => exact h

theorem limits_eq : limits c s =
    if (s.live c 0x19).toInt < (s.live c 0x1A).toInt
    then (limitInForce c s (s.live c 0x19).toInt, limitInForce c s (s.live c 0x19).toInt)
    else (limitInForce c s (s.live c 0x19).toInt, limitInForce c s (s.live c 0x1A).toInt) := rfl

/-- The limits in force are in order, in a bank whose own limits are not too: both then act as OUT_HI (R181). -/
theorem limits_ordered : (limits c s).2 ≤ (limits c s).1 := by
  rw [limits_eq]
  split
  case isTrue => exact le_rfl
  case isFalse h => exact limitInForce_mono c s (Int.not_lt.mp h)

theorem law_e : (law c t θ job y ref a s).e = max (-524288) (min 524287 (ref - y)) := rfl

/-- The output is some sum of terms held between the limits in force, and rounded (R177). -/
theorem law_u : ∃ v, (law c t θ job y ref a s).u =
    roundShift (min (max v ((limits c s).2 * 2 ^ 12)) ((limits c s).1 * 2 ^ 12)) 12 := ⟨_, rfl⟩

theorem law_inc : (law c t θ job y ref a s).inc =
    if (law c t θ job y ref a s).inLimit && !tst (s.live c 0x10) 3
    then some (term (law c t θ job y ref a s).e (s.live c 0x15) (fld (s.live c 0x17) 5 5)) else none := by
  rw [law]

/-- Rounding does not take a held sum past a limit, because the limits are Q1.19 values (R177). -/
theorem law_u_between : (limits c s).2 ≤ (law c t θ job y ref a s).u ∧ (law c t θ job y ref a s).u ≤ (limits c s).1 := by
  obtain ⟨v, hu⟩ := law_u c t θ job y ref a s
  have hlo := roundShift_mono (le_min (le_max_right v _)
    (Int.mul_le_mul_of_nonneg_right (limits_ordered c s) (by decide : (0 : Int) ≤ 2 ^ 12))) 12
  have hhi := roundShift_mono (min_le_right (max v ((limits c s).2 * 2 ^ 12)) ((limits c s).1 * 2 ^ 12)) 12
  rw [roundShift_mul_pow] at hlo hhi
  exact hu ▸ ⟨hlo, hhi⟩

/-- The integrator takes nothing while the sum is clipped or i_hold is set (R178). -/
theorem law_inc_none (h : (law c t θ job y ref a s).inLimit = false ∨ tst (s.live c 0x10) 3 = true) :
    (law c t θ job y ref a s).inc = none := by
  rw [law_inc]
  obtain hclipped | hheld := h
  · simp [hclipped]
  · simp [hheld]

/-- What the integrator takes is the integral term of the sample's error (R178). -/
theorem law_inc_some {i : Int} (h : (law c t θ job y ref a s).inc = some i) :
    i = term (law c t θ job y ref a s).e (s.live c 0x15) (fld (s.live c 0x17) 5 5) := by
  rw [law_inc] at h
  obtain ⟨-, hinc⟩ := Option.ite_none_right_eq_some.mp h
  exact (Option.some.inj hinc).symm

end Law

/-- Settles O54: the limits in force are in order and rounding keeps an order, so the held and rounded sum lies between them. -/
theorem lawSaturatesAndDoesNotWindUp : Obligations.LawSaturatesAndDoesNotWindUp := by
  unfold Obligations.LawSaturatesAndDoesNotWindUp
  rintro c t θ job y ref a s f rfl
  obtain ⟨hlo, hhi⟩ := law_u_between c t θ job y ref a s
  exact ⟨law_e c t θ job y ref a s, hlo, hhi, law_inc_none c t θ job y ref a s, fun _ => law_inc_some c t θ job y ref a s⟩

end Sys2Proof.Machine
end

section
/-! Following-error supervision (R187, R289): what a boundary does to the timer, the flags and the counter of a cell, apart from
the action that may follow. -/
namespace Sys2Proof.Machine

section Rules
variable {c d i : Nat} {s : State} {f : Cell → Cell}

@[simp] theorem cell_modCell_self (hc : c < 32) : (s.modCell c f).cell c = f (s.cell c) := vget_vset_self _ _ _ hc

theorem cell_modCell_ne (hd : d ≠ c) : (s.modCell c f).cell d = s.cell d := vget_vset_ne _ _ _ hd.symm

@[simp] theorem counter_modCell : (s.modCell c f).counter i = s.counter i := rfl

/-- Only the on-times of channels, the counters below 96, run on while they are not written (R289). -/
theorem counter_of_ge (hi : 96 ≤ i) : s.counter i = s.stored i := if_neg (by omega)

@[simp] theorem stored_ctrAdd_self (n : Nat) : (ctrAdd i n s).stored i = (s.stored i + n) % 2 ^ 40 := lookup_update_self

end Rules

section FollowingError
variable (c len : Nat) (s : State)

/-- The following-error timer of a cell after a boundary (R187). -/
def feTimerNext : Nat :=
  feNext (fld (s.live c 0x1F) 0 16) (s.cell c).feTimer (s.cell c).withinSeen (s.cell c).ran

/-- The time over the limit is counted where the timer advances (R289). -/
def feCount : State := if (s.cell c).feTimer < feTimerNext c s then ctrAdd (96 + 5 * c + 4) len s else s

/-- The evaluation at a boundary, up to the action (R187). -/
def feTick : State := (feCount c len s).modCell c fun k =>
  { k with feTimer := feTimerNext c s, withinSeen := false, ran := false,
           feFired := k.feFired && decide (feTimerNext c s ≠ 0), frzFe := k.frzFe && decide (feTimerNext c s ≠ 0) }

/-- The condition of the action: supervision is on, the timer has reached FE_TIME, and this excursion has not fired (R187). -/
def feDue : Prop :=
  fld (s.live c 0x1F) 0 16 ≠ 0 ∧ fld (s.live c 0x1F) 0 16 ≤ feTimerNext c s ∧ (s.cell c).feFired = false

theorem feEvaluate_of_due (h : feDue c s) : feEvaluate c len s = withFreeze (feFire c) (feTick c len s) :=
  if_pos h

theorem feEvaluate_of_not_due (h : ¬ feDue c s) : feEvaluate c len s = feTick c len s := if_neg h

@[simp] theorem feCount_cells : (feCount c len s).cells = s.cells := by
  unfold feCount
  split <;> rfl

@[simp] theorem feCount_cell (d : Nat) : (feCount c len s).cell d = s.cell d :=
  congrArg (vget Cell.reset · d) (feCount_cells c len s)

@[simp] theorem feCount_reg : (feCount c len s).reg = s.reg := by
  unfold feCount
  split <;> rfl

theorem feCount_counter : (feCount c len s).counter (100 + 5 * c) =
    if (s.cell c).feTimer < feTimerNext c s then (s.counter (100 + 5 * c) + len) % 2 ^ 40 else s.counter (100 + 5 * c) := by
  have hnumber : 100 + 5 * c = 96 + 5 * c + 4 := by omega
  have habove : 96 ≤ 96 + 5 * c + 4 := by omega
  rw [hnumber, counter_of_ge habove, counter_of_ge habove, feCount]
  split
  case isTrue => exact stored_ctrAdd_self len
  case isFalse => rfl

theorem feTick_cell_self (hc : c < 32) : (feTick c len s).cell c =
    { s.cell c with
      feTimer := feTimerNext c s, withinSeen := false, ran := false,
      feFired := (s.cell c).feFired && decide (feTimerNext c s ≠ 0),
      frzFe := (s.cell c).frzFe && decide (feTimerNext c s ≠ 0) } := by
  rw [feTick, cell_modCell_self hc, feCount_cell]

theorem feTick_cell_ne {d : Nat} (hd : d ≠ c) : (feTick c len s).cell d = s.cell d := by
  rw [feTick, cell_modCell_ne hd, feCount_cell]

theorem feTick_reg : (feTick c len s).reg = s.reg := feCount_reg c len s

theorem feTick_counter : (feTick c len s).counter (100 + 5 * c) =
    if (s.cell c).feTimer < feTimerNext c s then (s.counter (100 + 5 * c) + len) % 2 ^ 40 else s.counter (100 + 5 * c) := by
  rw [feTick, counter_modCell, feCount_counter]

end FollowingError

/-- Settles O55: the state after the evaluation and before the action is the one the statement asks for. -/
theorem followingErrorTimer : Obligations.FollowingErrorTimer := by
  unfold Obligations.FollowingErrorTimer
  rintro c len time timer s t hc rfl rfl (rfl : timer = feTimerNext c s)
  have hcell := feTick_cell_self c len s hc
  refine ⟨feTick c len s, ?timer, ?withinSeen, ?ran, ?fired, ?counter, ?others, ?registers, ?acts, ?rests⟩
  case timer => rw [hcell]
  case withinSeen => rw [hcell]
  case ran => rw [hcell]
  case fired => simp [hcell, and_comm]
  case counter => exact feTick_counter c len s
  case others => exact fun _ hd => feTick_cell_ne c len s hd
  case registers => exact feTick_reg c len s
  case acts => exact fun hon hreached hclear => feEvaluate_of_due c len s ⟨hon, hreached, hclear⟩
  case rests =>
    intro h
    refine feEvaluate_of_not_due c len s fun ⟨hon, hreached, hclear⟩ => ?_
    obtain hoff | hbelow | hfired := h
    · exact hon hoff
    · exact Nat.not_lt.mpr hreached hbelow
    · exact Bool.false_ne_true (hclear.symm.trans hfired)

end Sys2Proof.Machine
end

section
/-! The commands of the converters, ripple detectors, comparators and protection: a converter works while the fabric and the clock
of ANALOG run, a comparator while the fabric runs, and a register command is one access. -/
namespace Sys2Proof.Machine

section MeasurementCommands
variable {i : Instr} {s : State}

/-- An event of a converter that has a condition of its own comes where the fabric works, ANALOG is clocked and it holds. -/
theorem runs_of_clockedFabric {g : Bool} {eff : State → State} (hfab : s.fabric = true) (hclock : s.clocked 3 = true)
    (hg : g = true) (hexec : exec i s = happens (s.fabric && s.clocked 3 && g) eff s) : Runs i s (eff s) :=
  runs_of_happens (by rw [hfab, hclock, hg]; rfl) hexec

/-- The reference settles once, while ANALOG is clocked (R230). -/
theorem runs_referenceSettled (hclock : s.clocked 3 = true) (href : refOk s = false) :
    Runs .referenceSettled s (referenceSettled s) :=
  runs_of_happens (by rw [hclock, href]; rfl) rfl

end MeasurementCommands

/-- Settles O7: each event is gated on the fabric, the clock of ANALOG or both, and on what it completes besides, and each register
command is one access. -/
theorem measurementAndProtectionCommandsComplete : Obligations.MeasurementAndProtectionCommandsComplete := by
  unfold Obligations.MeasurementAndProtectionCommandsComplete
  intro s
  refine ⟨?conversionEnd, ?rippleLockTimeout, ?adcTrigger, ?adcSoftwareTrigger, ?samplingInstant, ?referenceSettled,
    ?comparatorChange, ?blankingEnd, ?protTripClear, ?protEntryEnable, ?protLock⟩
  case conversionEnd => exact fun k code hfab hclock hbusy => runs_of_clockedFabric hfab hclock hbusy rfl
  case rippleLockTimeout => exact fun m hfab hclock htimeout => runs_of_clockedFabric hfab hclock htimeout rfl
  case adcTrigger => exact fun t e hfab hclock => runs_of_fabric hfab hclock rfl
  case adcSoftwareTrigger => exact fun q t v h => runs_of_admitted h rfl
  case samplingInstant => exact fun k hfab hclock => runs_of_fabric hfab hclock rfl
  case referenceSettled => exact runs_referenceSettled
  case comparatorChange => exact fun k level hfab hworks => runs_of_fabric hfab hworks rfl
  case blankingEnd => exact fun k hfab hblanking => runs_of_fabric hfab hblanking rfl
  case protTripClear => exact fun q v h => runs_of_admitted h rfl
  case protEntryEnable => exact fun q i v h => runs_of_admitted h rfl
  case protLock => exact fun q v h => runs_of_admitted h rfl

end Sys2Proof.Machine
end

section
/-! The commands of the PWM channels: an edge and a minimum pulse come while the fabric and the channel run, a dead time and a
calibration end while the fabric works, and a register command is one access. -/
namespace Sys2Proof.Machine

section ChannelCommands
variable {i : Instr} {q : Req} {w : ChanId} {s : State}

/-- A command that gives PWM_CTRL.en a value is one write of PWM_CTRL with its other fields as the access finds them (R209, R214). -/
theorem runs_of_channelEnableBit {on : Bool} (h : Admitted q (chanBase w.1) true s)
    (hexec : exec i s = .next (withAccess q.toNat (chanBase w.1) true
      (fun s => chanWrite q.toNat w.1 0 (putBit (s.rd (chanBase w.1)) 15 on) s) s)) :
    Runs i s (chanWrite q.toNat w.1 0 (putBit (s.rd (chanBase w.1)) 15 on) s) :=
  runs_of_admitted (eff := fun s => chanWrite q.toNat w.1 0 (putBit (s.rd (chanBase w.1)) 15 on) s) h hexec

/-- A settled calibration shows in the bit of its channel: in PWM_CAL0 for the first twenty, in PWM_CAL1 for the rest (R213). -/
theorem runs_calibrationSettled (hfab : s.fabric = true) :
    Runs (.calibrationSettled w) s (if w.1 < 20 then s.wb 0x73801 w.1 true else s.wb 0x73802 (w.1 - 20) true) :=
  runs_of_happens (eff := fun s => if w.1 < 20 then s.wb 0x73801 w.1 true else s.wb 0x73802 (w.1 - 20) true) hfab rfl

end ChannelCommands

/-- Settles O6: an edge and a minimum pulse are gated on the fabric and on their channel, a dead time and a calibration on the
fabric alone, and each register command is one access. -/
theorem pwmCommandsComplete : Obligations.PwmCommandsComplete := by
  unfold Obligations.PwmCommandsComplete
  intro s
  refine ⟨?edgeFire, ?deadTimeEnd, ?minPulseEnd, ?swdutyWrite, ?channelEnable, ?channelDisable, ?calibrationSettled⟩
  case edgeFire => exact fun w hfab hruns => runs_of_fabric hfab hruns rfl
  case deadTimeEnd => exact fun w high hfab => runs_of_happens hfab rfl
  case minPulseEnd => exact fun w hfab hruns => runs_of_fabric hfab hruns rfl
  case swdutyWrite => exact fun q w v h => runs_of_admitted h rfl
  case channelEnable => exact fun q w h => runs_of_channelEnableBit h rfl
  case channelDisable => exact fun q w h => runs_of_channelEnableBit h rfl
  case calibrationSettled => exact fun w hfab => runs_calibrationSettled hfab

end Sys2Proof.Machine
end

section
/-! A step and the OTP: a step runs the front command, and no command but OTP_PROG touches the OTP, which OTP_PROG can only add
bits to (R430). -/
namespace Sys2Proof.Machine

/-- Settles O35: a step on a queue with a command at its front is that command on the rest of the queue. -/
theorem stepRunsTheFrontCommand : Obligations.StepRunsTheFrontCommand := by
  unfold Obligations.StepRunsTheFrontCommand
  exact fun _ _ _ => rfl

section Otp
variable {s : State}

/-- Programming sets the 1 bits of v in OTP word a (R430). -/
def otpProgrammed (a : Nat) (v : BitVec 16) (s : State) : State :=
  s.mapBoot fun b => { b with otp := update zeroAt b.otp a (lookup zeroAt b.otp a ||| v.toNat) }

/-- The programmed word holds its old bits and the new ones (R430). -/
theorem otpWord_otpProgrammed_self (a : Nat) (v : BitVec 16) :
    otpWord a (otpProgrammed a v s) = otpWord a s ||| v.toNat := lookup_update_self

/-- Programming leaves every other word (R430). -/
theorem otpWord_otpProgrammed_ne {a b : Nat} (v : BitVec 16) (h : b ≠ a) :
    otpWord b (otpProgrammed a v s) = otpWord b s := lookup_update_ne h

/-- OTP_PROG programs its word outside OFF (R430). -/
theorem runs_otpProg (a : Fin 256) (v : BitVec 16) (hon : s.pwr.off = false) :
    Runs (.otpProg a v) s (otpProgrammed a.1 v s) :=
  runs_of_happens (eff := otpProgrammed a.1 v) (by simp [hon]) rfl

/-- OTP_PROG does nothing in OFF (R62). -/
theorem runs_otpProg_off (a : Fin 256) (v : BitVec 16) (hoff : s.pwr.off = true) : Runs (.otpProg a v) s s := by
  change execOtpProg a v s = _
  rw [execOtpProg, happens, hoff]
  rfl

/-- Every OTP bit that is set in s is set in t (R430). -/
def OtpBitsKept (s t : State) : Prop := ∀ a i, (otpWord a s).testBit i = true → (otpWord a t).testBit i = true

theorem OtpBitsKept.of_otp_eq {t : State} (h : t.boot.otp = s.boot.otp) : OtpBitsKept s t := by
  intro a i hbit
  rwa [otpWord, h]

theorem otpBitsKept_otpProgrammed (a : Nat) (v : BitVec 16) : OtpBitsKept s (otpProgrammed a v s) := by
  intro b i hbit
  by_cases hb : b = a
  · subst hb
    rw [otpWord_otpProgrammed_self, Nat.testBit_or, hbit, Bool.true_or]
  · rwa [otpWord_otpProgrammed_ne v hb]

/-- Every command keeps the OTP's bits: OTP_PROG adds some, and `sound_exec` says that no other command touches the OTP. -/
theorem exec_otpBitsKept {i : Instr} {t : State} (hs : s.WF) (h : exec i s = .next t) : OtpBitsKept s t := by
  by_cases hi : ∃ a v, i = .otpProg a v
  · obtain ⟨a, v, rfl⟩ := hi
    cases hoff : s.pwr.off with
    | false =>
      obtain rfl := (runs_otpProg a v hoff).unique h
      exact otpBitsKept_otpProgrammed a.1 v
    | true =>
      obtain rfl := (runs_otpProg_off a v hoff).unique h
      exact .of_otp_eq rfl
  · exact .of_otp_eq (sound_exec i hs.sound (fun a v e => hi ⟨a, v, e⟩) t h).otp

end Otp

section OtpRead
variable {s : State} {a : Nat} {v : Word} {r : RegRow}

/-- What a plain write leaves in a register without W1C bits: the RW bits of the word, and the others as they were (R6). -/
theorem rd_plainWrite_self (hrow : regRow a = some r) (hw1c : r.w1c = 0#20) :
    (plainWrite a v s).rd a = (s.rd a &&& ~~~ r.rw) ||| (v &&& r.rw) := by
  simp only [plainWrite, hrow, clearBits, rd_wr_self, rd_mapCyc, hw1c, BitVec.and_zero, BitVec.zero_and, BitVec.not_zero,
    BitVec.and_allOnes]

/-- A plain write leaves every other register (R6). -/
theorem rd_plainWrite_ne {b : Nat} (h : b ≠ a) : (plainWrite a v s).rd b = s.rd b := by
  unfold plainWrite
  split
  · rw [clearBits, rd_wr_ne _ _ h, rd_mapCyc, rd_wr_ne _ _ h]
  · rfl

/-- SYS_OTP_ADDR has one field, the address in its low byte (R430, R431). -/
theorem regRow_otpAddr : ∃ r, regRow 0x70004 = some r ∧ r.rw = 0x000FF#20 ∧ r.w1c = 0#20 := ⟨_, rfl, rfl, rfl⟩

/-- The low byte of a word is what its mask leaves. -/
theorem fld_low_byte (w : Word) : fld w 0 8 = (w &&& 0x000FF#20).toNat := by
  rw [fld, BitVec.toNat_and, pow_zero, Nat.div_one]
  exact (Nat.and_two_pow_sub_one_eq_mod w.toNat 8).symm

/-- Where a word takes the bits of a mask from v, those bits are v's. -/
theorem and_mask_of_masked (w v m : Word) : ((w &&& ~~~ m) ||| (v &&& m)) &&& m = v &&& m := by
  ext i hi
  cases hm : m[i] <;> simp [hm]

/-- SYS_OTP_ADDR selects the address that is written to it (R430). -/
theorem rf_otpAddr_plainWrite : (plainWrite 0x70004 v s).rf 0x70004 0 8 = fld v 0 8 := by
  obtain ⟨r, hrow, hrw, hw1c⟩ := regRow_otpAddr
  rw [State.rf, fld_low_byte, fld_low_byte, rd_plainWrite_self hrow hw1c, hrw, and_mask_of_masked]

/-- A plain write is one to registers (R6). -/
theorem plainWrite_registersOnly : RegistersOnly s (plainWrite a v s) := by
  unfold plainWrite
  split
  · exact (((RegistersOnly.refl s).wr ..).mapCyc _).wr ..
  · exact .refl s

/-- The OTP is no register. -/
theorem otpWord_plainWrite (b : Nat) : otpWord b (plainWrite a v s) = otpWord b s := by
  rw [plainWrite_registersOnly.frame]
  rfl

/-- SYS_OTP_DATA reads the word that SYS_OTP_ADDR selects (R430). -/
theorem busRead_otpData {q : Req} (h : Admitted q 0x70005 false s) : busRead q.toNat 0x70005 s = (otpData s, s) := by
  rw [busRead_of_admitted h, busGet, if_neg (by omega), regGet, if_pos (by omega), coreGet, if_neg (by omega), if_pos rfl]

end OtpRead

/-- Settles O40: `exec_otpBitsKept` for commands and `sound_tick` for time; OTP_PROG and SYS_OTP_ADDR by what they leave. -/
theorem otpBitsStay : Obligations.OtpBitsStay := by
  unfold Obligations.OtpBitsStay
  refine ⟨?everyStep, ?program, ?address⟩
  case everyStep =>
    intro s t hs h
    obtain ⟨c, rest, -, hexec⟩ | ⟨-, rfl⟩ := step_next h
    · have hkept := exec_otpBitsKept (hs.withPending rest) hexec
      exact hkept
    · exact OtpBitsKept.of_otp_eq (sound_tick hs.sound).otp
  case program =>
    exact fun a v s hon => ⟨otpProgrammed a.1 v s, runs_otpProg a v hon, otpWord_otpProgrammed_self a.1 v,
      fun b hb => otpWord_otpProgrammed_ne v hb⟩
  case address =>
    intro q r v s h
    refine ⟨plainWrite 0x70004 v s, runs_of_admitted h rfl, fun hread => ?_⟩
    rw [busRead_otpData hread, otpData, rf_otpAddr_plainWrite, otpWord_plainWrite]

end Sys2Proof.Machine
end

section
/-! The commands of the power policy and of USB PD: each comes while Helm0 runs the policy, or the port's engine, and its own
condition holds. -/
namespace Sys2Proof.Machine

section GatedCommands
variable {i : Instr} {s t : State} {g : Bool} {eff : State → State}

/-- A command that happens under a gate runs, where the gate is open, to the state that its effect comes to. -/
theorem runs_gated (hexec : exec i s = .next (if g then t else s)) (hg : g = true) : Runs i s t :=
  hexec.trans (by rw [if_pos hg])

/-- A command that is gated on two conditions runs where both hold. -/
theorem runs_gated_and {a b : Bool} (hexec : exec i s = .next (if a && b then t else s)) (ha : a = true) (hb : b = true) :
    Runs i s t :=
  runs_gated hexec (Bool.and_eq_true_iff.mpr ⟨ha, hb⟩)

/-- A command that is one access runs, where the access is admitted, to the state that its effect comes to. -/
theorem runs_access {q : Req} {a : Nat} {write : Bool} (h : Admitted q a write s)
    (hexec : exec i s = .next (withAccess q.toNat a write eff s)) (ht : eff s = t) : Runs i s t :=
  ht ▸ runs_of_admitted h hexec

/-- A gated command whose event has not come about changes nothing. -/
theorem runs_still (hexec : exec i s = .next (if g then t else s)) (hg : g = false) : Runs i s s :=
  hexec.trans (by rw [hg, if_neg Bool.false_ne_true])

end GatedCommands

section PolicyCommands
variable {s : State}

/-- Charging ends at its last phase's current, and the pack counts as full (R284, R287). -/
theorem runs_chargeDoneTimeout {ma : Int} (hma : ma = (match packView s.policy.packLast s with | some v => v.ma | none => 0))
    (hruns : policyRuns s = true) (hphase : s.policy.phase = 3) (hcurrent : ma < (bound 3 s : Int)) :
    Runs .chargeDoneTimeout s ((s.mapPolicy fun p =>
      { p with phase := 4, chargeMa := 0, socNow := 100, socCount := chargeCount s,
               fullCount := some (chargeCount s) }).wb 0x7080E 0 (decide (s.policy.sources ≠ 0))) := by
  subst hma
  exact runs_gated rfl (by rw [hruns, decide_eq_true hphase]; exact decide_eq_true hcurrent)

/-- A generator that is climbed has cut in, and the free sources are not backed off (R275, R281). -/
theorem runs_generatorClimb {power : Nat} (hruns : policyRuns s = true) (hcrank : (crank s).isNone = true)
    (henabled : srcEnabled 4 s = true) (hsteady : genSteady s = true) (hcut : cutIn s = true)
    (hbacked : s.policy.backed = false) : Runs (.generatorClimb power) s (commitGen (climb power s)) :=
  runs_gated rfl (by rw [hruns, hcrank, henabled, hsteady, hcut, hbacked]; rfl)

end PolicyCommands

/-- Settles O9: a policy command is gated on the policy's running and on its own condition, a PD command on the port's engine, on
the partner, and on the port's role where it has one. -/
theorem policyAndPdCommandsComplete : Obligations.PolicyAndPdCommandsComplete := by
  unfold Obligations.PolicyAndPdCommandsComplete
  intro s
  refine ⟨?policyTick, ?dcClassify, ?dcInputRemoved, ?mpptStep, ?openCircuitMeasure, ?generatorClimb, ?generatorSpeedLost,
    ?batteryPoll, ?chargeDone, ?preCharge, ?socReset, ?pdAttach, ?pdDetach, ?sourceCapabilities, ?discoverSvids, ?discoverModes,
    ?unsupportedPdMessage, ?prSwap, ?drSwap, ?vconnSwap, ?hardReset, ?discoverIdentity, ?partnerRequest⟩
  case policyTick => exact fun x hruns => runs_gated rfl hruns
  case dcClassify =>
    exact fun mean sag1 sag2 hruns hmean => runs_gated_and rfl hruns (decide_eq_true hmean)
  case dcInputRemoved => exact fun hruns hpresent => runs_gated_and rfl hruns hpresent
  case mpptStep => exact fun mv hon => runs_gated rfl hon
  case openCircuitMeasure =>
    exact fun mv hruns henabled hclass => runs_gated rfl (by rw [hruns, henabled, decide_eq_true hclass]; rfl)
  case generatorClimb => exact fun power => runs_generatorClimb
  case generatorSpeedLost => exact fun hruns hvalid => runs_gated rfl (by rw [hruns, hvalid]; rfl)
  case batteryPoll => exact fun r hruns => runs_gated rfl hruns
  case chargeDone => exact fun ma => runs_chargeDoneTimeout
  case preCharge => exact fun hruns hphase => runs_gated_and rfl hruns (decide_eq_true hphase)
  case socReset =>
    exact fun soc hruns hsmart hcurrent => runs_gated rfl (by rw [hruns, hsmart, decide_eq_true hcurrent]; rfl)
  case pdAttach => exact fun port x hruns hfree => runs_gated rfl (by rw [hruns, hfree]; rfl)
  case pdDetach => exact fun port hruns hattached => runs_gated_and rfl hruns hattached
  case sourceCapabilities =>
    exact fun port offers hruns hport hsink => runs_gated rfl (by rw [hruns, hport, hsink]; rfl)
  case discoverSvids => exact fun port hruns hport => runs_gated_and rfl hruns hport
  case discoverModes => exact fun port hruns hport => runs_gated_and rfl hruns hport
  case unsupportedPdMessage => exact fun port hruns hport => runs_gated_and rfl hruns hport
  case prSwap => exact fun port hruns hport => runs_gated_and rfl hruns hport
  case drSwap => exact fun port hruns hport => runs_gated_and rfl hruns hport
  case vconnSwap => exact fun port hruns hport => runs_gated_and rfl hruns hport
  case hardReset => exact fun port hruns hport => runs_gated_and rfl hruns hport
  case discoverIdentity => exact fun port sopPrime epr hruns hport => runs_gated_and rfl hruns hport
  case partnerRequest =>
    exact fun port i ma mv hruns hport hsource => runs_gated rfl (by rw [hruns, hport, hsource]; rfl)

end Sys2Proof.Machine
end

section
/-! The commands of the Fix, the counters and the Logbook: what the block does of itself comes while the fabric, or the clock of the
block, runs, and a register command is one access. -/
namespace Sys2Proof.Machine

/-- Settles O10: a periodic Fix, a completion, a record and a trace sample are gated on what drives them and on being due, and every
other command is one access. -/
theorem fixAndLogbookCommandsComplete : Obligations.FixAndLogbookCommandsComplete := by
  unfold Obligations.FixAndLogbookCommandsComplete
  intro s
  refine ⟨?counterLowRead, ?fixTrig, ?fixHost, ?fixPeriodic, ?fixComplete, ?fixOpen, ?fixClose, ?logRecordWrite, ?logSwrec,
    ?traceArm, ?traceDisarm, ?traceSoftwareTrigger, ?traceSample⟩
  case counterLowRead => exact fun q i h => runs_access h rfl rfl
  case fixTrig => exact fun q h => runs_access h rfl rfl
  case fixHost => exact fun q h => runs_access h rfl rfl
  case fixPeriodic => exact fun hfab hdue => runs_gated_and rfl hfab hdue
  case fixComplete => exact fun hfab hcaptured => runs_gated_and rfl hfab hcaptured
  case fixOpen => exact fun q h => runs_access h rfl rfl
  case fixClose => exact fun q v h => runs_access h rfl rfl
  case logRecordWrite => exact fun hclock hon => runs_gated rfl (by rw [hclock, hon]; rfl)
  case logSwrec => exact fun q v h => runs_access h rfl rfl
  case traceArm => exact fun q v h => runs_access h rfl rfl
  case traceDisarm => exact fun q v h => runs_access h rfl rfl
  case traceSoftwareTrigger => exact fun q h => runs_access h rfl rfl
  case traceSample => exact fun hfab harmed hdue => runs_gated rfl (by rw [hfab, harmed, hdue]; rfl)

end Sys2Proof.Machine
end

section
/-! The commands of Sextant's queues, registers and microcode: a submit is carried out or held at once in RUN and DOZE, and is an
access of the SXT block elsewhere; a microword is sat and fetched before its row; a register command is one access. -/
namespace Sys2Proof.Machine

section Submits
variable {i : Instr} {q : Req} {a : Nat} {s t : State} {eff : State → State}

/-- A submit by a Helm core, the host or Sextant goes through in RUN and DOZE; elsewhere it is an access like another (R317). -/
theorem submitAccess_of_admitted (halive : s.dead = false) (hsystem : s.pstate ≤ 1 → 0x20 ≤ q.toNat)
    (hreached : 2 ≤ s.pstate → Admitted q a true s) : submitAccess q.toNat a eff s = eff s := by
  rw [submitAccess, if_neg (by simp [halive])]
  by_cases hstate : s.pstate ≤ 1
  · have := hsystem hstate
    rw [if_pos hstate, if_neg (by omega)]
  · rw [if_neg hstate, withAccess_of_admitted _ (hreached (by omega))]

end Submits

section Microwords
variable {i : Instr} {s t : State} {x : MicroFetch} {w : Word} {k : MicroKind} {eff : Word → State → State}

/-- A microword that is sat, fetched and of its row's kind has the row's effect (R328, R329). -/
theorem microRow_of_word (hruns : microRuns s = true) (hfetch : microFetch x (microSit s).sxt.upc (microSit s) = .word w)
    (hkind : microKind w = some k) : microRow k x eff s = .next (eff w (microSit s)) := by
  simp only [microRow, happens, hruns, hfetch, hkind, if_true]

/-- The row of a microword of its kind runs to the state that its effect comes to. -/
theorem runs_microword (hexec : exec i s = microRow k x eff s) {u : State} (hsit : u = microSit s) (hruns : microRuns s = true)
    (hfetch : microFetch x u.sxt.upc u = .word w) (hkind : microKind w = some k) (ht : eff w u = t) : Runs i s t := by
  subst hsit ht
  exact hexec.trans (microRow_of_word hruns hfetch hkind)

end Microwords

section Dispatches
variable {s u : State} {x : MicroFetch} {e : BitVec 13} {ok : Bool}

/-- MICRO_DISPATCH starts the request that is next and dispatches it (R318, R334). -/
theorem runs_microDispatch_of_next {n : Nat × Word} (hnext : sxtNext s = some n) :
    Runs (.microDispatch x e ok) s (dispatchTo e ok (sxtBegin n.1 n.2 s)) := by
  change execMicroDispatch x e ok s = _
  rw [execMicroDispatch, hnext]

/-- MICRO_DISPATCH reads the dispatch entry that a started request has still to be read (R334). -/
theorem runs_microDispatch_of_unread (hnext : sxtNext s = none) (hup : sxtUp s = true) (hrun : s.sxt.run.isSome = true)
    (hmchk : s.sxt.mchk = none) (hunread : 0x2000 ≤ s.sxt.upc) : Runs (.microDispatch x e ok) s (dispatchTo e ok s) := by
  change execMicroDispatch x e ok s = _
  simp only [execMicroDispatch, hnext, hup, hrun, hmchk, hunread, Option.isNone_none, decide_true, Bool.and_self, if_true]

/-- MICRO_DISPATCH carries out a dispatch word where no request starts and the present one has its entry (R329, R334). -/
theorem runs_microDispatch_of_word {w : Word} (hnext : sxtNext s = none) (hread : s.sxt.upc < 0x2000) (hsit : u = microSit s)
    (hruns : microRuns s = true) (hfetch : microFetch x u.sxt.upc u = .word w) (hkind : microKind w = some .dispatch) :
    Runs (.microDispatch x e ok) s (dispatchTo e ok u) := by
  refine runs_microword (eff := fun _ => dispatchTo e ok) ?_ hsit hruns hfetch hkind rfl
  change execMicroDispatch x e ok s = _
  have hentered : decide (0x2000 ≤ s.sxt.upc) = false := decide_eq_false (by omega)
  simp only [execMicroDispatch, hnext, hentered, Bool.and_false, Bool.false_eq_true, if_false]

end Dispatches

section Services
variable {s u : State}

/-- HORIZONTAL_WORD comes in the self-test or in a machine check, at the word that is due (R337, R338). -/
theorem runs_horizontalWord {a : BitVec 8} {w : BitVec 128} {ok : Bool} (hclock : s.clocked 1 = true)
    (hoff : s.pwr.off = false) (hreset : s.pwr.inReset = false)
    (htest : s.rb 0x72017 19 = false ∨ s.sxt.mchk.isSome = true)
    (hdue : s.sxt.hpc = none ∨ s.sxt.hpc = some a.toNat) :
    Runs (.horizontalWord a w ok) s (horizontalRun a.toNat w ok s) := by
  have htest' : (!s.rb 0x72017 19 || s.sxt.mchk.isSome) = true := by
    simpa only [Bool.or_eq_true, Bool.not_eq_true'] using htest
  change execHorizontalWord a w ok s = _
  obtain hdue | hdue := hdue
  all_goals simp only [execHorizontalWord, happens, hclock, hoff, hreset, htest', hdue, decide_true, Bool.not_false,
    Bool.and_self, if_true]

/-- BULK_RESUME takes the preempted operation up where nothing of a higher priority waits (R319). -/
theorem runs_bulkResume {o : SxtOp} {bad : Option (BitVec 8)} (hpart : s.sxt.part = some o) (hup : sxtUp s = true)
    (hrun : s.sxt.run = none) (hmchk : s.sxt.mchk = none) (hhigher : higherReady o.word0 o.closed s = false) :
    Runs (.bulkResume bad) s (bulkResume o bad s) := by
  change execBulkResume bad s = _
  simp only [execBulkResume, happens, hpart, hup, hrun, hmchk, hhigher, Option.isNone_none, Bool.not_false, Bool.and_self,
    if_true]

/-- MCHK_REREAD ends a machine check as recovered where the reread agrees, and as persistent otherwise (R336, R337). -/
theorem runs_mchkReread {m : Nat × Nat} {ok : Bool} (hmchk : s.sxt.mchk = some m) (hclock : s.clocked 1 = true) :
    Runs (.mchkReread ok) s (if ok && rereads m.1 m.2 s then mchkRecover s else mchkPersist s) := by
  change execMchkReread ok s = _
  simp only [execMchkReread, happens, hmchk, hclock, if_true]

/-- The self-test ends once, with its result, which a persistent machine check of the same start-up makes a failure (R337). -/
theorem runs_sxtSelftest {pass : Bool} {stage : BitVec 2} (hclock : s.clocked 1 = true) (hoff : s.pwr.off = false)
    (hreset : s.pwr.inReset = false) (hrun : s.rb 0x72017 19 = false) (hmchk : s.sxt.mchk = none) :
    (s.rb 0x72014 15 = false →
      u = s.wr 0x72017 (BitVec.ofNat 20 (2 ^ 19 + pass.toNat * 2 ^ 18 + (if pass then 0 else stage.toNat) * 2 ^ 16)) →
      Runs (.sxtSelftest pass stage) s ((u.wb 0x72000 19 (!pass)).mapSxt fun x => { x with hpc := none })) ∧
    (s.rb 0x72014 15 = true → u = s.wr 0x72017 (BitVec.ofNat 20 (2 ^ 19)) →
      Runs (.sxtSelftest pass stage) s ((u.wb 0x72000 19 true).mapSxt fun x => { x with hpc := none })) := by
  have hgate : (s.clocked 1 && !s.pwr.off && !s.pwr.inReset && !s.rb 0x72017 19 && s.sxt.mchk.isNone) = true := by
    rw [hclock, hoff, hreset, hrun, hmchk]
    rfl
  refine ⟨?whole, ?broken⟩
  all_goals
    rintro hbroken rfl
    change execSxtSelftest pass stage s = _
    cases pass <;> simp [execSxtSelftest, happens, hgate, hbroken]

end Services

/-- Settles O11: a submit by `submitAccess_of_admitted`, a microword by `runs_microword` and the three cases of its dispatch, and
the rest by the gates of its events or as one access. -/
theorem sextantQueueAndMicrocodeCommandsComplete : Obligations.SextantQueueAndMicrocodeCommandsComplete := by
  unfold Obligations.SextantQueueAndMicrocodeCommandsComplete
  intro s
  refine ⟨?submitInteractive, ?submitBulk, ?doneRead, ?nano, ?jump, ?call, ?ret, ?dispatch, ?branch, ?lit, ?safe, ?fin,
    ?horizontal, ?bulkResume, ?mchkReread, ?selftest, ?patchHold, ?patchRelease, ?patchData, ?calcClear⟩
  case submitInteractive =>
    exact fun q a halive hsystem hreached => congrArg _ (submitAccess_of_admitted halive hsystem hreached)
  case submitBulk =>
    exact fun q a halive hsystem hreached => congrArg _ (submitAccess_of_admitted halive hsystem hreached)
  case doneRead => exact fun q bulk h => runs_access h rfl rfl
  case nano => exact fun x nano nanoOk w u hsit hruns hfetch hkind => runs_microword rfl hsit hruns hfetch hkind rfl
  case jump => exact fun x w u hsit hruns hfetch hkind => runs_microword rfl hsit hruns hfetch hkind rfl
  case call => exact fun x w u hsit hruns hfetch hkind => runs_microword rfl hsit hruns hfetch hkind rfl
  case ret => exact fun x w u hsit hruns hfetch hkind => runs_microword rfl hsit hruns hfetch hkind rfl
  case dispatch =>
    exact fun x e ok => ⟨fun n => runs_microDispatch_of_next, runs_microDispatch_of_unread,
      fun w u => runs_microDispatch_of_word⟩
  case branch => exact fun x w u hsit hruns hfetch hkind => runs_microword rfl hsit hruns hfetch hkind rfl
  case lit => exact fun x w u hsit hruns hfetch hkind => runs_microword rfl hsit hruns hfetch hkind rfl
  case safe => exact fun x w u hsit hruns hfetch hkind => runs_microword rfl hsit hruns hfetch hkind rfl
  case fin => exact fun x w u hsit hruns hfetch hkind => runs_microword rfl hsit hruns hfetch hkind rfl
  case horizontal => exact fun a w ok => runs_horizontalWord
  case bulkResume => exact fun o bad => runs_bulkResume
  case mchkReread => exact fun m ok => runs_mchkReread
  case selftest => exact fun pass stage u => runs_sxtSelftest
  case patchHold => exact fun q h => runs_access h rfl rfl
  case patchRelease => exact fun q h => runs_access h rfl rfl
  case patchData => exact fun q v h => runs_access h rfl rfl
  case calcClear => exact fun q h => runs_access h rfl rfl

end Sys2Proof.Machine
end

section
/-! Every operation of Sextant and every key of the calculator: one row each, which runs where its opcode, or its code, is next. -/
namespace Sys2Proof.Machine

section Rows
variable {i : Instr} {s t : State}

/-- The row of the opcode that is next carries the whole operation out (R318, R319). -/
theorem runs_sxtRow {op : Nat} {x : Nat × Word} (hexec : exec i s = sxtRow op s) (hnext : sxtNext s = some x)
    (ht : t = sxtFinish (sxtBegin x.1 x.2 s)) (hop : nextOp s = some op) : Runs i s t := by
  rw [Runs, hexec, sxtRow, hnext, ht]
  simp only [happens, hop, decide_true, if_true]

/-- The row of the key that is next dispatches it and has its effect (R318, R324). -/
theorem runs_calcRow {code : Nat} {eff : Bool → State → State} (hexec : exec i s = calcRow code eff s) {r : List Nat}
    (hnext : calcNext s = some (code, r)) (hup : calcUp s = true) (hfree : s.sxt.run = none) :
    Runs i s (calcKey code r eff (calcDispatch code s)) := by
  rw [Runs, hexec, calcRow, hnext]
  simp only [happens, hup, hfree, Option.isNone_none, decide_true, Bool.and_self, if_true]

/-- CALC_UNARY is the row of the key of its operation, where it names one of Sextant's own (R324). -/
theorem exec_calcUnary {op : BitVec 8} (hop : op.toNat < 0x30) :
    exec (.calcUnary op) s = calcRow (0x40 + op.toNat) (fun pick => onCalc fun c =>
      showResult (opValue op.toNat 0 c.unit pick (calcX c) (dZero false)).1 c) s := if_pos hop

/-- The angle unit goes from DEG to RAD to GRA and back (R324). -/
theorem exec_calcAngleUnit :
    exec .calcAngleUnit s = calcRow 0x7A (fun _ => onCalc fun c =>
      { c with unit := if c.unit = 1 then 0 else if c.unit = 0 then 2 else 1 }) s := by
  have hnext (n : Nat) : (match n with | 1 => 0 | 0 => 2 | _ => 1) = if n = 1 then 0 else if n = 0 then 2 else 1 := by
    match n with
    | 0 | 1 | n + 2 => simp
  change calcRow 0x7A (fun _ => onCalc fun c => { c with unit := match c.unit with | 1 => 0 | 0 => 2 | _ => 1 }) s = _
  simp only [hnext]

end Rows

/-- Settles O12: each operation is the row of its opcode, and `runs_sxtRow` carries a row out. -/
theorem sextantOperationsComplete : Obligations.SextantOperationsComplete := by
  unfold Obligations.SextantOperationsComplete
  intro s t x hnext ht
  have row {i : Instr} {op : Nat} (hexec : exec i s = sxtRow op s) : nextOp s = some op → Runs i s t :=
    runs_sxtRow hexec hnext ht
  exact ⟨row rfl, row rfl, row rfl, row rfl, row rfl, row rfl, row rfl, row rfl, row rfl, row rfl, row rfl, row rfl, row rfl,
    row rfl, row rfl, row rfl, row rfl, row rfl, row rfl, row rfl, row rfl, row rfl, row rfl, row rfl, row rfl, row rfl,
    row rfl, row rfl, row rfl, row rfl, row rfl, row rfl, row rfl, row rfl, row rfl, row rfl, row rfl, row rfl, row rfl,
    row rfl, row rfl, row rfl, row rfl⟩

/-- Settles O13: each key is the row of its code, and `runs_calcRow` carries a row out. -/
theorem calculatorKeysComplete : Obligations.CalculatorKeysComplete := by
  unfold Obligations.CalculatorKeysComplete
  intro s
  refine ⟨?digit, ?decimalPoint, ?exp, ?sign, ?del, ?c, ?ac, ?plus, ?minus, ?times, ?divide, ?yPowX, ?ncr, ?npr, ?openParen,
    ?closeParen, ?equals, ?ans, ?sto, ?rcl, ?mPlus, ?second, ?unary, ?sigmaPlus, ?sigmaMinus, ?xySeparator, ?mean, ?sdev,
    ?psdev, ?regression, ?yHat, ?xHat, ?clearStats, ?angleUnit, ?historyBack, ?historyForward, ?scroll, ?base, ?reciprocal⟩
  case digit => exact fun n r => runs_calcRow rfl
  case unary => exact fun op r hop => runs_calcRow (exec_calcUnary hop)
  case angleUnit => exact fun r => runs_calcRow exec_calcAngleUnit
  all_goals exact fun r => runs_calcRow rfl

end Sys2Proof.Machine
end

section
/-! The commands of the keyboard scanner, of Cupola and of the host link: a scan, a frame and a pump's change come while their block
works, what the host does while its window is on, and a register command is one access. -/
namespace Sys2Proof.Machine

section HelmOneOnly
variable {i : Instr} {q : Req} {s t : State} {own others : Result}

/-- Helm1 has the requester code 0x21 (R100). -/
theorem isHelm1_iff : isHelm1 q.toNat = true ↔ q = 0x21#6 := by
  rw [isHelm1, decide_eq_true_iff]
  exact (BitVec.toNat_inj (y := 0x21#6))

/-- A command that is Helm1's own and for others another runs for Helm1 as its own. -/
theorem runs_of_helm1 (hexec : exec i s = if isHelm1 q.toNat then own else others) (hq : q = 0x21#6) (hown : own = .next t) :
    Runs i s t := by
  rw [Runs, hexec, if_pos (isHelm1_iff.mpr hq), hown]

/-- A command that is Helm1's own and for others another runs for others as the other. -/
theorem runs_of_not_helm1 (hexec : exec i s = if isHelm1 q.toNat then own else others) (hq : q ≠ 0x21#6)
    (hothers : others = .next t) : Runs i s t := by
  rw [Runs, hexec, if_neg (fun h => hq (isHelm1_iff.mp h)), hothers]

end HelmOneOnly

section KeyCommands
variable {q : Req} {v : Word} {s : State}

/-- The host reads the key FIFO through its window (R351, R366). -/
theorem runs_keyFifoRead_host (hon : windowOn s = true) :
    Runs (.keyFifoRead true q) s (hostShown (fifoPop true s).1 (fifoPop true s).2) :=
  runs_gated rfl hon

/-- A requester of the bus reads the key FIFO by an access (R351). -/
theorem runs_keyFifoRead_bus (h : Admitted q 0x71803 false s) : Runs (.keyFifoRead false q) s (fifoPop false s).2 :=
  runs_access h rfl rfl

/-- The host sets the exam lock through HW_LOCK (R353, R366). -/
theorem runs_lockSet_host (hon : windowOn s = true) (hset : tst v 0 = true) :
    Runs (.lockSet true q v) s (setLock (endFrame s)) :=
  runs_gated_and rfl hon hset

/-- A requester of the bus sets the exam lock by a write of KEY_LOCK (R353). -/
theorem runs_lockSet_bus (h : Admitted q 0x71822 true s) :
    Runs (.lockSet false q v) s (keyWrite q.toNat 0x71822 v s) :=
  runs_access h rfl rfl

end KeyCommands

/-- Settles O14: a scan, an unlock timeout, a frame and a pump's change are gated on their block, a read of the FIFO and a lock come
by the host's window or by one access. -/
theorem keyboardAndCupolaCommandsComplete : Obligations.KeyboardAndCupolaCommandsComplete := by
  unfold Obligations.KeyboardAndCupolaCommandsComplete
  intro s
  refine ⟨?scanStart, ?scanEnd, ?unlockTimeout, ?keyFifoRead, ?lockSet, ?cupolaFrame, ?pumpOkChange⟩
  case scanStart => exact fun hon hidle => runs_gated rfl (by rw [hon, hidle]; rfl)
  case scanEnd => exact fun raw hon hscanning => runs_gated_and rfl hon hscanning
  case unlockTimeout => exact fun hlock hlate hon => runs_gated rfl (by rw [hlock, hlate, hon]; rfl)
  case keyFifoRead => exact fun q => ⟨runs_keyFifoRead_host, runs_keyFifoRead_bus⟩
  case lockSet => exact fun q v => ⟨runs_lockSet_host, runs_lockSet_bus⟩
  case cupolaFrame => exact fun hruns => runs_gated rfl hruns
  case pumpOkChange => exact fun ok hon hpump => runs_gated_and rfl hon hpump

/-- Settles O15: what the host does is gated on its window, Helm1's side of the FIFOs on its serving packets, and the rest is one
access each. -/
theorem hostLinkCommandsComplete : Obligations.HostLinkCommandsComplete := by
  unfold Obligations.HostLinkCommandsComplete
  intro s
  refine ⟨?hostWrite, ?hostRead, ?frameAbort, ?txDataWrite, ?rxDataRead, ?txFlush, ?rxFlush, ?ring, ?hostifTxRead,
    ?hostifRxWrite, ?dmsgWrite, ?dmaStart⟩
  case hostWrite => exact fun c v hon hwrite => runs_gated rfl (by rw [hon, hwrite]; rfl)
  case hostRead => exact fun g hon hfits => runs_gated_and rfl hon hfits
  case frameAbort => exact fun hon => runs_gated rfl hon
  case txDataWrite => exact fun v hon => runs_gated rfl hon
  case rxDataRead => exact fun hon => runs_gated rfl hon
  case txFlush => exact fun hon => runs_gated rfl hon
  case rxFlush => exact fun hon => runs_gated rfl hon
  case ring => exact fun v hon => runs_gated rfl hon
  case hostifTxRead =>
    exact fun q => ⟨fun hq hserves hroom => runs_of_helm1 rfl hq (by simp [happens, hserves, hroom]),
      fun hq h => runs_of_not_helm1 rfl hq (by rw [withAccess_of_admitted _ h])⟩
  case hostifRxWrite =>
    exact fun q => ⟨fun hq hserves hroom => runs_of_helm1 rfl hq (by simp [happens, hserves, hroom]),
      fun hq h => runs_of_not_helm1 rfl hq (by rw [withAccess_of_admitted _ h])⟩
  case dmsgWrite => exact fun q v h => runs_access h rfl rfl
  case dmaStart => exact fun q v h => runs_access h rfl rfl

end Sys2Proof.Machine
end

section
/-! The packets of Nguir: a row serves its stream's oldest packet, which passes the checks of R377 and is carried out, or fails one
and is answered. -/
namespace Sys2Proof.Machine

section PacketRows
variable {i : Instr} {st : Stream} {p : Packet} {s : State} {mine : Packet → Bool} {act : Packet → State → State}

/-- The state in which a packet is answered: it has been taken out of those that wait, and its stream expects the next sequence where
it passed that check (R377, R379). -/
def takenUp (p : Packet) (s : State) : State :=
  advanceExpect p (s.mapHostif fun h => { h with taken := takeOut p.stream h.taken })

/-- A packet that passes the checks is carried out (R377). -/
theorem servePacket_of_sound (hsound : checkPacket p s = none) : servePacket act p s = act p (accepted p s) := by
  simp only [servePacket, hsound, accepted]

/-- A packet that fails a check is answered with the status and the detail of that check, and not carried out (R377). -/
theorem servePacket_of_fails {x : Nat × Nat} (hfails : checkPacket p s = some x) :
    servePacket act p s = respond p x.1 x.2 [] (takenUp p s) := by
  simp only [servePacket, hfails, takenUp]

/-- A row whose opcode the stream's oldest packet has serves it, where none of the stream waits and no other packet holds it up
(R378, R387). -/
theorem packetEffect_of_first (hfree : waitOn st.1 s = none) (hfirst : firstTaken st.1 s = some p) (hmine : mine p = true)
    (hclear : packetBlocked p s = false) : packetEffect mine act st.1 s = servePacket act p s := by
  simp only [packetEffect, hfree, hfirst, hmine, hclear, Bool.not_false, Bool.and_self, if_true]

/-- The row of an opcode serves the oldest packet of its stream, while Helm1 serves packets (R377, R378). -/
theorem runs_packetRow {op : Nat} (hexec : exec i s = packetRow op act st s) (hserves : helm1Serves s = true)
    (hfree : waitOn st.1 s = none) (hfirst : firstTaken st.1 s = some p) (hmine : p.op = op)
    (hclear : packetBlocked p s = false) : Runs i s (servePacket act p s) := by
  rw [Runs, hexec, packetRow, happens, if_pos hserves, packetEffect_of_first hfree hfirst (decide_eq_true hmine) hclear]

/-- The row of an opcode carries out a packet that passes the checks (R377). -/
theorem runs_of_serves {op : Nat} (hexec : exec i s = packetRow op act st s) (h : Serves st op p s) :
    Runs i s (act p (accepted p s)) :=
  servePacket_of_sound (act := act) h.sound ▸ runs_packetRow hexec h.runs h.free h.first h.mine h.clear

/-- The opcode is what fails the check of status 0x02 (R377). -/
theorem not_opCarried_of_checkPacket (h : checkPacket p s = some (0x02, 0)) : opCarried p.op p.ver = false := by
  unfold checkPacket at h
  split_ifs at h with hcrc hhello hstopped hresume hseq hver hop
  all_goals simp_all

/-- UNSUPPORTED_PACKET answers a packet whose opcode its version does not carry (R377). -/
theorem runs_unsupportedPacket (hserves : helm1Serves s = true) (hfree : waitOn st.1 s = none)
    (hfirst : firstTaken st.1 s = some p) (hclear : packetBlocked p s = false) (hcheck : checkPacket p s = some (0x02, 0)) :
    Runs (.unsupportedPacket st) s (respond p 0x02 0 [] (takenUp p s)) := by
  change happens (helm1Serves s) (packetEffect (fun p => !opCarried p.op p.ver) (fun _ s => s) st.1) s = _
  rw [happens, if_pos hserves, packetEffect_of_first hfree hfirst (by rw [not_opCarried_of_checkPacket hcheck]; rfl) hclear,
    servePacket_of_fails hcheck]

end PacketRows

/-- Settles O16: each opcode has its row, which `runs_of_serves` carries out, and UNSUPPORTED_PACKET answers what no version
carries. -/
theorem nguirPacketsComplete : Obligations.NguirPacketsComplete := by
  unfold Obligations.NguirPacketsComplete
  intro s
  refine ⟨?hello, ?read, ?write, ?claim, ?release, ?state, ?protQuery, ?batteryQuery, ?imageInfo, ?resume, ?keyConfig, ?cellLoad,
    ?cellCommit, ?fix, ?fixRead, ?logArm, ?logRead, ?standingOrder, ?voteQuery, ?policySet, ?policyQuery, ?sxtEval,
    ?sxtResult, ?moduleList, ?moduleQuery, ?almanacSave, ?almanacLoad, ?pdStatus, ?pdRequest, ?unsupported, ?lockPacket⟩
  case unsupported => exact fun st p => runs_unsupportedPacket
  case pdRequest => exact fun st ok p h => runs_of_serves rfl h
  all_goals exact fun st p h => runs_of_serves rfl h

end Sys2Proof.Machine
end

section
/-! The commands of Turtelink: presence comes by a slot's pad while the block runs, Helm1's requests while it serves packets, and
answers and timeouts while one is awaited. -/
namespace Sys2Proof.Machine

section TurtelinkCommands
variable {s : State}

/-- A request whose answer does not come fails its attempt (R416). -/
theorem runs_tlTimeout {x : Xfer} (hclock : tlClocked s = true) (hawaits : tlAwaits s = true) (hxfer : s.tl.xfer = some x) :
    Runs .tlTimeout s (tlFail 1 x s) := by
  change execTlTimeout s = _
  simp only [execTlTimeout, happens, hclock, hawaits, hxfer, Bool.and_self, if_true]

end TurtelinkCommands

/-- Settles O17: each command is gated on the side of Turtelink that does it, the block, its line or Helm1, and on its own
condition; the write of TL_PEN is one access. -/
theorem turtelinkCommandsComplete : Obligations.TurtelinkCommandsComplete := by
  unfold Obligations.TurtelinkCommandsComplete
  intro s
  refine ⟨?presence, ?absence, ?penWrite, ?readDesc, ?setVersion, ?setAddress, ?read, ?write, ?moduleStatus, ?answer, ?timeout,
    ?retry, ?discovery, ?poll, ?release⟩
  case presence => exact fun n hruns hpad hbit => runs_gated rfl (by rw [hruns, hpad, hbit]; rfl)
  case absence => exact fun n hruns hpad hbit => runs_gated rfl (by rw [hruns, hpad, hbit]; rfl)
  case penWrite => exact fun q v h => runs_access h rfl rfl
  case readDesc => exact fun addr off cnt hserves => runs_gated rfl hserves
  case setVersion => exact fun addr v hserves => runs_gated rfl hserves
  case setAddress => exact fun addr n hserves => runs_gated rfl hserves
  case read => exact fun addr off cnt hserves => runs_gated rfl hserves
  case write => exact fun addr off ws hserves => runs_gated rfl hserves
  case moduleStatus => exact fun addr hserves => runs_gated rfl hserves
  case answer => exact fun hdr ws good hline hawaits => runs_gated_and rfl hline hawaits
  case timeout => exact fun x => runs_tlTimeout
  case retry => exact fun hclock hxfer hawaits => runs_gated rfl (by rw [hclock, hxfer, hawaits]; rfl)
  case discovery =>
    exact fun n hserves hdisc hslot => runs_gated rfl (by rw [hserves, hdisc, decide_eq_true hslot]; rfl)
  case poll => exact fun hserves hxfer => runs_gated_and rfl hserves hxfer
  case release => exact fun n hserves hbit => runs_gated_and rfl hserves hbit

end Sys2Proof.Machine
end

section
/-! The protection set is Helm0's, and a locked set is no one's (R247, R250). -/
namespace Sys2Proof.Machine

section ProtWrites
variable {q : Req} {a : Nat} {v : Word} {s : State}

/-- A write that the bus carries out in the PROT block is a write of that block (R250). -/
theorem busPut_prot (hlo : 0x72800 ≤ a) (hhi : a < 0x73000) (q : Nat) : busPut q a v s = protWrite q a v s := by
  rw [busPut, if_neg (by omega), regWrite]
  repeat rw [if_neg (by omega)]
  rw [if_pos hhi]

/-- REGISTER_WRITE to the PROT block is a write of that block (R250). -/
theorem runs_registerWrite_prot {a : Word} (hlo : 0x72800 ≤ a.toNat) (hhi : a.toNat < 0x73000) (h : Admitted q a.toNat true s) :
    Runs (.registerWrite q a v) s (protWrite q.toNat a.toNat v s) := by
  have hsubmit : a ≠ 0x72001#20 ∧ a ≠ 0x72002#20 := by constructor <;> (rintro rfl; simp at hlo)
  exact busPut_prot hlo hhi q.toNat ▸ runs_of_admitted h (exec_registerWrite hsubmit.1 hsubmit.2)

/-- Helm0 has the requester code 0x20 (R100). -/
theorem isHelm0_of_ne (hq : q ≠ 0x20#6) : isHelm0 q.toNat = false :=
  decide_eq_false (BitVec.toNat_ne_iff_ne (y := 0x20#6) |>.mpr hq)

/-- Only Helm0 may write the entries, and only until they are locked (R247, R250). -/
theorem protOpen_of_not_helm0 (hq : q ≠ 0x20#6) : protOpen q.toNat s = false := by
  rw [protOpen, isHelm0_of_ne hq, Bool.false_and]

theorem protOpen_of_locked (hlock : s.rb 0x72800 0 = true) (q : Nat) : protOpen q s = false := by
  rw [protOpen, hlock, Bool.not_true, Bool.and_false]

/-- PROT_LOCK is Helm0's (R250). -/
theorem protLockWrite_of_not_helm0 (hq : q ≠ 0x20#6) : protLockWrite q.toNat v s = s := by
  rw [protLockWrite, isHelm0_of_ne hq, Bool.false_and]
  rfl

/-- PROT_TRIP is Helm0's (R250). -/
theorem protTripWrite_of_not_helm0 (hq : q ≠ 0x20#6) : protTripWrite q.toNat v s = s := by
  rw [protTripWrite, isHelm0_of_ne hq]
  rfl

/-- A write to an entry's configuration that is not open to its requester does nothing (R247). -/
theorem protCfgWrite_of_closed {q : Nat} (hclosed : protOpen q s = false) (i : Nat) : protCfgWrite q i v s = s := by
  simp [protCfgWrite, hclosed]

/-- Nor does one to another word of an entry (R247). -/
theorem protWrite_entry_of_closed {q : Nat} (hclosed : protOpen q s = false) (hlo : 0x72810 ≤ a) (hhi : a < 0x72890) :
    protWrite q a v s = s := by
  rw [protWrite, if_neg (by omega), if_neg (by omega), if_pos ⟨hlo, hhi⟩, protCfgWrite_of_closed hclosed, hclosed]
  simp

/-- No write to the PROT block by another than Helm0 does anything (R250). -/
theorem protWrite_of_not_helm0 (hq : q ≠ 0x20#6) (a : Nat) : protWrite q.toNat a v s = s := by
  by_cases hentry : 0x72810 ≤ a ∧ a < 0x72890
  · exact protWrite_entry_of_closed (protOpen_of_not_helm0 hq) hentry.1 hentry.2
  · rw [protWrite, protLockWrite_of_not_helm0 hq, protTripWrite_of_not_helm0 hq, if_neg hentry]
    simp

end ProtWrites

/-- Settles O53: every path of a write into the PROT block asks for Helm0, and every path into an entry for an open set. -/
theorem onlyHelm0WritesTheProtectionSet : Obligations.OnlyHelm0WritesTheProtectionSet := by
  unfold Obligations.OnlyHelm0WritesTheProtectionSet
  refine ⟨?block, ?commands, ?locked⟩
  case block =>
    intro q a v s hq hlo hhi h
    have hruns := runs_registerWrite_prot (v := v) hlo hhi h
    rwa [protWrite_of_not_helm0 hq] at hruns
  case commands =>
    exact fun q i v s hq =>
      ⟨fun h => runs_access h rfl (protTripWrite_of_not_helm0 hq), fun h => runs_access h rfl (protLockWrite_of_not_helm0 hq),
        fun h => runs_access h rfl (protCfgWrite_of_closed (protOpen_of_not_helm0 hq) i.1)⟩
  case locked =>
    intro q i a v s hlock
    refine ⟨fun hlo hhi h => ?_, fun h => runs_access h rfl (protCfgWrite_of_closed (protOpen_of_locked hlock _) i.1)⟩
    have hruns := runs_registerWrite_prot (v := v) (by omega) (by omega) h
    rwa [protWrite_entry_of_closed (protOpen_of_locked hlock _) hlo hhi] at hruns

end Sys2Proof.Machine
end

section
/-! The sequence number, the banks and the pins of the Fix: every reset clears the number, a completion advances it and writes the
bank that is neither current nor pinned (R293, R294, R296). -/
namespace Sys2Proof.Machine

section Resets
variable {s t : State} {a : Nat}

/-- A held reset changes PWR_STATUS and CLK_STATUS only (R57). -/
theorem rd_holdReset_ne (hpwr : a ≠ 0x70800) (hclk : a ≠ 0x70400) : (holdReset s).rd a = s.rd a := by
  simp only [holdReset, List.foldl_cons, List.foldl_nil]
  repeat rw [rd_wb_ne _ _ _ hclk]
  repeat rw [rd_wb_ne _ _ _ hpwr]

/-- The power state is no register. -/
theorem rd_mapPwr (f : Pwr → Pwr) (a : Nat) : (s.mapPwr f).rd a = s.rd a := rfl

/-- FIX_SEQ has no Keep bit and resets to 0 (R294, R297). -/
theorem regRow_fixSeq : ∃ r, regRow 0x74002 = some r ∧ r.keep = 0#20 ∧ r.reset = 0#20 := ⟨_, rfl, rfl, rfl⟩

theorem fixSeq_resetKeep (code : Nat) : (resetKeep code s).rd 0x74002 = 0 := by
  obtain ⟨r, hrow, hkeep, hreset⟩ := regRow_fixSeq
  obtain ⟨v, hv⟩ := lookup_keepRegs_exists s.reg 0x74002
  have hzero : keepWord 0x74002 v = 0 := by
    rw [keepWord_of_regRow hrow, hkeep, hreset]
    simp
  rw [resetKeep, resetCause, rd_mapCyc, rd_wr_ne _ _ (by omega), rd_holdReset_ne (by omega) (by omega)]
  exact hv.trans hzero

theorem fixSeq_resetCold : (resetCold s).rd 0x74002 = 0 := by
  rw [resetCold, rd_holdReset_ne (by omega) (by omega)]
  rfl

theorem fixSeq_goOff : (goOff s).rd 0x74002 = 0 := by
  rw [goOff, State.wf, rd_wr_ne _ _ (by omega), rd_mapPwr, fixSeq_resetCold]

/-- A warm reset leaves FIX_SEQ 0 (R294). -/
theorem fixSeq_of_warmReset (h : WarmReset s t) : t.rd 0x74002 = 0 := by
  obtain ⟨code, u, -, rfl⟩ := h.exists_resetKeep
  exact fixSeq_resetKeep code

end Resets

section Completion
variable {s : State} {a : Nat}

/-- The sequence number, the index of the current bank, the pins and the two banks of the Fix. -/
def fixFace (s : State) : Word × Word × SMap Nat × FixBank × FixBank :=
  (s.rd 0x74002, s.rd 0x74003, s.fix.pins, s.fix.bank0, s.fix.bank1)

theorem fixFace_wr (v : Word) (hseq : a ≠ 0x74002) (hcur : a ≠ 0x74003) : fixFace (s.wr a v) = fixFace s := by
  rw [fixFace, rd_wr_ne _ _ hseq.symm, rd_wr_ne _ _ hcur.symm, wr_fix, fixFace]

theorem fixFace_wb (i : Nat) (b : Bool) (hseq : a ≠ 0x74002) (hcur : a ≠ 0x74003) : fixFace (s.wb a i b) = fixFace s :=
  fixFace_wr (s := s) _ hseq hcur

theorem wb_fix (i : Nat) (b : Bool) : (s.wb a i b).fix = s.fix := by rw [State.wb, mapCyc_fix, wr_fix]

theorem fixFace_bump (n : Nat) (hseq : a ≠ 0x74002) (hcur : a ≠ 0x74003) : fixFace (s.bump a n) = fixFace s :=
  fixFace_wr _ hseq hcur

theorem fixFace_hwIrq {k : Nat} (hk : k < 0x2000) : fixFace (hwIrq k s) = fixFace s := by
  rw [hwIrq, fixFace_bump _ (by omega) (by omega), fixFace_wb _ _ (by omega) (by omega)]

/-- A record goes to the Logbook (R300). -/
theorem fixFace_logEvent (kind src det : Nat) (data : List Word) : fixFace (logEvent kind src det data s) = fixFace s := by
  unfold logEvent queueRec
  split_ifs
  · rfl
  · exact fixFace_bump (s := s) 1 (by omega) (by omega)
  · rfl

/-- The held trigger is captured (R293). -/
theorem fixFace_fixAfter : fixFace (fixAfter s) = fixFace s := by
  unfold fixAfter fixCapture
  split
  · rfl
  · rw [fixFace_wb _ _ (by omega) (by omega)]
    rfl

/-- The set that a completion puts into its bank (R293, R294). -/
def finishedBank (b : FixBank) (s : State) : FixBank :=
  { b with seq := nextSeq (s.rd 0x74002).toNat, cell := if b.cell < 32 then b.cell else 0 }

/-- What a completion leaves: the next number, the other bank current, the pins as they were, and the set in the bank that was not
current (R293, R294). -/
theorem fixFace_fixFinish (b : FixBank) : fixFace (fixFinish b s) =
    (BitVec.ofNat 20 (nextSeq (s.rd 0x74002).toNat), BitVec.ofNat 20 (1 - s.fixCur), s.fix.pins,
      if 1 - s.fixCur = 0 then finishedBank b s else s.fix.bank0,
      if 1 - s.fixCur = 0 then s.fix.bank1 else finishedBank b s) := by
  have hdeliver (c : FixBank) (u : State) : fixFace (fixDeliver c u) = fixFace u := rfl
  simp only [fixFinish]
  rw [fixFace_fixAfter, hdeliver, apply_ite fixFace, fixFace_logEvent, ite_self, fixFace_hwIrq (by omega),
    fixFace_wb _ _ (by omega) (by omega), fixFace_wb _ _ (by omega) (by omega), fixFace_wb _ _ (by omega) (by omega), fixFace,
    rd_wr_self, rd_wr_ne _ _ (by omega), rd_wr_self]
  by_cases hcur : 1 - s.fixCur = 0 <;> simp [hcur, finishedBank]

theorem fixFinish_leaves (b : FixBank) :
    (fixFinish b s).rd 0x74002 = BitVec.ofNat 20 (nextSeq (s.rd 0x74002).toNat) ∧
    (fixFinish b s).rd 0x74003 = BitVec.ofNat 20 (1 - s.fixCur) ∧ (fixFinish b s).fix.pins = s.fix.pins ∧
    (fixFinish b s).fix.bank0 = (if 1 - s.fixCur = 0 then finishedBank b s else s.fix.bank0) ∧
    (fixFinish b s).fix.bank1 = (if 1 - s.fixCur = 0 then s.fix.bank1 else finishedBank b s) := by
  simpa only [fixFace, Prod.mk.injEq] using fixFace_fixFinish (s := s) b

theorem seq_fixFinish (b : FixBank) : (fixFinish b s).rd 0x74002 = BitVec.ofNat 20 (nextSeq (s.rd 0x74002).toNat) :=
  (fixFinish_leaves b).1

theorem pins_fixFinish (b : FixBank) : (fixFinish b s).fix.pins = s.fix.pins := by
  obtain ⟨-, -, hpins, -, -⟩ := fixFinish_leaves (s := s) b
  exact hpins

/-- The index of the current bank is one bit (R293, R297). -/
theorem fixCur_lt (s : State) : s.fixCur < 2 := Nat.mod_lt _ (by omega)

/-- A completion makes the other bank current (R293). -/
theorem fixCur_fixFinish (b : FixBank) : (fixFinish b s).fixCur = 1 - s.fixCur := by
  obtain ⟨-, hcur, -, -, -⟩ := fixFinish_leaves (s := s) b
  rw [State.fixCur, State.rf, hcur, fld_ofNat (by omega)]
  omega

/-- The bank that has become current is the finished one (R293). -/
theorem currentBank_fixFinish (b : FixBank) :
    (if (fixFinish b s).fixCur = 0 then (fixFinish b s).fix.bank0 else (fixFinish b s).fix.bank1) = finishedBank b s := by
  obtain ⟨-, -, -, hbank0, hbank1⟩ := fixFinish_leaves (s := s) b
  rw [fixCur_fixFinish, hbank0, hbank1]
  split <;> rfl

/-- What FIX_COMPLETE does: nothing without a set, a wait on a pin of the target bank, or the completion (R293). -/
theorem fixComplete_cases (s : State) :
    fixComplete s = s ∨ fixComplete s = s.wb 0x74001 18 true ∨
      ∃ b, pinned (1 - s.fixCur) s = false ∧ fixComplete s = fixFinish b s := by
  unfold fixComplete
  split
  · exact .inl rfl
  · next b _ =>
    cases hpin : pinned (1 - s.fixCur) s
    · exact .inr (.inr ⟨b, rfl, if_neg Bool.false_ne_true⟩)
    · exact .inr (.inl (if_pos rfl))

theorem fixComplete_of_capture {b : FixBank} (hcapture : s.fix.capture = some b) (hpin : pinned (1 - s.fixCur) s = false) :
    fixComplete s = fixFinish b s := by
  simp [fixComplete, hcapture, hpin]

theorem pins_fixComplete (s : State) : (fixComplete s).fix.pins = s.fix.pins := by
  obtain h | h | ⟨b, -, h⟩ := fixComplete_cases s
  · rw [h]
  · rw [h, wb_fix]
  · rw [h, pins_fixFinish]

/-- A completion leaves a bank that is current or pinned (R293). -/
theorem banks_fixComplete (s : State) :
    (pinned 0 s = true ∨ s.fixCur = 0 → (fixComplete s).fix.bank0 = s.fix.bank0) ∧
    (pinned 1 s = true ∨ s.fixCur = 1 → (fixComplete s).fix.bank1 = s.fix.bank1) := by
  obtain h | h | ⟨b, hpin, h⟩ := fixComplete_cases s
  · exact ⟨fun _ => by rw [h], fun _ => by rw [h]⟩
  · exact ⟨fun _ => by rw [h, wb_fix], fun _ => by rw [h, wb_fix]⟩
  · have hcur := fixCur_lt s
    obtain ⟨-, -, -, hbank0, hbank1⟩ := fixFinish_leaves (s := s) b
    rw [h, hbank0, hbank1]
    refine ⟨fun hkept => if_neg fun htarget => ?_, fun hkept => if_pos ?_⟩
    · obtain hkept | hkept := hkept
      · rw [htarget, hkept] at hpin
        exact Bool.noConfusion hpin
      · omega
    · obtain hkept | hkept := hkept
      · by_contra htarget
        rw [show 1 - s.fixCur = 1 by omega, hkept] at hpin
        exact Bool.noConfusion hpin
      · omega

/-- FIX_COMPLETE leaves what the end of the transfer does, or, where no set has been captured, nothing (R293). -/
theorem runs_fixComplete_cases {t : State} (h : Runs .fixComplete s t) : t = s ∨ t = fixComplete s := by
  cases hgate : s.fabric && captured s
  · exact .inl (h.unique (runs_still (t := fixComplete s) rfl hgate))
  · exact .inr (h.unique (runs_gated rfl hgate))

end Completion

section Numbers
variable {v : Word}

/-- The number that follows a number (R294). -/
theorem ofNat_nextSeq : BitVec.ofNat 20 (nextSeq v.toNat) = if v = 0xFFFFF#20 then 1 else v + 1 := by
  have hmax : v.toNat = 0xFFFFF ↔ v = 0xFFFFF#20 := BitVec.toNat_inj (y := 0xFFFFF#20)
  rw [nextSeq]
  by_cases hv : v = 0xFFFFF#20
  · rw [if_pos (hmax.mpr hv), if_pos hv]
    rfl
  · rw [if_neg (mt hmax.mp hv), if_neg hv, BitVec.ofNat_add, BitVec.ofNat_toNat, BitVec.setWidth_eq]
    rfl

/-- No Fix has the number 0, and every number fits its register (R294). -/
theorem nextSeq_bounds (v : Word) : 0 < nextSeq v.toNat ∧ nextSeq v.toNat < 2 ^ 20 := by
  have := v.isLt
  unfold nextSeq
  split <;> omega

theorem toNat_ofNat_nextSeq (v : Word) : (BitVec.ofNat 20 (nextSeq v.toNat)).toNat = nextSeq v.toNat := by
  rw [BitVec.toNat_ofNat, Nat.mod_eq_of_lt (nextSeq_bounds v).2]

theorem ofNat_nextSeq_ne_zero (v : Word) : BitVec.ofNat 20 (nextSeq v.toNat) ≠ 0 := by
  intro hzero
  have hpos := (nextSeq_bounds v).1
  rw [← toNat_ofNat_nextSeq, hzero] at hpos
  exact absurd hpos (by decide)

end Numbers

/-- Settles O47: every reset takes FIX_SEQ from the state after reset, and a completion by `seq_fixFinish` and
`currentBank_fixFinish`. -/
theorem fixSequenceNumbers : Obligations.FixSequenceNumbers := by
  unfold Obligations.FixSequenceNumbers
  refine ⟨?resets, ?completion⟩
  case resets =>
    rintro s t (hcold | hpin | hsys | hlockup | hsoft | hbrown | hoff)
    · exact hcold.unique runs_coldReset ▸ fixSeq_resetCold
    · exact fixSeq_of_warmReset (.inl hpin)
    · exact fixSeq_of_warmReset (.inr (.inl hsys))
    · exact fixSeq_of_warmReset (.inr (.inr (.inl hlockup)))
    · exact fixSeq_of_warmReset (.inr (.inr (.inr (.inl hsoft))))
    · exact fixSeq_of_warmReset (.inr (.inr (.inr (.inr hbrown))))
    · exact hoff.unique (u := goOff s) rfl ▸ fixSeq_goOff
  case completion =>
    intro s b hfab hcapture hcome hpin
    have hcaptured : captured s = true := by simp [captured, hcapture, hcome]
    have hruns : Runs .fixComplete s (fixComplete s) := runs_gated_and rfl hfab hcaptured
    rw [fixComplete_of_capture hcapture hpin] at hruns
    refine ⟨fixFinish b s, hruns, ?_, ?_, fixCur_fixFinish b, ?_⟩
    · rw [seq_fixFinish, ofNat_nextSeq]
    · rw [seq_fixFinish]
      exact ofNat_nextSeq_ne_zero _
    · rw [currentBank_fixFinish, seq_fixFinish, toNat_ofNat_nextSeq, finishedBank]

section Pins
variable {s : State} {q : Nat}

/-- A released pin names no bank (R296). -/
theorem pins_fixUnpin (q : Nat) (s : State) : (fixUnpin q s).fix.pins = update zeroAt s.fix.pins q 0 := by
  unfold fixUnpin
  simp only []
  split
  · exact pins_fixComplete _
  · rfl

/-- A pin is on the bank that was current at the read (R296). -/
theorem pin_fixOpen (q : Nat) (s : State) : lookup zeroAt (fixOpen q s).fix.pins q = s.fixCur + 1 := by
  rw [fixOpen, mapFix_fix, lookup_update_self]

/-- A read of FIX_OPEN returns the index of the current bank (R296). -/
theorem busRead_fixOpen {q : Req} (h : Admitted q 0x74004 false s) :
    busRead q.toNat 0x74004 s = (BitVec.ofNat 20 s.fixCur, fixOpen q.toNat s) := by
  rw [busRead_of_admitted h, busGet, if_neg (by omega), regGet, if_neg (by omega), if_neg (by omega), if_neg (by omega),
    if_neg (by omega), if_pos rfl]

end Pins

/-- Settles O48: a completion by `banks_fixComplete`, and the pins by what FIX_OPEN and FIX_CLOSE put into them. -/
theorem pinnedBanksAreNotWritten : Obligations.PinnedBanksAreNotWritten := by
  unfold Obligations.PinnedBanksAreNotWritten
  refine ⟨?completion, ?opened, ?closed⟩
  case completion =>
    intro s t hruns
    obtain rfl | rfl := runs_fixComplete_cases hruns
    · exact ⟨fun _ => rfl, fun _ => rfl⟩
    · exact banks_fixComplete s
  case opened =>
    exact fun q s h => ⟨fixOpen q.toNat s, runs_access h rfl rfl, busRead_fixOpen h, pin_fixOpen q.toNat s⟩
  case closed =>
    intro q v s h
    have hruns : Runs (.fixClose q v) s (if tst v 0 then fixUnpin q.toNat s else s) := runs_access h rfl rfl
    refine ⟨fun hclose => ?_, fun hkeep => ?_⟩
    · rw [if_pos hclose] at hruns
      exact ⟨_, hruns, by rw [pins_fixUnpin, lookup_update_self]⟩
    · rwa [hkeep, if_neg Bool.false_ne_true] at hruns

end Sys2Proof.Machine
end

section
/-! Firmware records of the Logbook (R299 to R301). -/
namespace Sys2Proof.Machine

section Domains
variable {q : Req} {a d : Nat} {w : Bool} {s : State}

/-- The domain of an address answers an access that is carried out (R87). -/
theorem answers_of_admitted (h : Admitted q a w s) : s.answers a = true := by
  have hfault : s.accessFault a w = none := by
    have hreached := h.reached
    unfold reqFault at hreached
    split_ifs at hreached
    exact hreached
  unfold State.accessFault at hfault
  split_ifs at hfault with _ _ hanswers
  exact hanswers

/-- FABRIC is ready where an access to one of its registers is carried out (R73, R87). -/
theorem fabricReady_of_admitted (h : Admitted q a w s) (ha : domainOf a = 2) : s.dom 2 = true := by
  simpa [State.answers, ha] using answers_of_admitted h

end Domains

section Records
variable {v : Word} {s : State} {r : LogRec}

/-- The record that a write of v to LOG_SWREC asks for (R301). -/
def firmwareRec (v : Word) (s : State) : LogRec :=
  { kind := fld v 14 6, src := fld v 9 5, det := fld v 0 9, mt := s.mt,
    data := [s.rd 0x7E008, s.rd 0x7E009, s.rd 0x7E00A, s.rd 0x7E00B] }

/-- Word 0 of a firmware record is the word that was written (R299, R301). -/
theorem recHeader_firmwareRec : recHeader (firmwareRec v s) = v := by
  have := v.isLt
  apply BitVec.eq_of_toNat_eq
  simp only [recHeader, firmwareRec, fld, BitVec.toNat_ofNat]
  omega

/-- Its words are the header, the stamp and the four data words (R299, R301). -/
theorem recWords_firmwareRec : recWords (firmwareRec v s) =
    [v, wordOf s.mt 0, wordOf s.mt 1, wordOf s.mt 2, s.rd 0x7E008, s.rd 0x7E009, s.rd 0x7E00A, s.rd 0x7E00B] := by
  rw [recWords, recHeader_firmwareRec]
  rfl

/-- A type of firmware queues its record, while FABRIC is ready (R301). -/
theorem logSwrec_of_firmware (hlo : 0x20 ≤ fld v 14 6) (hhi : fld v 14 6 ≤ 0x3B) (hfab : s.dom 2 = true) :
    logSwrec v s = queueRec (firmwareRec v s) s := by
  simp only [logSwrec, if_pos (And.intro hlo hhi), logEvent, hfab, if_true, firmwareRec]

/-- Another type is an error (R301). -/
theorem logSwrec_of_other (h : fld v 14 6 < 0x20 ∨ 0x3B < fld v 14 6) : logSwrec v s = s.wb 0x7E001 17 true := by
  rw [logSwrec]
  exact if_neg (by omega)

/-- A queue with room takes the record at its place, and nothing else changes but the trace's trigger (R300, R304). -/
theorem queueRec_of_room (h : s.log.queue.length < 64) :
    queueRec r s = s.mapLog fun l => { l with queue := placeRec r l.queue, trPend := l.trPend || traceMatches s r } :=
  if_pos h

/-- A full queue drops the record and counts it (R300). -/
theorem queueRec_of_full (h : 64 ≤ s.log.queue.length) :
    queueRec r s = (s.bump 0x7E004).mapLog fun l =>
      { l with dropped := some (match l.dropped with | none => (r.mt, 1) | some (m, n) => (m, n + 1)) } :=
  if_neg (by omega)

/-- The Logbook's state is no register. -/
theorem rd_mapLog (f : Log → Log) (a : Nat) : (s.mapLog f).rd a = s.rd a := rfl

theorem wb_log (a i : Nat) (b : Bool) : (s.wb a i b).log = s.log := by rw [State.wb, mapCyc_log, wr_log]

theorem rb_wb_self (a : Nat) {i : Nat} (b : Bool) (hi : i < 20) : (s.wb a i b).rb a i = b := by
  rw [State.rb, rd_wb_self, tst_putBit_self _ _ hi]

end Records

/-- Settles O50: the bus reaches LOG_SWREC only while FABRIC is ready, and then the type and the room in the queue decide. -/
theorem firmwareRecordsAreQueued : Obligations.FirmwareRecordsAreQueued := by
  unfold Obligations.FirmwareRecordsAreQueued
  intro q v s h
  have hfab := fabricReady_of_admitted h rfl
  refine ⟨logSwrec v s, runs_access h rfl rfl, ?queued, ?dropped, ?refused⟩
  case queued =>
    rintro ⟨hlo, hhi⟩ hroom
    rw [logSwrec_of_firmware hlo hhi hfab, queueRec_of_room hroom]
    exact ⟨firmwareRec v s, recWords_firmwareRec, rfl, rfl, rfl⟩
  case dropped =>
    rintro ⟨hlo, hhi⟩ hfull
    rw [logSwrec_of_firmware hlo hhi hfab, queueRec_of_full hfull, rd_mapLog, rd_bump_self]
    exact ⟨rfl, rfl⟩
  case refused =>
    intro hother
    rw [logSwrec_of_other hother, wb_log, rb_wb_self _ _ (by omega)]
    exact ⟨rfl, rfl⟩

end Sys2Proof.Machine
end

section
/-! Sextant's two queues (R316, R317, R320): eight places each, taken by a submit and freed by a read of the completion word. -/
namespace Sys2Proof.Machine

/-- A command leads to a state however that state is written. -/
theorem Runs.congr {i : Instr} {s t u : State} (h : Runs i s t) (hu : t = u) : Runs i s u := hu ▸ h

section Submit
variable {q : Req} {a : Word} {s : State}

/-- Request addresses join the end of their queue (R316). -/
def submitted (bulk : Bool) (a : Word) (s : State) : State :=
  s.mapSxt fun x => if bulk then { x with q1 := x.q1 ++ [a] } else { x with q0 := x.q0 ++ [a] }

/-- A discarded submit leaves ovf and its count (R316). -/
def submitRefused (s : State) : State := (s.wb 0x72000 17 true).bump 0x72007

/-- A submit outside a power state is enqueued at once, or discarded, where Sextant and its memory are ready (R317). -/
theorem submitAccess_ready (hq : 0x20 ≤ q.toNat) (halive : s.dead = false) (hstate : s.pstate ≤ 1) (hready : sxtReady s = true)
    (bulk : Bool) (b : Nat) : submitAccess q.toNat b (sxtSubmit q.toNat bulk a) s = sxtEnqueue bulk a s := by
  rw [submitAccess_of_admitted halive (fun _ => hq) (by omega), sxtSubmit, if_pos hready]

theorem runs_submitInteractive (hq : 0x20 ≤ q.toNat) (halive : s.dead = false) (hstate : s.pstate ≤ 1)
    (hready : sxtReady s = true) : Runs (.sxtSubmitInteractive q a) s (sxtEnqueue false a s) :=
  congrArg _ (submitAccess_ready hq halive hstate hready false 0x72001)

theorem runs_submitBulk (hq : 0x20 ≤ q.toNat) (halive : s.dead = false) (hstate : s.pstate ≤ 1)
    (hready : sxtReady s = true) : Runs (.sxtSubmitBulk q a) s (sxtEnqueue true a s) :=
  congrArg _ (submitAccess_ready hq halive hstate hready true 0x72002)

/-- Below eight requests a queue takes another (R316). -/
theorem sxtEnqueue_of_room {bulk : Bool} (h : sxtCount bulk s < 8) : sxtEnqueue bulk a s = submitted bulk a s :=
  if_neg (by omega)

/-- At eight it refuses it (R316). -/
theorem sxtEnqueue_of_full {bulk : Bool} (h : 8 ≤ sxtCount bulk s) : sxtEnqueue bulk a s = submitRefused s := if_pos h

/-- A refusal leaves the queues, sets SXT_STATUS.ovf and counts in SXT_REFUSED_COUNT (R316). -/
theorem submitRefused_leaves (s : State) :
    (submitRefused s).sxt = s.sxt ∧ (submitRefused s).rb 0x72000 17 = true ∧ (submitRefused s).rd 0x72007 = s.rd 0x72007 + 1 := by
  refine ⟨?_, ?_, ?_⟩
  · rw [submitRefused, State.bump, wr_sxt, State.wb, mapCyc_sxt, wr_sxt]
  · rw [submitRefused, State.rb, rd_bump_ne _ _ (by omega), rd_wb_self, tst_putBit_self _ _ (by omega)]
  · rw [submitRefused, rd_bump_self, rd_wb_ne _ _ _ (by omega)]
    rfl

end Submit

section Done
variable {q : Req} {w d : Word} {r : List (Word × Word)} {s : State}

/-- The completion words of a queue that are still to be read (R320). -/
def doneWords (bulk : Bool) (s : State) : List (Word × Word) := if bulk then s.sxt.done1 else s.sxt.done0

/-- The completion words of a queue are replaced (R320). -/
def setDone (bulk : Bool) (r : List (Word × Word)) (s : State) : State :=
  s.mapSxt fun x => if bulk then { x with done1 := r } else { x with done0 := r }

/-- A read of SXT_DONEq takes the oldest completion word (R320). -/
theorem sxtDone_of_cons {bulk : Bool} (h : doneWords bulk s = (w, d) :: r) : sxtDone bulk s = (w, setDone bulk r s) := by
  rw [doneWords] at h
  simp only [sxtDone, h, setDone]

/-- A read of an empty one returns 0 (R320). -/
theorem sxtDone_of_nil {bulk : Bool} (h : doneWords bulk s = []) : sxtDone bulk s = (0, s) := by
  rw [doneWords] at h
  simp only [sxtDone, h]

/-- The register SXT_DONEq (R320). -/
def doneReg (bulk : Bool) : Nat := if bulk then 0x72004 else 0x72003

/-- An admitted read of SXT_DONEq is that read (R320). -/
theorem busRead_done {bulk : Bool} (h : Admitted q (doneReg bulk) false s) :
    busRead q.toNat (doneReg bulk) s = sxtDone bulk s := by
  rw [busRead_of_admitted h]
  cases bulk <;> rfl

/-- SXT_DONE_READ leaves what the read leaves (R320). -/
theorem runs_doneRead {bulk : Bool} (h : Admitted q (doneReg bulk) false s) :
    Runs (.sxtDoneRead q bulk) s (sxtDone bulk s).2 := runs_access h rfl rfl

/-- The place of a completion word that has been read is free (R316, R320). -/
theorem sxtCount_setDone {bulk : Bool} (h : doneWords bulk s = (w, d) :: r) :
    sxtCount bulk (setDone bulk r s) + 1 = sxtCount bulk s := by
  cases bulk <;> simp_all [doneWords, setDone, sxtCount] <;> omega

/-- A read of SXT_DONEq with a word in it, whole. -/
theorem doneRead_of_cons {bulk : Bool} (hwords : doneWords bulk s = (w, d) :: r) (h : Admitted q (doneReg bulk) false s) :
    ∃ t, busRead q.toNat (doneReg bulk) s = (w, t) ∧ Runs (.sxtDoneRead q bulk) s t ∧ t = setDone bulk r s ∧
      sxtCount bulk t + 1 = sxtCount bulk s := by
  have hruns := runs_doneRead h
  rw [sxtDone_of_cons hwords] at hruns
  exact ⟨setDone bulk r s, (busRead_done h).trans (sxtDone_of_cons hwords), hruns, rfl, sxtCount_setDone hwords⟩

/-- A read of an empty SXT_DONEq. -/
theorem doneRead_of_nil {bulk : Bool} (hwords : doneWords bulk s = []) (h : Admitted q (doneReg bulk) false s) :
    busRead q.toNat (doneReg bulk) s = (0, s) :=
  (busRead_done h).trans (sxtDone_of_nil hwords)

end Done

/-- Settles O49: a submit by the room in its queue, and a read by the completion words of its queue. -/
theorem sextantQueuesHoldEight : Obligations.SextantQueuesHoldEight := by
  unfold Obligations.SextantQueuesHoldEight
  refine ⟨?submits, ?reads⟩
  case submits =>
    intro q a s hq halive hstate hready
    have interactive := runs_submitInteractive (a := a) hq halive hstate hready
    have bulk := runs_submitBulk (a := a) hq halive hstate hready
    exact ⟨fun h => interactive.congr (sxtEnqueue_of_room h), fun h => bulk.congr (sxtEnqueue_of_room h),
      fun h => ⟨submitRefused s, interactive.congr (sxtEnqueue_of_full h), submitRefused_leaves s⟩,
      fun h => ⟨submitRefused s, bulk.congr (sxtEnqueue_of_full h), submitRefused_leaves s⟩⟩
  case reads =>
    exact fun q w d r s => ⟨fun hwords h => doneRead_of_cons (bulk := false) hwords h,
      fun hwords h => doneRead_of_cons (bulk := true) hwords h, fun hwords h => doneRead_of_nil (bulk := false) hwords h,
      fun hwords h => doneRead_of_nil (bulk := true) hwords h⟩

end Sys2Proof.Machine
end

section
/-! The exam lock, Cupola's frames and the host FIFOs: what each effect leaves in the registers and in the state of its block. -/
namespace Sys2Proof.Machine

section RegistersAside
variable {s t : State}

/-- What is no register and no record of the cycle stays where only those change. -/
theorem RegistersOnly.mem (h : RegistersOnly s t) : t.mem = s.mem := by rw [h.frame]
theorem RegistersOnly.key (h : RegistersOnly s t) : t.key = s.key := by rw [h.frame]
theorem RegistersOnly.cup (h : RegistersOnly s t) : t.cup = s.cup := by rw [h.frame]
theorem RegistersOnly.host (h : RegistersOnly s t) : t.host = s.host := by rw [h.frame]
theorem RegistersOnly.pwr (h : RegistersOnly s t) : t.pwr = s.pwr := by rw [h.frame]

theorem rd_mapKey (s : State) (f : Key → Key) (a : Nat) : (s.mapKey f).rd a = s.rd a := rfl
theorem rd_mapCup (s : State) (f : Cup → Cup) (a : Nat) : (s.mapCup f).rd a = s.rd a := rfl
theorem rd_mapHostif (s : State) (f : Hostif → Hostif) (a : Nat) : (s.mapHostif f).rd a = s.rd a := rfl

/-- The end of the host's frame is no matter of a register (R365). -/
theorem rd_endFrame (s : State) (a : Nat) : (endFrame s).rd a = s.rd a := rfl

end RegistersAside

section ExamLock
variable {s : State}

/-- What the registers of a state that is being locked take: the entries dropped from the change FIFO are counted, and the lock is
set (R353). -/
def lockRegisters (s : State) : State := (s.bump 0x71824 s.key.fifo.length).wb 0x71822 0 true

theorem lockRegisters_registersOnly (s : State) : RegistersOnly s (lockRegisters s) :=
  ((RegistersOnly.refl s).bump ..).wb ..

theorem setLock_of_armable (h : armable s = true) :
    setLock s = (lockRegisters s).mapKey fun k =>
      { k with fifo := [], pos := if examLock s then k.pos else 0, waking := 0 } := by
  simp only [setLock, h, lockRegisters, Bool.not_true, Bool.false_eq_true, if_false]

theorem setLock_of_not_armable (h : armable s = false) : setLock s = keyCfgErr s := by
  simp only [setLock, h, Bool.not_false, if_true]

/-- A sequence of one to eight keys can be armed (R353, R355). -/
theorem armable_iff : armable s = true ↔ 1 ≤ s.rf 0x71823 0 4 ∧ s.rf 0x71823 0 4 ≤ 8 := by
  simp only [armable, Bool.and_eq_true, decide_eq_true_eq]

theorem rb_lock_lockRegisters (s : State) : (lockRegisters s).rb 0x71822 0 = true := rb_wb_self _ _ (by omega)

theorem rd_dropCount_lockRegisters (s : State) :
    (lockRegisters s).rd 0x71824 = s.rd 0x71824 + BitVec.ofNat 20 s.key.fifo.length := by
  rw [lockRegisters, rd_wb_ne _ _ _ (by omega), rd_bump_self]

/-- Setting the lock empties the change FIFO, counts what it held, and turns the calculator on (R323, R353). -/
theorem setLock_locks (h : armable s = true) :
    examLock (setLock s) = true ∧ (setLock s).key.fifo = [] ∧ calcActive (setLock s) = true ∧
      (setLock s).rd 0x71824 = s.rd 0x71824 + BitVec.ofNat 20 s.key.fifo.length ∧
      (setLock s).key.accepted = s.key.accepted ∧ (setLock s).mem = s.mem := by
  have hlock : (setLock s).rb 0x71822 0 = true := by
    rw [setLock_of_armable h, State.rb, rd_mapKey]
    exact rb_lock_lockRegisters s
  refine ⟨hlock, ?_, by rw [calcActive, hlock, Bool.or_true], ?_, ?_, ?_⟩ <;> rw [setLock_of_armable h]
  · rw [mapKey_key]
  · rw [rd_mapKey, rd_dropCount_lockRegisters]
  · rw [mapKey_key, (lockRegisters_registersOnly s).key]
  · rw [mapKey_mem, (lockRegisters_registersOnly s).mem]

/-- Without a sequence the lock stays, and KEY_STATUS.cfg_err shows it (R353, R356). -/
theorem setLock_refuses (h : armable s = false) :
    (setLock s).key = s.key ∧ examLock (setLock s) = examLock s ∧ (setLock s).rb 0x71802 13 = true := by
  rw [setLock_of_not_armable h, keyCfgErr]
  exact ⟨((RegistersOnly.refl s).wb ..).key, rb_wb_ne s true (.inl (by omega)), rb_wb_self _ _ (by omega)⟩

/-- LOCK_SET sets the lock, whichever way it comes; through the host's window it ends the host's frame (R353, R366). -/
theorem runs_lockSet {host : Bool} {q : Req} {v : Word} (hhost : host = true → windowOn s = true ∧ tst v 0 = true)
    (hbus : host = false → Admitted q 0x71822 true s ∧ tst v 1 = true) :
    Runs (.lockSet host q v) s (setLock (if host then endFrame s else s)) := by
  cases host with
  | true =>
    obtain ⟨hon, hset⟩ := hhost rfl
    exact runs_lockSet_host hon hset
  | false =>
    obtain ⟨hadm, hset⟩ := hbus rfl
    have hwrite : keyWrite q.toNat 0x71822 v s = setLock s := by
      rw [keyWrite, if_neg (by omega), if_neg (by omega), if_pos rfl, if_pos hset]
    exact (runs_lockSet_bus hadm).congr hwrite

end ExamLock

/-- Settles O52: LOCK_SET is `setLock` on a state whose keys, registers and memory are those of s, which locks where a sequence can
be armed and refuses otherwise. -/
theorem settingTheExamLock : Obligations.SettingTheExamLock := by
  unfold Obligations.SettingTheExamLock
  intro host q v s hhost hbus
  have hruns := runs_lockSet hhost hbus
  obtain ⟨u, hu, hkey, hmem, hrd⟩ : ∃ u, u = (if host then endFrame s else s) ∧ u.key = s.key ∧ u.mem = s.mem ∧
      ∀ a, u.rd a = s.rd a := by
    cases host
    · exact ⟨s, rfl, rfl, rfl, fun _ => rfl⟩
    · exact ⟨endFrame s, rfl, rfl, rfl, rd_endFrame s⟩
  have hlen : u.rf 0x71823 0 4 = s.rf 0x71823 0 4 := congrArg (fld · 0 4) (hrd _)
  refine ⟨setLock u, hu ▸ hruns, fun hlo hhi => ?locks, fun hbad => ?refuses⟩
  case locks =>
    have harmable : armable u = true := by
      rw [armable_iff, hlen]
      exact ⟨hlo, hhi⟩
    have h := setLock_locks harmable
    rwa [hkey, hmem, hrd] at h
  case refuses =>
    have hunarmed : armable u = false := by
      rw [Bool.eq_false_iff, Ne, armable_iff, hlen]
      omega
    have h := setLock_refuses hunarmed
    rwa [hkey, examLock.eq_def u, State.rb, hrd] at h

section Frames
variable {s : State}

/-- The frame that begins copies the image: it is a second one, and freeze is 0 (R360). -/
def frameCopies (s : State) : Bool := s.cup.second && !s.rb 0x71C00 3

/-- The registers at the end of a frame: the frame is counted, and a copy shows in CUP_STATUS (R357, R360). -/
def frameRegisters (s : State) : State :=
  if frameCopies s then (s.bump 0x71C03).wb 0x71C02 18 true else s.bump 0x71C03

/-- Cupola's own state at the end of a frame (R357, R360). -/
def nextCup (s : State) : Cup :=
  { s.cup with frameAt := s.mt, polarity := !s.cup.polarity, second := !s.cup.second,
               latch := if frameCopies s then displayWords s else s.cup.latch }

theorem wb_mapCup (f : Cup → Cup) (a i : Nat) (b : Bool) : (s.mapCup f).wb a i b = (s.wb a i b).mapCup f := by
  rw [State.wb, rd_mapCup]
  rfl

theorem mapCup_congr {f g : Cup → Cup} (h : f s.cup = g s.cup) : s.mapCup f = s.mapCup g := by
  rw [State.mapCup, State.mapCup, h]

/-- The end of a frame changes Cupola's state and its registers, and nothing else (R357, R360). -/
theorem frameEnd_eq (s : State) : frameEnd s = (frameRegisters s).mapCup fun _ => nextCup s := by
  have hcopies : (s.cup.second && !s.rb 0x71C00 3) = frameCopies s := rfl
  simp only [frameEnd, hcopies, frameRegisters, nextCup, wb_mapCup]
  cases frameCopies s
  · simp only [Bool.false_eq_true, if_false]
    exact mapCup_congr (by rw [State.bump, wr_cup])
  · simp only [if_true]
    exact mapCup_congr (by rw [State.wb, mapCyc_cup, wr_cup, State.bump, wr_cup])

theorem frameRegisters_registersOnly (s : State) : RegistersOnly s (frameRegisters s) := by
  unfold frameRegisters
  split
  · exact ((RegistersOnly.refl s).bump ..).wb ..
  · exact (RegistersOnly.refl s).bump ..

theorem rd_frameRegisters_ne {a : Nat} (hcount : a ≠ 0x71C03) (hstatus : a ≠ 0x71C02) :
    (frameRegisters s).rd a = s.rd a := by
  unfold frameRegisters
  split
  · rw [rd_wb_ne _ _ _ hstatus, rd_bump_ne _ _ hcount]
  · rw [rd_bump_ne _ _ hcount]

theorem rd_frameCount (s : State) : (frameRegisters s).rd 0x71C03 = s.rd 0x71C03 + 1 := by
  unfold frameRegisters
  split
  · rw [rd_wb_ne _ _ _ (by omega), rd_bump_self]
    rfl
  · rw [rd_bump_self]
    rfl

/-- Of CUP_STATUS a frame changes the mark of a copy alone (R360, R362). -/
theorem rb_cupStatus_ne {i : Nat} (hi : i ≠ 18) : (frameRegisters s).rb 0x71C02 i = s.rb 0x71C02 i := by
  unfold frameRegisters
  split
  · rw [rb_wb_ne _ _ (.inr hi), State.rb, rd_bump_ne _ _ (by omega), State.rb]
  · rw [State.rb, rd_bump_ne _ _ (by omega), State.rb]

theorem rb_copied (h : frameCopies s = true) : (frameRegisters s).rb 0x71C02 18 = true := by
  rw [frameRegisters, if_pos h, rb_wb_self _ _ (by omega)]

theorem rd_frameEnd (s : State) (a : Nat) : (frameEnd s).rd a = (frameRegisters s).rd a := by rw [frameEnd_eq, rd_mapCup]

theorem rb_frameEnd (s : State) (a i : Nat) : (frameEnd s).rb a i = (frameRegisters s).rb a i := by
  rw [State.rb, rd_frameEnd, State.rb]

theorem cup_frameEnd (s : State) : (frameEnd s).cup = nextCup s := by rw [frameEnd_eq, mapCup_cup]

theorem pwr_frameEnd (s : State) : (frameEnd s).pwr = s.pwr := by
  rw [frameEnd_eq, mapCup_pwr, (frameRegisters_registersOnly s).pwr]

/-- Whether frames run is a matter of PWR_STATUS, the entry under way, CUP_CTRL.en and CUP_STATUS.pump_ok (R357, R358). -/
theorem framesRun_congr {s t : State} (hpower : t.rd 0x70800 = s.rd 0x70800) (hpwr : t.pwr = s.pwr)
    (hctrl : t.rd 0x71C00 = s.rd 0x71C00) (hpump : t.rb 0x71C02 19 = s.rb 0x71C02 19) : framesRun t = framesRun s := by
  have hblock : t.blockStopped 6 = s.blockStopped 6 := by simp only [State.blockStopped, hpwr]
  have hdom : t.dom 5 = s.dom 5 := congrArg (tst · 11) hpower
  have hstate : t.pstate = s.pstate := congrArg (fld · 17 3) hpower
  have hen : t.rb 0x71C00 0 = s.rb 0x71C00 0 := congrArg (tst · 0) hctrl
  rw [framesRun, framesRun, State.ifaceOn, State.ifaceOn, hblock, hpump, hdom, hstate, hen]

/-- Frames go on (R357). -/
theorem framesRun_frameEnd (s : State) : framesRun (frameEnd s) = framesRun s := by
  refine framesRun_congr ?_ (pwr_frameEnd s) ?_ ?_
  · rw [rd_frameEnd, rd_frameRegisters_ne (by omega) (by omega)]
  · rw [rd_frameEnd, rd_frameRegisters_ne (by omega) (by omega)]
  · rw [rb_frameEnd, rb_cupStatus_ne (by omega)]

theorem runs_cupolaFrame (h : framesRun s = true) : Runs .cupolaFrame s (frameEnd s) := runs_gated rfl h

end Frames

/-- Settles O56: a frame that runs ends as `frameEnd_eq` says, and none runs without en and pump_ok. -/
theorem cupolaFramesAlternate : Obligations.CupolaFramesAlternate := by
  unfold Obligations.CupolaFramesAlternate
  refine ⟨fun s hon => ?frame, fun s hoff => ?still⟩
  case frame =>
    have hnext : framesRun (frameEnd s) = true := (framesRun_frameEnd s).trans hon
    refine ⟨frameEnd s, runs_cupolaFrame hon, ?_, ?_, ?_, ?copied, ?kept, hnext, ?back⟩
    · rw [cup_frameEnd, nextCup]
    · rw [cup_frameEnd, nextCup]
    · rw [rd_frameEnd, rd_frameCount]
    case copied =>
      intro hsecond hthaw
      have hcopies : frameCopies s = true := by rw [frameCopies, hsecond, hthaw]; rfl
      rw [cup_frameEnd, nextCup, if_pos hcopies, rb_frameEnd]
      exact ⟨rfl, rb_copied hcopies⟩
    case kept =>
      intro hkeep
      have hcopies : frameCopies s = false := by
        rw [frameCopies]
        obtain hfirst | hfrozen := hkeep
        · rw [hfirst, Bool.false_and]
        · rw [hfrozen, Bool.not_true, Bool.and_false]
      rw [cup_frameEnd, nextCup, hcopies, if_neg Bool.false_ne_true]
    case back =>
      intro u hu
      rw [hu.unique (runs_cupolaFrame hnext), cup_frameEnd, nextCup, cup_frameEnd, nextCup, Bool.not_not]
  case still =>
    refine runs_still (t := frameEnd s) rfl ?_
    rw [framesRun]
    obtain hen | hpump := hoff
    · rw [hen, Bool.and_false, Bool.false_and]
    · rw [hpump, Bool.and_false]

end Sys2Proof.Machine
end

section
/-! The host FIFOs (R368, R371, R372): what the host's reads, writes and flushes leave of HOSTIF, while its window is on. -/
namespace Sys2Proof.Machine

section Errors
variable {s : State} {bit ctr : Nat}

theorem hwIrq_registersOnly (k : Nat) (s : State) : RegistersOnly s (hwIrq k s) :=
  ((RegistersOnly.refl s).wb ..).bump ..

/-- An error of the host's is one of registers (R368). -/
theorem hostError_registersOnly (bit ctr : Nat) (s : State) : RegistersOnly s (hostError bit ctr s) :=
  ((((RegistersOnly.refl s).wb ..).bump ..).wb ..).bump ..

/-- HW_IRQ and the counters of its causes aside, a register is as it was (R368, R385). -/
theorem rd_hwIrq_ne {k a : Nat} (hirq : a ≠ 0x100003) (hcount : a ≠ 0x71010 + k) : (hwIrq k s).rd a = s.rd a := by
  rw [hwIrq, rd_bump_ne _ _ hcount, rd_wb_ne _ _ _ hirq]

/-- The flag of an error reads 1 in HW_STATUS (R368). -/
theorem rb_hostError (hbit : bit < 20) (hctr : ctr < 16) : (hostError bit ctr s).rb 0x100002 bit = true := by
  rw [hostError, State.rb, rd_hwIrq_ne (by omega) (by omega), rd_bump_ne _ _ (by omega)]
  exact rb_wb_self _ _ hbit

end Errors

section Transmit
variable {s : State} {v : Word}

/-- The host's frame is over at every new transaction (R365). -/
theorem host_endFrame (s : State) : (endFrame s).host = { s.host with frame := none } := by rw [endFrame, mapHostif_host]

theorem reg_endFrame (s : State) : (endFrame s).reg = s.reg := by rw [endFrame, mapHostif_reg]

/-- A word joins a transmit FIFO that has room (R371). -/
theorem txPush_of_room (h : s.host.tx.length < 64) :
    txPush v s = s.mapHostif fun h => { h with tx := h.tx ++ [v] } := if_neg (by omega)

/-- A full one leaves it out and shows tx_ovf (R371). -/
theorem txPush_of_full (h : 64 ≤ s.host.tx.length) : txPush v s = hostError 10 12 s := if_pos h

/-- A flushed transmit FIFO holds no word, and no part of a packet (R372). -/
theorem host_txFlush (s : State) : (txFlush s).host = { s.host with tx := [], part := [] } := by
  unfold txFlush txSet
  simp only []
  split
  · rw [mapHostif_host, (hwIrq_registersOnly 1 _).host, mapHostif_host]
  · rw [mapHostif_host, mapHostif_host]

theorem runs_txDataWrite (hon : windowOn s = true) : Runs (.txDataWrite v) s (txPush v (endFrame s)) := runs_gated rfl hon

end Transmit

section Receive
variable {s : State} {w : Word} {r : List Word}

/-- Without a staged reply nothing is placed (R382). -/
theorem placeStaged_of_none (h : s.host.staged = none) : placeStaged s = s := by rw [placeStaged, h]

/-- The oldest word of the receive FIFO leaves it (R371). -/
theorem rxPop_of_cons (hrx : s.host.rx = w :: r) (hstaged : s.host.staged = none) :
    rxPop s = (w, s.mapHostif fun h => { h with rx := r }) := by
  have hnone : (s.mapHostif fun h => { h with rx := r }).host.staged = none := by rw [mapHostif_host, hstaged]
  rw [rxPop, hrx]
  exact congrArg _ (placeStaged_of_none hnone)

/-- An empty one gives 0 and shows rx_unf (R371). -/
theorem rxPop_of_nil (hrx : s.host.rx = []) : rxPop s = (0, hostError 9 13 s) := by rw [rxPop, hrx]

/-- A single read of HW_RX_DATA shows the word that is popped (R365, R371). -/
theorem hostRead_rxData (s : State) :
    hostRead { cmd := 0x87, first := true } s = hostShown (rxPop s).1 (rxPop s).2 := by
  change hostShown (s.host.rx.headD 0) (if !s.host.rx.isEmpty then (rxPop s).2 else hostError 9 13 s) = _
  cases hrx : s.host.rx with
  | nil => rw [rxPop_of_nil hrx]; rfl
  | cons w r => simp [rxPop, hrx]

theorem host_hostShown (w : Word) (s : State) : (hostShown w s).host = { s.host with shown := w, frame := none } := by
  rw [hostShown, mapHostif_host]

theorem rd_hostShown (w : Word) (s : State) (a : Nat) : (hostShown w s).rd a = s.rd a := rfl

theorem reg_hostShown (w : Word) (s : State) : (hostShown w s).reg = s.reg := by rw [hostShown, mapHostif_reg]

/-- RX_DATA_READ shows the host the word that is popped (R371). -/
theorem runs_rxDataRead (hon : windowOn s = true) : Runs .rxDataRead s (hostShown (rxPop s).1 (rxPop s).2) :=
  Runs.congr (runs_gated (t := hostRead { cmd := 0x87, first := true } s) rfl hon) (hostRead_rxData s)

/-- The reply that has been placed in part is over (R372). -/
theorem host_endReply (s : State) :
    (endReply s).host = { s.host with replies := s.host.replies.drop 1, placing := false } := by
  unfold endReply
  simp only []
  split
  · rw [replied, ((RegistersOnly.refl _).wb ..).host, mapHostif_host]
  · rw [mapHostif_host]

/-- The receive FIFO holds no word. -/
def rxEmptied (s : State) : State := s.mapHostif fun h => { h with rx := [] }

/-- A flush empties the receive FIFO, drops the rest of a reply that is placed in part, and gives a staged one its turn (R372,
R382). -/
theorem rxFlush_eq (s : State) :
    rxFlush s = placeStaged (if s.host.placing then endReply (rxEmptied s) else rxEmptied s) := rfl

/-- A flushed receive FIFO holds no word, and what was left of a reply is gone (R372). -/
theorem host_rxFlush (hstaged : s.host.staged = none) :
    (rxFlush s).host =
      { s.host with rx := [], placing := false,
                    replies := if s.host.placing then s.host.replies.drop 1 else s.host.replies } := by
  rw [rxFlush_eq]
  cases hplacing : s.host.placing
  · rw [if_neg Bool.false_ne_true, if_neg Bool.false_ne_true, placeStaged_of_none (s := rxEmptied s) hstaged,
      rxEmptied, mapHostif_host, ← hplacing]
  · rw [if_pos rfl, if_pos rfl, placeStaged_of_none (by rw [host_endReply]; exact hstaged), host_endReply, rxEmptied,
      mapHostif_host]

end Receive

/-- Settles O51: a write by the room in the transmit FIFO, a read by what the receive FIFO holds, and the flushes by what they leave
of HOSTIF. -/
theorem hostFifosOverflowUnderflowAndFlush : Obligations.HostFifosOverflowUnderflowAndFlush := by
  unfold Obligations.HostFifosOverflowUnderflowAndFlush
  intro s hon
  have htx : (endFrame s).host.tx = s.host.tx := by rw [host_endFrame]
  refine ⟨?write, ?overflow, ?read, ?underflow, ?txFlush, ?rxFlush⟩
  case write =>
    intro v hroom
    refine ⟨_, (runs_txDataWrite hon).congr (txPush_of_room (htx ▸ hroom)), ?_, ?_⟩
    · rw [mapHostif_host, host_endFrame]
    · rw [mapHostif_reg, reg_endFrame]
  case overflow =>
    intro v hfull
    refine ⟨_, (runs_txDataWrite hon).congr (txPush_of_full (htx ▸ hfull)), ?_, rb_hostError (by omega) (by omega)⟩
    rw [(hostError_registersOnly ..).host, host_endFrame]
  case read =>
    intro w r hrx hstaged
    have hpop := rxPop_of_cons hrx hstaged
    have hruns := runs_rxDataRead hon
    rw [hpop] at hruns
    refine ⟨_, _, hpop, mapHostif_host .., hruns, ?_, ?_, mapHostif_reg ..⟩
    · rw [host_hostShown, mapHostif_host]
    · rw [reg_hostShown, mapHostif_reg]
  case underflow =>
    intro hrx
    have hpop := rxPop_of_nil hrx
    have hruns := runs_rxDataRead hon
    rw [hpop] at hruns
    refine ⟨_, _, hpop, (hostError_registersOnly ..).host, rb_hostError (by omega) (by omega), hruns, ?_, ?_⟩
    · rw [host_hostShown, (hostError_registersOnly ..).host]
    · rw [State.rb, rd_hostShown]
      exact rb_hostError (by omega) (by omega)
  case txFlush =>
    refine ⟨txFlush (endFrame s), runs_gated rfl hon, ?_⟩
    rw [host_txFlush, host_endFrame]
    exact ⟨rfl, rfl, rfl, rfl, rfl, rfl⟩
  case rxFlush =>
    intro hstaged
    refine ⟨rxFlush (endFrame s), runs_gated rfl hon, ?_⟩
    rw [host_rxFlush (by rw [host_endFrame, hstaged]), host_endFrame]
    exact ⟨rfl, rfl, rfl, rfl, rfl, rfl⟩

end Sys2Proof.Machine
end

section
/-! The checks of R377 in their order, and what a packet that fails one leaves: its answer, and HOSTIF's own state (R374 to R379). -/
namespace Sys2Proof.Machine

section PacketCommands
variable {i : Instr} {st : Stream} {op : Nat}

/-- A packet's command is the row of its opcode (R386). -/
theorem exec_packetCommand (h : packetCommand i = some (st, op)) : ∃ act, ∀ s, exec i s = packetRow op act st s := by
  unfold packetCommand at h
  split at h
  all_goals cases h
  all_goals exact ⟨_, fun _ => rfl⟩

/-- The row of a packet that fails a check answers it (R377). -/
theorem runs_packetCommand_of_fails {p : Packet} {x : Nat × Nat} {s : State} (hi : packetCommand i = some (st, op))
    (hserves : helm1Serves s = true) (hfree : waitOn st.1 s = none) (hfirst : firstTaken st.1 s = some p) (hmine : p.op = op)
    (hclear : packetBlocked p s = false) (hfails : checkPacket p s = some x) :
    Runs i s (respond p x.1 x.2 [] (takenUp p s)) := by
  obtain ⟨act, hexec⟩ := exec_packetCommand hi
  exact (runs_packetRow (hexec s) hserves hfree hfirst hmine hclear).congr (servePacket_of_fails hfails)

end PacketCommands

section HostLink
variable {s t : State}

/-- t is s but for registers, the record of the present cycle and HOSTIF's own state. -/
structure HostLinkOnly (s t : State) : Prop where
  frame : t = { s with reg := t.reg, cyc := t.cyc, host := t.host }

theorem HostLinkOnly.refl (s : State) : HostLinkOnly s s := ⟨rfl⟩

theorem HostLinkOnly.mapHostif (h : HostLinkOnly s t) (f : Hostif → Hostif) : HostLinkOnly s (t.mapHostif f) where
  frame := congrArg (fun u => { u with host := f t.host }) h.frame

theorem HostLinkOnly.wr (h : HostLinkOnly s t) (a : Nat) (v : Word) : HostLinkOnly s (t.wr a v) where
  frame := congrArg (fun u => { u with reg := update regReset t.reg a v }) h.frame

theorem HostLinkOnly.wb (h : HostLinkOnly s t) (a i : Nat) (b : Bool) : HostLinkOnly s (t.wb a i b) where
  frame := congrArg (fun u => { u with cyc := (t.wb a i b).cyc }) (h.wr a (putBit (t.rd a) i b)).frame

theorem HostLinkOnly.hwIrq (h : HostLinkOnly s t) (k : Nat) : HostLinkOnly s (hwIrq k t) := (h.wb ..).wr ..

/-- The answer to a packet stays in HOSTIF, with its stream's stop (R375, R379). -/
theorem HostLinkOnly.respond (h : HostLinkOnly s t) (p : Packet) (code det : Nat) (data : List Word) :
    HostLinkOnly s (respond p code det data t) := by
  unfold Machine.respond stopStream
  simp only []
  split
  · exact h.mapHostif _
  · split
    · exact h.mapHostif _
    · exact (((h.mapHostif _).wb ..).mapHostif _).hwIrq _

/-- So does the advance of the expected sequence (R379). -/
theorem hostLinkOnly_takenUp (p : Packet) (s : State) : HostLinkOnly s (takenUp p s) := by
  unfold takenUp advanceExpect
  split
  · exact ((HostLinkOnly.refl s).mapHostif _).mapHostif _
  · exact (HostLinkOnly.refl s).mapHostif _

/-- Nothing of a packet is carried out where only HOSTIF and registers change. -/
theorem HostLinkOnly.nothing_carried_out (h : HostLinkOnly s t) :
    t.mem = s.mem ∧ t.bank = s.bank ∧ t.procs = s.procs ∧ t.cells = s.cells ∧ t.chans = s.chans ∧ t.claims = s.claims ∧
      t.policy = s.policy := by
  rw [h.frame]
  exact ⟨rfl, rfl, rfl, rfl, rfl, rfl, rfl⟩

end HostLink

section Checks
variable {p : Packet} {s : State}

/-- The CRC comes first (R377). -/
theorem checkPacket_of_badCrc (hcrc : p.crcOk = false) : checkPacket p s = some (0x03, 0) := by simp [checkPacket, hcrc]

/-- HELLO passes with its CRC (R377, R381). -/
theorem checkPacket_hello (hcrc : p.crcOk = true) (hop : p.op = 0x01) : checkPacket p s = none := by
  simp [checkPacket, hcrc, hop]

/-- A stopped stream takes RESUME alone (R377, R380). -/
theorem checkPacket_of_stopped (hcrc : p.crcOk = true) (hop : p.op ≠ 0x01) (hstopped : streamStopped p.stream s = true) :
    checkPacket p s = if p.op = 0x0A then none else some (0x01, vget 0 s.host.stopSeq p.stream) := by
  simp [checkPacket, hcrc, hop, hstopped]

/-- A stream that runs asks for its sequence (R377). -/
theorem checkPacket_of_badSequence (hcrc : p.crcOk = true) (hop : p.op ≠ 0x01) (hruns : streamStopped p.stream s = false)
    (hseq : p.seq ≠ expected p.stream s) : checkPacket p s = some (0x04, expected p.stream s) := by
  simp [checkPacket, hcrc, hop, hruns, hseq]

/-- What is left to check in a packet of the expected sequence: its version, its opcode and its count (R377). -/
theorem checkPacket_of_sequence (hcrc : p.crcOk = true) (hop : p.op ≠ 0x01) (hruns : streamStopped p.stream s = false)
    (hseq : p.seq = expected p.stream s) : checkPacket p s =
      if p.ver = 0 ∨ s.rf 0x71003 14 4 < p.ver then some (0x05, s.rf 0x71003 14 4)
      else if !opCarried p.op p.ver then some (0x02, 0)
      else if !countOk p.op p.params.length then some (0x06, p.params.length)
      else none := by
  simp [checkPacket, hcrc, hop, hruns, hseq]

/-- A packet of the expected sequence takes its stream to the next, modulo 64 (R379). -/
theorem expected_advanceExpect (hcrc : p.crcOk = true) (hop : p.op ≠ 0x01) (hruns : streamStopped p.stream s = false)
    (hseq : p.seq = expected p.stream s) (hstream : p.stream < 4) :
    expected p.stream (advanceExpect p s) = (expected p.stream s + 1) % 64 := by
  have hadvance : advanceExpect p s = setExpect p.stream (p.seq + 1) s := by simp [advanceExpect, hcrc, hop, hruns, hseq]
  rw [hadvance, expected, setExpect, mapHostif_host, vget_vset_self _ _ _ hstream, hseq]

end Checks

/-- Settles O58: the row of a packet that fails answers it by `servePacket_of_fails`, which stays in HOSTIF, and the checks are
read off `checkPacket` in their order. -/
theorem packetsThatFailACheckAreAnswered : Obligations.PacketsThatFailACheckAreAnswered := by
  unfold Obligations.PacketsThatFailACheckAreAnswered
  refine ⟨?answered, ?checks⟩
  case answered =>
    intro i st op p x s hi hserves hfree hfirst hmine hclear hfails
    exact ⟨_, runs_packetCommand_of_fails hi hserves hfree hfirst hmine hclear hfails, rfl,
      ((hostLinkOnly_takenUp p s).respond p x.1 x.2 []).nothing_carried_out⟩
  case checks =>
    intro p s
    refine ⟨checkPacket_of_badCrc, checkPacket_hello, checkPacket_of_stopped, fun hcrc hop hruns =>
      ⟨checkPacket_of_badSequence hcrc hop hruns, fun hseq => ?sequence⟩⟩
    have hchecks := checkPacket_of_sequence hcrc hop hruns hseq
    refine ⟨expected_advanceExpect hcrc hop hruns hseq, fun hver => ?version, fun hlo hhi hcarried => ?opcode,
      fun hlo hhi hcarried hcount => ?count⟩
    case version => rw [hchecks, if_pos hver]
    case opcode =>
      rw [hchecks, if_neg (by omega), hcarried]
      rfl
    case count =>
      rw [hchecks, if_neg (by omega), hcarried, hcount]
      rfl

end Sys2Proof.Machine
end

section
/-! Settling the Sextant encoding (R306, R307). A number's five words read back what they were written from: each
declet its three digits, words 1 to 4 the coefficient, word 0 the exponent, the class and the sign; and a coefficient in
normal form has 24 digits, or as many as the smallest exponent allows. -/
namespace Sys2Proof.Machine

/-- The densely packed decimal table, digit by digit: three digits decode from their canonical declet. -/
theorem decletVal_decletOf_digits : ∀ x < 10, ∀ y < 10, ∀ z < 10,
    decletVal (decletOf (x * 100 + y * 10 + z)) = x * 100 + y * 10 + z ∧ decletOf (x * 100 + y * 10 + z) < 1024 := by
  decide +kernel

/-- A number below 1000 has a declet of 10 bits, which decodes to it. -/
theorem decletOf_lt_and_decletVal {n : Nat} (hn : n < 1000) :
    decletOf n < 1024 ∧ decletVal (decletOf n) = n := by
  have hdigits : n / 100 * 100 + n / 10 % 10 * 10 + n % 10 = n := by omega
  have h := decletVal_decletOf_digits (n / 100) (by omega) (n / 10 % 10) (by omega) (n % 10) (by omega)
  rw [hdigits] at h
  exact ⟨h.2, h.1⟩

/-- The word of six digits: their two declets. -/
def groupWord (g : Nat) : Word := BitVec.ofNat 20 (decletOf (g / 1000) * 1024 + decletOf (g % 1000))

/-- The six digits of a word. -/
def groupVal (w : Word) : Nat := decletVal (w.toNat / 1024) * 1000 + decletVal (w.toNat % 1024)

theorem groupVal_groupWord {g : Nat} (hg : g < 1000000) : groupVal (groupWord g) = g := by
  obtain ⟨hhi, hhiVal⟩ := decletOf_lt_and_decletVal (n := g / 1000) (by omega)
  obtain ⟨hlo, hloVal⟩ := decletOf_lt_and_decletVal (n := g % 1000) (by omega)
  have hword : (groupWord g).toNat = decletOf (g / 1000) * 1024 + decletOf (g % 1000) := by
    rw [groupWord, BitVec.toNat_ofNat, Nat.mod_eq_of_lt (by omega)]
  have hhiPart : (groupWord g).toNat / 1024 = decletOf (g / 1000) := by omega
  have hloPart : (groupWord g).toNat % 1024 = decletOf (g % 1000) := by omega
  rw [groupVal, hhiPart, hloPart, hhiVal, hloVal]
  omega

theorem coefWords_eq (c : Nat) : coefWords c =
    [groupWord (c / 10 ^ 0 % 1000000), groupWord (c / 10 ^ 6 % 1000000), groupWord (c / 10 ^ 12 % 1000000),
      groupWord (c / 10 ^ 18 % 1000000)] := rfl

theorem coefOf_eq (w0 w1 w2 w3 w4 : Word) : coefOf [w0, w1, w2, w3, w4] =
    ((groupVal w4 * 1000000 + groupVal w3) * 1000000 + groupVal w2) * 1000000 + groupVal w1 := by
  simp only [coefOf, groupVal, List.foldl_cons, List.foldl_nil, List.getD_cons_succ, List.getD_cons_zero]
  omega

/-- Words 1 to 4 read back the 24 digits they were written from, whatever word 0 holds. -/
theorem coefOf_coefWords (w0 : Word) {c : Nat} (hc : c < 10 ^ 24) : coefOf (w0 :: coefWords c) = c := by
  rw [coefWords_eq, coefOf_eq]
  iterate 4 rw [groupVal_groupWord (Nat.mod_lt _ (by decide))]
  omega

/-- Word 0 of a number: its sign, its class and its exponent field. -/
def numberHead (neg : Bool) (cls x : Nat) : Word := BitVec.ofNat 20 (neg.toNat * 2 ^ 19 + (cls * 2 ^ 16 + x))

section Head
variable {neg : Bool} {cls x : Nat}

theorem fld_numberHead_exponent (hx : x < 2 ^ 16) : fld (numberHead neg cls x) 0 16 = x := by
  rw [numberHead, fld_ofNat (by decide)]
  omega

theorem fld_numberHead_class (hcls : cls < 8) (hx : x < 2 ^ 16) : fld (numberHead neg cls x) 16 3 = cls := by
  rw [numberHead, fld_ofNat (by decide)]
  omega

theorem tst_numberHead_sign (hcls : cls < 8) (hx : x < 2 ^ 16) : tst (numberHead neg cls x) 19 = neg := by
  have hfield : fld (numberHead neg cls x) 19 1 = neg.toNat := by
    have hneg := Bool.toNat_lt neg
    rw [numberHead, fld_ofNat (by decide)]
    omega
  rw [tst_eq_fld, hfield]
  cases neg <;> rfl

end Head

/-- A finite number reads back with its coefficient and the exponent that its field stands for. -/
theorem decRead_finite (neg : Bool) {x c : Nat} (hx : 1 ≤ x) (hx' : x ≤ 19999) (hc : c < 10 ^ 24) :
    decRead (numberHead neg 0 x :: coefWords c) = .fin neg c ((x : Int) - 10023) := by
  have hrange : ¬(x = 0 ∨ 19999 < x) := by omega
  simp only [decRead, List.getD_cons_zero, coefOf_coefWords _ hc, fld_numberHead_class (by decide : 0 < 8)
    (by omega : x < 2 ^ 16), fld_numberHead_exponent (by omega : x < 2 ^ 16), tst_numberHead_sign (by decide : 0 < 8)
    (by omega : x < 2 ^ 16), if_neg hrange]

theorem decRead_infinity (neg : Bool) (ws : List Word) : decRead (numberHead neg 1 0 :: ws) = .inf neg := by
  simp only [decRead, List.getD_cons_zero, fld_numberHead_class (by decide : 1 < 8) (by decide : 0 < 2 ^ 16),
    tst_numberHead_sign (by decide : 1 < 8) (by decide : 0 < 2 ^ 16)]

theorem decRead_qnan {p : Nat} (hp : p < 10 ^ 24) : decRead (numberHead false 2 0 :: coefWords p) = .qnan p := by
  simp only [decRead, List.getD_cons_zero, fld_numberHead_class (by decide : 2 < 8) (by decide : 0 < 2 ^ 16),
    coefOf_coefWords _ hp]

theorem decRead_snan {p : Nat} (hp : p < 10 ^ 24) : decRead (numberHead false 3 0 :: coefWords p) = .snan p := by
  simp only [decRead, List.getD_cons_zero, fld_numberHead_class (by decide : 3 < 8) (by decide : 0 < 2 ^ 16),
    coefOf_coefWords _ hp]

/-- Each class of number is written as its head word and its coefficient. -/
theorem normalWords_finite (neg : Bool) (c : Nat) (q : Int) : normalWords (.fin neg c q) =
    numberHead neg 0 (if c = 0 then (10000 : Int) else q + 10023).toNat :: coefWords c := by
  rw [numberHead, Nat.zero_mul, Nat.zero_add]
  rfl

/-- `digits` estimates a number's digits from its bits, by 30103 / 100000 for the logarithm of 2: for every bit count of
a 24 digit number the estimate is never above the digits, and at most two below. -/
theorem digits_estimate : ∀ l < 80, 10 ^ (l * 30103 / 100000) ≤ 10 * 2 ^ l ∧
    2 ^ (l + 1) ≤ 10 ^ (l * 30103 / 100000 + 2) := by
  decide +kernel

/-- A number's digits bracket it between two powers of 10. -/
theorem digits_bracket {c : Nat} (hpos : 0 < c) (hc : c < 10 ^ 24) :
    10 ^ digits c ≤ 10 * c ∧ c < 10 ^ digits c := by
  have hlog : Nat.log2 c < 80 := (Nat.log2_lt hpos.ne').2 (hc.trans (by decide))
  have hlow : 2 ^ Nat.log2 c ≤ c := Nat.log2_self_le hpos.ne'
  have hhigh : c < 2 ^ (Nat.log2 c + 1) := Nat.lt_log2_self
  obtain ⟨hle, hge⟩ := digits_estimate _ hlog
  rw [digits, if_neg hpos.ne']
  simp only
  generalize Nat.log2 c * 30103 / 100000 = k at hle hge ⊢
  split
  case isTrue hk => exact ⟨hle.trans (by omega), hk⟩
  case isFalse hk =>
    split
    case isTrue hk' => exact ⟨by rw [pow_succ]; omega, hk'⟩
    case isFalse hk' => exact ⟨by rw [pow_succ]; omega, hhigh.trans_le hge⟩

theorem digits_le {c : Nat} (hpos : 0 < c) (hc : c < 10 ^ 24) : digits c ≤ 24 := by
  have hlt : 10 ^ digits c < 10 ^ 25 := by
    have := (digits_bracket hpos hc).1
    omega
  exact Nat.lt_succ_iff.1 ((Nat.pow_lt_pow_iff_right (by decide)).1 hlt)

/-- The places that `dNormal` shifts a coefficient up by: as many as make 24 digits, or as the exponent can fall. -/
def normalShift (c : Nat) (q : Int) : Nat := min (24 - digits c) (q + 10022).toNat

theorem dNormal_of_ne_zero (neg : Bool) {c : Nat} (hc : c ≠ 0) (q : Int) :
    dNormal neg c q = .fin neg (c * 10 ^ normalShift c q) (q - normalShift c q) := if_neg hc

section Normal
variable {c : Nat} {q : Int} (hpos : 0 < c) (hc : c < 10 ^ 24)
include hpos hc

theorem normalShift_fits : c * 10 ^ normalShift c q < 10 ^ 24 := by
  have hsum : digits c + normalShift c q ≤ 24 := by
    have := digits_le hpos hc
    unfold normalShift
    omega
  calc c * 10 ^ normalShift c q < 10 ^ digits c * 10 ^ normalShift c q :=
        Nat.mul_lt_mul_of_pos_right (digits_bracket hpos hc).2 (Nat.pow_pos (by decide))
    _ = 10 ^ (digits c + normalShift c q) := (pow_add _ _ _).symm
    _ ≤ 10 ^ 24 := Nat.pow_le_pow_right (by decide) hsum

theorem normalShift_full (hfull : normalShift c q = 24 - digits c) : 10 ^ 23 ≤ c * 10 ^ normalShift c q := by
  have hsum : digits c + normalShift c q = 24 := by
    have := digits_le hpos hc
    omega
  have hten : 10 ^ 24 ≤ 10 * (c * 10 ^ normalShift c q) := by
    calc 10 ^ 24 = 10 ^ digits c * 10 ^ normalShift c q := by rw [← pow_add, hsum]
      _ ≤ 10 * c * 10 ^ normalShift c q := Nat.mul_le_mul_right _ (digits_bracket hpos hc).1
      _ = 10 * (c * 10 ^ normalShift c q) := Nat.mul_assoc ..
  omega

/-- A coefficient in normal form has 24 digits, or its exponent is the smallest. -/
theorem normalShift_full_or_least (hq : -10022 ≤ q) :
    10 ^ 23 ≤ c * 10 ^ normalShift c q ∨ q - normalShift c q = -10022 := by
  rcases le_total (24 - digits c) (q + 10022).toNat with hroom | hroom
  · exact .inl (normalShift_full hpos hc (min_eq_left hroom))
  · right
    rw [normalShift, min_eq_right hroom]
    omega

/-- A finite number that is not zero reads back in normal form. -/
theorem decRead_decWords_finite (neg : Bool) (hq : -10022 ≤ q) (hq' : q ≤ 9976) :
    decRead (decWords (.fin neg c q)) = .fin neg (c * 10 ^ normalShift c q) (q - normalShift c q) := by
  have hshift : (normalShift c q : Int) ≤ q + 10022 := by
    have := Nat.min_le_right (24 - digits c) (q + 10022).toNat
    unfold normalShift
    omega
  have hne : c * 10 ^ normalShift c q ≠ 0 := (Nat.mul_pos hpos (Nat.pow_pos (by decide))).ne'
  rw [decWords, dNormal_of_ne_zero neg hpos.ne', normalWords_finite, if_neg hne,
    decRead_finite neg (by omega) (by omega) (normalShift_fits hpos hc)]
  congr 1
  omega

end Normal

/-- A zero reads back with its sign. -/
theorem decRead_decWords_zero (neg : Bool) (q : Int) :
    decRead (decWords (.fin neg 0 q)) = .fin neg 0 (-23) := by
  have hzero : dNormal neg 0 q = .fin neg 0 0 := rfl
  rw [decWords, hzero, normalWords_finite, if_pos rfl]
  exact decRead_finite neg (by decide) (by decide) (by decide)

/-- A number is written in five words. -/
theorem decWords_length (d : Dec) : (decWords d).length = 5 := by
  cases d with
  | fin neg c q =>
    rw [decWords, dNormal]
    split <;> rfl
  | inf neg => rfl
  | qnan p => rfl
  | snan p => rfl

/-- Settles O57: each class of number is written as a head word and a coefficient, which read back field by field and
declet by declet; the shift of the normal form stops at 24 digits or at the smallest exponent. -/
theorem decimalsRoundTrip : Obligations.DecimalsRoundTrip := by
  unfold Obligations.DecimalsRoundTrip
  refine ⟨?declets, ?finite, ?zero, ?infinite, ?nan⟩
  case declets => exact fun n hn => decletOf_lt_and_decletVal hn
  case finite =>
    intro neg c q hpos hc hq hq'
    exact ⟨decWords_length _, normalShift c q, decRead_decWords_finite hpos hc neg hq hq', normalShift_fits hpos hc,
      normalShift_full_or_least hpos hc hq⟩
  case zero => exact fun neg q => ⟨-23, decRead_decWords_zero neg q⟩
  case infinite => exact fun neg => decRead_infinity neg (coefWords 0)
  case nan => exact fun p hp => ⟨decRead_qnan hp, decRead_snan hp⟩

end Sys2Proof.Machine
end
